-- ==== Sys2Proof/Word.lean ====
section
/-! DEFINITION. The words of the Kalvipo Orkilga 3610 and the plainest arithmetic of its manual (00_scope, 7.2). -/

namespace Sys2Proof

/-- One character of the command line or of the viewfinder line (R193). -/
abbrev Byte := BitVec 8

/-- A raw code of the 12-bit shared converter, 0..4095 (R24). -/
abbrev RawCode := BitVec 12

/-- `clampInt lo hi x` brings `x` to the range `lo..hi` (00_scope, 7.2, "Clamped to a..b"). -/
def clampInt (lo hi x : Int) : Int := if x < lo then lo else if hi < x then hi else x

/-- `clampNat lo hi x` brings `x` to the range `lo..hi` (00_scope, 7.2, "Clamped to a..b"). -/
def clampNat (lo hi x : Nat) : Nat := if x < lo then lo else if hi < x then hi else x

/-- A count that stops at `top` (R22, R72, R147, R181: "saturating at 255"). -/
def countUp (top n : Nat) : Nat := if n < top then n + 1 else top

end Sys2Proof
end

