-- ==== Sys2Proof/Syntax.lean ====
section
/-! DEFINITION. The commands of the block: one constructor of `Instr` for each row of spec/opcode_table.json, and the sets of
named values the commands carry. -/

namespace Sys2Proof

/-- The two lens axes (R37). -/
inductive Axis | zoom | focus
deriving DecidableEq, Repr

/-- The two stabiliser axes (04, introduction). -/
inductive Gyro | yaw | pitch
deriving DecidableEq, Repr

/-- The two card slots (R101). -/
inductive Slot | a | b
deriving DecidableEq, Repr

/-- The two audio channels (R145). -/
inductive Channel | ch1 | ch2
deriving DecidableEq, Repr

/-- The level of a switch input that means pressed or on (R1). -/
inductive Polarity | activeLow | activeHigh
deriving DecidableEq, Repr

/-- A push button or a switch that stays where it is put (R1). -/
inductive InputKind | momentary | latching
deriving DecidableEq, Repr

/-- The keymap layers (R11), in the order of their token codes (R17). -/
inductive Layer | plain | assign | menu
deriving DecidableEq, Repr

/-- The actions of a keymap entry (R11). `preset n` is PRESET_(n+1). -/
inductive Action
  | none | token | recToggle | mark | goodShot | stabToggle | focusModeToggle
  | preset (n : Fin 8)
  | audioAuto (ch : Channel)
  | menuToggle | assign | lock | power | flush
deriving DecidableEq, Repr

/-- The four operator encoders (section 1.2). -/
inductive Encoder | focusRing | dial | audio1 | audio2
deriving DecidableEq, Repr

/-- The beeper's patterns (R21). -/
inductive Pattern | short | double | long | reject
deriving DecidableEq, Repr

/-- The converter's four requesters, each with its group, from the highest priority (R24, R28). -/
inductive Group | gyro | level | rocker | supply
deriving DecidableEq, Repr

/-- The two lines of a motor encoder (R38). -/
inductive EncoderLine | a | b
deriving DecidableEq, Repr

/-- The focus modes (R59). -/
inductive FocusMode | manual | auto
deriving DecidableEq, Repr

/-- The timecode rates (section 5.1). -/
inductive Rate | r24 | r25 | r30 | r30df
deriving DecidableEq, Repr

/-- The timecode run modes (R89). -/
inductive RunMode | freeRun | recRun
deriving DecidableEq, Repr

/-- The record modes (R111). -/
inductive RecMode | single | relay | simul
deriving DecidableEq, Repr

/-- The bitrate classes (R111). -/
inductive Bitrate | mb25 | mb50 | mb100 | mb200
deriving DecidableEq, Repr

/-- The host's verdict on a mounted card (R104). -/
inductive Verdict | ok | bad
deriving DecidableEq, Repr

/-- The outcome the host reports for a slot at the close of a clip (R120). -/
inductive CloseOutcome | ok | writeError | notWritten
deriving DecidableEq, Repr

/-- The inputs of an audio channel (R145). -/
inductive AudioInput | mic | mic48 | line | internal
deriving DecidableEq, Repr

/-- The masters of a channel's set gain (R145). -/
inductive GainSource | panel | host | auto
deriving DecidableEq, Repr

/-- The styles of a cell, in the order of their codes 0..3 (R162, section 11.5.6). -/
inductive Style | normal | inverse | blink | dim
deriving DecidableEq, Repr

/-- The direction of a scroll (R171). -/
inductive ScrollDirection | up | down
deriving DecidableEq, Repr

/-- The kinds of live field, in table order (R163). -/
inductive FieldKind
  | timecode | recState | clipNo | supply | mediaA | mediaB | zoomBar | focus | stab | audio1 | audio2 | warning
deriving DecidableEq, Repr

/-- The kinds of warning, from priority 1 to priority 13 (R167). -/
inductive WarnKind
  | supplyCutoff | supplyLow | recFailed | mediaFull | cardError | stabFault | lensFault | fsyncLost | mediaLow
  | supplyWarn | audioOver | keysLocked | tokensFull
deriving DecidableEq, Repr

/-- The two lines of a card socket (R102). -/
inductive CardLine | detect | writeProtect
deriving DecidableEq, Repr

/-- What is wrong with a character on CMD_RX (R194). `lowLine n` is the character of all zero bits with a framing error,
judged when the line rises after `n` bit times. -/
inductive CharFault | parity | framing | oversizeLength | lowLine (bitTimes : Nat)
deriving DecidableEq, Repr

/-- The two forms of CLIP_READ's selector (R141). -/
inductive ClipSelector | byIndex (index : Nat) | byNumber (number : Nat)
deriving DecidableEq, Repr

/-- The arguments of a request. `malformed` stands for a payload that does not hold the arguments its kind needs (R196), or
in which a value that is one of a set of names lies outside its set (00_scope, 6.3). Numbers are checked by the meanings. -/
inductive Args (α : Type) | malformed | given (a : α)
deriving DecidableEq, Repr

/-- The arguments of a request that carries none: `given ()` is the empty payload. -/
abbrev NoArgs := Args Unit

/-- A timecode label (00_scope, 7.4). -/
structure Label where
  hours : Nat
  minutes : Nat
  seconds : Nat
  frames : Nat
deriving DecidableEq, Repr

/-- INPUT_CONFIG (R1). -/
structure InputConfigArgs where
  input : Nat
  enabled : Bool
  polarity : Polarity
  kind : InputKind
  wake : Bool
deriving DecidableEq, Repr

/-- A keymap entry: an action and three report flags (R11). -/
structure KeyEntry where
  action : Action
  press : Bool
  release : Bool
  long : Bool
deriving DecidableEq, Repr

/-- KEYMAP_SET (R11). -/
structure KeymapSetArgs where
  layer : Layer
  input : Nat
  entry : KeyEntry
deriving DecidableEq, Repr

/-- KEYMAP_GET (R11). -/
structure KeymapGetArgs where
  layer : Layer
  input : Nat
deriving DecidableEq, Repr

/-- ROCKER_SET (R10). -/
structure RockerArgs where
  centre : Nat
  deadZone : Nat
  fullScale : Nat
deriving DecidableEq, Repr

/-- ZOOM_GOTO and FOCUS_GOTO (R54, R61). -/
structure GotoArgs where
  position : Int
  speed : Nat
deriving DecidableEq, Repr

/-- ZOOM_DRIVE (R55). -/
structure DriveArgs where
  speed : Int
  duration : Nat
deriving DecidableEq, Repr

/-- PRESET_SET (R57). The position is optional. -/
structure PresetSetArgs where
  preset : Nat
  position : Option Int
deriving DecidableEq, Repr

/-- LENS_CONFIG (R62). -/
structure LensConfigArgs where
  zoomVmax : Nat
  presetSpeed : Nat
  zoomGap : Nat
  focusGap : Nat
deriving DecidableEq, Repr

/-- STAB_OFFSET_SET (R82). -/
structure OffsetArgs where
  axis : Gyro
  offset : Nat
deriving DecidableEq, Repr

/-- TC_MODE_SET (R96). -/
structure TcModeArgs where
  rate : Rate
  runMode : RunMode
deriving DecidableEq, Repr

/-- REC_CONFIG (R111). -/
structure RecConfigArgs where
  mode : RecMode
  current : Slot
  bitrate : Bitrate
deriving DecidableEq, Repr

/-- CLIP_CLOSED (R120). -/
structure ClipClosedArgs where
  number : Nat
  outcomeA : CloseOutcome
  outcomeB : CloseOutcome
deriving DecidableEq, Repr

/-- CARD_REPORT (R104). -/
structure CardReportArgs where
  slot : Slot
  verdict : Verdict
  remaining : Nat
deriving DecidableEq, Repr

/-- MEDIA_UPDATE (R108). -/
structure MediaUpdateArgs where
  slot : Slot
  remaining : Nat
deriving DecidableEq, Repr

/-- One channel's part of AUDIO_CONFIG (R157). -/
structure ChannelConfig where
  input : AudioInput
  source : GainSource
  limiter : Bool
  agcMax : Nat
deriving DecidableEq, Repr

/-- AUDIO_CONFIG (R157). -/
structure AudioConfigArgs where
  ch1 : ChannelConfig
  ch2 : ChannelConfig
  link : Bool
deriving DecidableEq, Repr

/-- AUDIO_GAIN_SET (R158). -/
structure GainArgs where
  channel : Nat
  gain : Nat
deriving DecidableEq, Repr

/-- OVL_WRITE (R169). -/
structure WriteArgs where
  page : Nat
  row : Nat
  column : Nat
  style : Style
  text : List Byte
deriving DecidableEq, Repr

/-- OVL_FILL (R170). -/
structure FillArgs where
  page : Nat
  row : Nat
  column : Nat
  code : Byte
  style : Style
  count : Nat
deriving DecidableEq, Repr

/-- OVL_SCROLL (R171). -/
structure ScrollArgs where
  page : Nat
  top : Nat
  bottom : Nat
  left : Nat
  right : Nat
  lines : Nat
  direction : ScrollDirection
  blank : Style
deriving DecidableEq, Repr

/-- OVL_CURSOR (R173). -/
structure CursorArgs where
  page : Nat
  row : Nat
  column : Nat
  visible : Bool
deriving DecidableEq, Repr

/-- OVL_FIELD_SET (R163). -/
structure FieldArgs where
  kind : FieldKind
  enable : Bool
  page : Nat
  row : Nat
  column : Nat
deriving DecidableEq, Repr

/-- OVL_GET (R179). -/
structure OvlGetArgs where
  page : Nat
  row : Nat
deriving DecidableEq, Repr

/-- SUPPLY_SET (R182). -/
structure SupplyArgs where
  warn : Nat
  low : Nat
  cutoff : Nat
deriving DecidableEq, Repr

/-- The commands. The first operand of a request is its frame's TAG; the payload's arguments follow as the owning block reads
them. An event's operands are the line levels, codes and times that the event brings. -/
inductive Instr
  | powerOnReset
  | warmReset
  | lineBreak
  | frameReceived (chars : List Byte)
  | interByteTimeout
  | txFrameEnd
  | unknownKind (tag kind : Byte)
  | statusGet (tag : Byte)
  | beep (tag : Byte) (args : Args Pattern)
  | inputConfig (tag : Byte) (args : Args InputConfigArgs)
  | keymapSet (tag : Byte) (args : Args KeymapSetArgs)
  | keymapGet (tag : Byte) (args : Args KeymapGetArgs)
  | rockerSet (tag : Byte) (args : Args RockerArgs)
  | tokensRead (tag : Byte)
  | beeperSet (tag : Byte) (args : Args Bool)
  | controlsGet (tag : Byte)
  | adcEnable (tag : Byte) (args : Args (List Nat))
  | adcCalibrate (tag : Byte)
  | adcGet (tag : Byte)
  | lensHome (tag : Byte) (args : Args Axis)
  | lensStop (tag : Byte) (args : Args Axis)
  | zoomGoto (tag : Byte) (args : Args GotoArgs)
  | zoomDrive (tag : Byte) (args : Args DriveArgs)
  | presetRecall (tag : Byte) (args : Args Nat)
  | presetSet (tag : Byte) (args : Args PresetSetArgs)
  | focusGoto (tag : Byte) (args : Args GotoArgs)
  | focusModeSet (tag : Byte) (args : Args FocusMode)
  | lensConfig (tag : Byte) (args : Args LensConfigArgs)
  | lensGet (tag : Byte)
  | stabModeSet (tag : Byte) (args : Args Bool)
  | stabGainTableSet (tag : Byte) (args : Args (List Nat))
  | stabOffsetSet (tag : Byte) (args : Args OffsetArgs)
  | stabGet (tag : Byte)
  | tcSet (tag : Byte) (args : Args Label)
  | tcModeSet (tag : Byte) (args : Args TcModeArgs)
  | userbitsSet (tag : Byte) (args : Args (BitVec 32))
  | tcGet (tag : Byte)
  | recConfig (tag : Byte) (args : Args RecConfigArgs)
  | clipNumberSet (tag : Byte) (args : Args Nat)
  | recStart (tag : Byte)
  | recConfirm (tag : Byte) (args : Args Nat)
  | recStop (tag : Byte)
  | clipClosed (tag : Byte) (args : Args ClipClosedArgs)
  | cardReport (tag : Byte) (args : Args CardReportArgs)
  | mediaUpdate (tag : Byte) (args : Args MediaUpdateArgs)
  | mediaFault (tag : Byte) (args : Args Slot)
  | tallySet (tag : Byte) (args : Args Bool)
  | recGet (tag : Byte)
  | clipRead (tag : Byte) (args : Args ClipSelector)
  | clipMark (tag : Byte) (args : NoArgs)
  | clipLogClear (tag : Byte)
  | audioConfig (tag : Byte) (args : Args AudioConfigArgs)
  | audioGainSet (tag : Byte) (args : Args GainArgs)
  | audioGet (tag : Byte)
  | ovlWrite (tag : Byte) (args : Args WriteArgs)
  | ovlFill (tag : Byte) (args : Args FillArgs)
  | ovlScroll (tag : Byte) (args : Args ScrollArgs)
  | ovlClear (tag : Byte) (args : Args Nat)
  | ovlCursor (tag : Byte) (args : Args CursorArgs)
  | ovlPageSelect (tag : Byte) (args : Args Nat)
  | ovlMenuSet (tag : Byte) (args : Args Bool)
  | ovlFieldSet (tag : Byte) (args : Args FieldArgs)
  | ovlGet (tag : Byte) (args : Args OvlGetArgs)
  | supplySet (tag : Byte) (args : Args SupplyArgs)
  | supplyGet (tag : Byte)
  | standbyEnter (tag : Byte) (args : NoArgs)
  | standbyExit (tag : Byte) (args : NoArgs)
  | shutdown (tag : Byte) (args : NoArgs)
  | resetPart (tag : Byte) (args : NoArgs)
  | scan (levels : Vector Bool 24)
  | longPressTimerExpiry (input : Fin 24)
  | encoderTransition (encoder : Encoder) (a b : Bool) (time : Nat)
  | beepPatternEnd
  | rockerRequestTimer
  | supplyRequestTimer
  | conversionEnd (raw : RawCode)
  | calibrationEnd (reference : RawCode)
  | controlEvent (axis : Axis)
  | stallPauseEnd (axis : Axis)
  | stallSuspectExpiry (axis : Axis)
  | directionGapEnd (axis : Axis)
  | motorEncoderEdge (axis : Axis) (line : EncoderLine) (time : Nat)
  | speedTimeout (axis : Axis)
  | seekEnd (axis : Axis)
  | homingTimeout (axis : Axis)
  | driveTimerExpiry
  | overrideWindowExpiry
  | sampleEvent
  | fsyncEdge
  | fsyncWatchExpiry
  | internalFrameTimerExpiry
  | rowMessageEnd
  | vfPresentChange (level : Bool)
  | warningExpiry (kind : WarnKind)
  | cardLineEdge (slot : Slot) (line : CardLine) (level : Bool)
  | cardLineAccepted (slot : Slot) (line : CardLine)
  | mountTimeout (slot : Slot)
  | confirmationTimeout
  | closeTimeout
  | accountingEvent
  | toggleInhibitExpiry
  | tallyBlinkToggle
  | levelEvent
  | settlingExpiry (channel : Channel)
  | shutdownLensStop
  | pwrHoldRelease
  | characterError (cause : CharFault)
deriving DecidableEq, Repr

/-- The request kinds of the catalogue, in the order of their codes 01h..3Eh (section 11.5.2). -/
inductive Kind
  | statusGet | beep
  | inputConfig | keymapSet | keymapGet | rockerSet | tokensRead | beeperSet | controlsGet
  | adcEnable | adcCalibrate | adcGet
  | lensHome | lensStop | zoomGoto | zoomDrive | presetRecall | presetSet | focusGoto | focusModeSet | lensConfig | lensGet
  | stabModeSet | stabGainTableSet | stabOffsetSet | stabGet
  | tcSet | tcModeSet | userbitsSet | tcGet
  | recConfig | clipNumberSet | recStart | recConfirm | recStop | clipClosed | cardReport | mediaUpdate | mediaFault
  | tallySet | recGet
  | clipRead | clipMark | clipLogClear
  | audioConfig | audioGainSet | audioGet
  | ovlWrite | ovlFill | ovlScroll | ovlClear | ovlCursor | ovlPageSelect | ovlMenuSet | ovlFieldSet | ovlGet
  | supplySet | supplyGet | standbyEnter | standbyExit | shutdown | resetPart
deriving DecidableEq, Repr

end Sys2Proof
end

