-- ==== Sys2Proof/Config.lean ====
section
/-! DEFINITION. The values the manual leaves open: opaque constants, without a body, so that nothing can be proved of them. -/

namespace Sys2Proof.Config

/-- The position an axis holds when an edge counts it beyond -2147483648..2147483647, of the exact sum (R38 gives the range
and no rule for leaving it). Read as a signed 32-bit number, so the range of R38 is kept. DESIGN CHOICE, log entry 4. -/
opaque positionBeyondRange : Int → BitVec 32

/-- The magnitude of the measured speed of a capture whose period is 0 µs, of the number of edges captured (R40 divides by the
period). DESIGN CHOICE, log entry 5. -/
opaque speedAtZeroPeriod : Nat → Nat

/-- The time left T reported while no slot is ACTIVE, of the model's clock (R124 defines T from the ACTIVE slot; R129 reports
it in every record state). DESIGN CHOICE, log entry 6. -/
opaque timeLeftWithoutActive : Nat → Nat

end Sys2Proof.Config
end

