-- ==== Sys2Proof/Machine/State.lean ====
section
/-! DEFINITION. Everything the manual gives the part to hold, as plain data, block by block; the replies and notices it makes;
and `State.reset`, the part right after a power-on reset. Times are in µs of the model's clock (log entry 1). -/

namespace Sys2Proof.Machine

/-! ## Values named by the chapters -/

/-- The power state (section 10.3). -/
inductive PowerState | init | run | standby | shutdown
deriving DecidableEq, Repr

/-- The supply state (R184). -/
inductive SupplyState | normal | warn | low | cutoff
deriving DecidableEq, Repr

/-- The record state (chapter 06). -/
inductive RecState | standby | starting | recording | stopping
deriving DecidableEq, Repr

/-- The reset kind READY reports (R185). -/
inductive ResetKind | powerOn | warm
deriving DecidableEq, Repr

/-- Why a slot is in ERROR (R101). -/
inductive SlotError | bad | mountTimeout | mediaFault | writeError
deriving DecidableEq, Repr

/-- The state of a card slot (section 6.1.1); the reason is present only in ERROR. -/
inductive SlotState | empty | mounting | ready | active | full | writeProtected | error (reason : SlotError)
deriving DecidableEq, Repr

/-- A set of the two slots. -/
structure SlotSet where
  a : Bool
  b : Bool
deriving DecidableEq, Repr

/-- The tally patterns (R127). -/
inductive Tally | off | blink2 | lit | blink4
deriving DecidableEq, Repr

/-- Why a start failed (R117). -/
inductive FailReason | confirmTimeout | cancelled | cardRemoved | noMedia | supply | shutdown
deriving DecidableEq, Repr

/-- Why a recording stopped (R119). -/
inductive EndReason | operator | supply | mediaFull | cardRemoved | mediaFault | shutdown
deriving DecidableEq, Repr

/-- Why the part shuts down (R188). -/
inductive ShutdownReason | operator | host | supply
deriving DecidableEq, Repr

/-- The source of an exit from standby (R187). -/
inductive ExitSource | host | input (n : Fin 24)
deriving DecidableEq, Repr

/-- The owners of a lens axis, by rising authority (R52). -/
inductive Owner | none | remote | preset | operator | homing
deriving DecidableEq, Repr

/-- The phases of a homing run (R48). -/
inductive HomingPhase | seekNear | seekFar | park
deriving DecidableEq, Repr

/-- Why a homing run was abandoned (R50). -/
inductive AbandonReason | span | timeout | stopped | standby | shutdown
deriving DecidableEq, Repr

/-- The homing status of an axis, with its phase or its abandon reason (R38). -/
inductive Homing | unhomed | homing (phase : HomingPhase) | homed | abandoned (reason : AbandonReason)
deriving DecidableEq, Repr

/-- The form of a move (R38). -/
inductive Move | goto | drive
deriving DecidableEq, Repr

/-- The derived motion state of an axis (R38). -/
inductive Motion | fault | gap | moving | idle
deriving DecidableEq, Repr

/-- The outcome of a hold's end (R52). -/
inductive MotionOutcome | arrived | elapsed | preempted | stopped | stalled
deriving DecidableEq, Repr

/-- The outcome of a homing run (R49, R50). -/
inductive HomeOutcome | homed (span : Int) | abandoned (reason : AbandonReason)
deriving DecidableEq, Repr

/-- The sub-state of an ACTIVE stabiliser (R68, R78). -/
inductive SubState | normal | pan
deriving DecidableEq, Repr

/-- The fault reasons of the stabiliser (R69). -/
inductive StabReason | noSamples | gyroRail
deriving DecidableEq, Repr

/-- The operating state of the stabiliser, with its sub-state or its fault reason (R66, R70). -/
inductive StabState | off | standby | active (sub : SubState) | fault (reason : StabReason)
deriving DecidableEq, Repr

/-- The blocking set of the stabiliser (R67). -/
structure Blocking where
  notRun : Bool
  zoomUnhomed : Bool
  gyroDisabled : Bool
  gyroInvalid : Bool
deriving DecidableEq, Repr

/-- The status of a result record (R30). -/
inductive RecStatus | ok | rail | invalid
deriving DecidableEq, Repr

/-- A result record of the converter (R30). -/
structure ResultRec where
  input : Fin 7
  value : Nat
  status : RecStatus
deriving DecidableEq, Repr

/-- The states of a clip record (R133). -/
inductive ClipState | opened | closed | unconfirmed
deriving DecidableEq, Repr

/-- The outcomes of a segment (R132). -/
inductive SegOutcome | inProgress | ok | full | removed | writeError
deriving DecidableEq, Repr

/-- A label as it is reported: the four fields and the drop-frame flag of the rate it was taken at (R85). -/
structure Stamp where
  label : Label
  drop : Bool
deriving DecidableEq, Repr

/-- A segment entry of a clip record (R132). -/
structure Segment where
  slot : Slot
  start : Stamp
  outcome : SegOutcome
deriving DecidableEq, Repr

/-- A clip record (R132). A mark entry is its label: its kind is MARKER in every entry. -/
structure ClipRec where
  number : Nat
  state : ClipState
  start : Stamp
  endLabel : Option Stamp
  dayRoll : Bool
  userBits : BitVec 32
  zoom : Option Int
  focus : Option Int
  goodShot : Bool
  over1 : Bool
  over2 : Bool
  segments : List Segment
  marks : List Stamp
deriving DecidableEq, Repr

/-- A cell of the overlay: a character code and a style (R162). -/
structure Cell where
  code : Byte
  style : Style
deriving DecidableEq, Repr

/-! ## The lines of the part -/

/-- The levels of the two lines of an encoder. -/
structure Levels where
  a : Bool
  b : Bool
deriving DecidableEq, Repr

/-- The levels of the input lines that a block reads again after the change that brought them: the encoders (R6, R38), the
card lines (R102) and VF_PRESENT (R178). `detect` is true for a card present, `protect` for a switch that is on. -/
structure Pins where
  focusRing : Levels
  dial : Levels
  audio1 : Levels
  audio2 : Levels
  zoomMotor : Levels
  focusMotor : Levels
  detectA : Bool
  detectB : Bool
  protectA : Bool
  protectB : Bool
  vfPresent : Bool
deriving DecidableEq, Repr

/-! ## Control scanner (chapter 01) -/

/-- The configuration record of a switch input (R1). -/
structure InputConfig where
  enabled : Bool
  polarity : Polarity
  kind : InputKind
  wake : Bool
deriving DecidableEq, Repr

/-- The long state of a held record (R14). -/
inductive LongState | idle | running | fired
deriving DecidableEq, Repr

/-- A held record (R14), with the kind the press was accepted with (R1) and the time its long-press timer expires. -/
structure Held where
  layer : Layer
  entry : KeyEntry
  kind : InputKind
  lockedOut : Bool
  silent : Bool
  long : LongState
  timer : Option Nat
deriving DecidableEq, Repr

/-- One switch input (R2): its configuration, accepted level, disagreement count, consecutive differing polls in STANDBY (R5)
and held record. -/
structure Switch where
  config : InputConfig
  accepted : Bool
  count : Nat
  polls : Nat
  held : Option Held
deriving DecidableEq, Repr

/-- The decoder of an operator encoder (R6). -/
structure Decoder where
  levels : Levels
  count : Int
deriving DecidableEq, Repr

/-- The rocker's state (R9). -/
inductive RockerState | ok | fault
deriving DecidableEq, Repr

/-- The zoom rocker (R8, R9, R10). -/
structure Rocker where
  params : RockerArgs
  state : RockerState
  demand : Int
  invalidRun : Nat
  railRun : Nat
  cleanRun : Nat
  misses : Nat
deriving DecidableEq, Repr

/-- The keymap of 3 layers × 24 inputs (R11). -/
structure Keymap where
  plain : Vector KeyEntry 24
  assign : Vector KeyEntry 24
  menu : Vector KeyEntry 24
deriving DecidableEq, Repr

/-- A pattern the beeper sounds, and the time its last on period ends (R21); the level of the output at a time follows from the two
(`Controls.beeperOn`). -/
structure Sounding where
  pattern : Pattern
  stop : Nat
deriving DecidableEq, Repr

/-- The control scanner (chapter 01). `scanDue` and `rockerDue` are the next expiries of its scan and rocker timers. -/
structure Controls where
  switches : Vector Switch 24
  firstScan : Bool
  lock : Bool
  assign : Vector Bool 24
  keymap : Keymap
  focusRing : Decoder
  dial : Decoder
  audio1 : Decoder
  audio2 : Decoder
  rocker : Rocker
  tokens : List (BitVec 16)
  beepEnable : Bool
  beeper : Option Sounding
  scanDue : Nat
  rockerDue : Nat
deriving DecidableEq, Repr

/-! ## Shared converter (chapter 02) -/

/-- A group in service: the records made, the inputs still to pass with the enables they were taken with, of which the first is
being converted, and the time of its conversion end (R24, R29). -/
structure Service where
  group : Group
  made : List ResultRec
  todo : List (Fin 7 × Bool)
  stop : Nat
deriving DecidableEq, Repr

/-- The converter's activity (R24); a calibration runs to the time given. -/
inductive Activity | idle | converting (service : Service) | calibrating (stop : Nat)
deriving DecidableEq, Repr

/-- A set of groups, one for each requester (R27). -/
structure GroupSet where
  gyro : Bool
  level : Bool
  rocker : Bool
  supply : Bool
deriving DecidableEq, Repr

/-- The parties a calibration is owed to or runs for (R32). -/
structure Parties where
  reset : Bool
  exit : Bool
  host : Bool
deriving DecidableEq, Repr

/-- The shared converter (chapter 02). -/
structure Converter where
  enables : Vector Bool 7
  activity : Activity
  owed : Bool
  parties : Parties
  pending : GroupSet
  offset : Int
  selfCheck : Bool
  last : Vector ResultRec 7
deriving DecidableEq, Repr

/-! ## Lens drive (chapter 03) -/

/-- A speed capture in progress: the edges to count, those counted, the time of the edge that began it, its direction (R40). -/
structure Capture where
  n : Nat
  count : Nat
  start : Nat
  positive : Bool
deriving DecidableEq, Repr

/-- An axis record (R38), with the timers and times the rules of chapter 03 keep for the axis. `forward` is the direction that
the bridge drives with the duty of the present control event (R39); `spanBefore` is the span held before the homing run in hand,
absent outside a run (R50). -/
structure AxisRec where
  position : Int
  span : Int
  spanBefore : Option Int
  homing : Homing
  owner : Owner
  move : Option Move
  target : Option Int
  gotoSpeed : Option Nat
  driveSpeed : Int
  vcmd : Int
  measured : Int
  duty : Nat
  forward : Bool
  gap : Nat
  fault : Bool
  suspect : Option Nat
  pause : Option Nat
  dutyRun : Option Nat
  lastEdge : Option Nat
  capture : Option Capture
  phaseStart : Nat
  homingTimer : Option Nat
  controlDue : Nat
deriving DecidableEq, Repr

/-- The lens drive (chapter 03). `floating` says that the bridges float (R39); `detents` holds the times of the last two focus
ring detents, the newest first (R60). -/
structure Lens where
  zoom : AxisRec
  focus : AxisRec
  presets : Vector Int 8
  zoomVmax : Nat
  presetSpeed : Nat
  zoomGap : Nat
  focusGap : Nat
  mode : FocusMode
  override : Option Nat
  detents : List Nat
  demand : Int
  blocked : Bool
  halving : Bool
  driveTimer : Option Nat
  floating : Bool
deriving DecidableEq, Repr

/-! ## Stabiliser (chapter 04) -/

/-- The stabiliser's copies of the conditions for ACTIVE other than the setting (R67). -/
structure Conditions where
  run : Bool
  zoomHomed : Bool
  gyroEnabled : Bool
  gyroValid : Bool
deriving DecidableEq, Repr

/-- One stabiliser axis (chapter 04): offset z, accumulator A, learning remainder, last T_raw, last shift target, coil duty,
runs, and the last gyro value with its status. -/
structure GyroAxis where
  z : Int
  acc : Int
  rem : Int
  traw : Int
  target : Int
  duty : Int
  satRun : Nat
  learnRun : Nat
  value : Nat
  status : RecStatus
deriving DecidableEq, Repr

/-- The stabiliser (chapter 04). `mailbox` is the newest gyro pair delivered and not yet taken (R71). -/
structure Stabiliser where
  setting : Bool
  state : StabState
  cond : Conditions
  gains : Vector Nat 17
  yaw : GyroAxis
  pitch : GyroAxis
  panExit : Nat
  railRun : Nat
  missedRun : Nat
  missed : Nat
  replacements : Nat
  mailbox : Option (ResultRec × ResultRec)
  sampleDue : Nat
deriving DecidableEq, Repr

/-! ## Timecode generator (chapter 05) -/

/-- The timecode generator (chapter 05). `present` is the reference state, `reported` the reported reference state. -/
structure Timecode where
  label : Label
  rate : Rate
  runMode : RunMode
  userBits : BitVec 32
  dayRoll : Bool
  present : Bool
  reported : Bool
  watch : Option Nat
  frameTimer : Option Nat
  recState : RecState
deriving DecidableEq, Repr

/-! ## Record supervisor (chapter 06) -/

/-- A slot record (R101), with the times the debounce of its two lines ends (R102). -/
structure SlotRec where
  state : SlotState
  remaining : Nat
  present : Bool
  protect : Bool
  mountTimer : Option Nat
  lapsed : Bool
  detectTimer : Option Nat
  protectTimer : Option Nat
deriving DecidableEq, Repr

/-- The record supervisor (chapter 06). `lampOn` is the phase of a blinking tally pattern. -/
structure Recorder where
  state : RecState
  slotA : SlotRec
  slotB : SlotRec
  mode : RecMode
  current : Slot
  bitrate : Bitrate
  nextClip : Nat
  startSet : SlotSet
  clip : Option Nat
  endLabel : Option Stamp
  confirmTimer : Option Nat
  closeTimer : Option Nat
  accountTimer : Option Nat
  inhibit : Option Nat
  mediaLow : Bool
  tally : Tally
  lampOn : Bool
  blinkTimer : Option Nat
  frontEnable : Bool
  supplyState : SupplyState
  power : PowerState
deriving DecidableEq, Repr

/-! ## Clip log (chapter 07) -/

/-- The clip log (chapter 07): the ring, newest record first, and the copies of the over conditions. -/
structure ClipLog where
  records : List ClipRec
  over1 : Bool
  over2 : Bool
deriving DecidableEq, Repr

/-! ## Audio level unit (chapter 08) -/

/-- A channel of the audio level unit (R145, R149..R152). `applied` and `input` are what the gain port carries (R146). -/
structure ChannelRec where
  input : AudioInput
  source : GainSource
  limiter : Bool
  agcMax : Nat
  setGain : Nat
  reduction : Nat
  applied : Nat
  settling : Option Nat
  level : Int
  peak : Int
  hold : Nat
  isOver : Bool
  overFlag : Bool
  attack : Nat
  quiet : Nat
  rise : Nat
  release : Nat
  fall : Nat
deriving DecidableEq, Repr

/-- The audio level unit (chapter 08). `mailbox` is the newest level pair delivered and not yet taken (R147). -/
structure Audio where
  ch1 : ChannelRec
  ch2 : ChannelRec
  link : Bool
  missed : Nat
  replacements : Nat
  mailbox : Option (ResultRec × ResultRec)
  power : PowerState
  levelDue : Nat
deriving DecidableEq, Repr

/-! ## Overlay generator (chapter 09) -/

/-- The cursor of a page (R162). -/
structure Cursor where
  row : Fin 16
  column : Fin 40
  visible : Bool
deriving DecidableEq, Repr

/-- A page: its host layer, cursor and dirty-row set (R162, R176). -/
structure Page where
  cells : Vector (Vector Cell 40) 16
  cursor : Cursor
  dirty : Vector Bool 16
deriving DecidableEq, Repr

/-- An entry of the live-field table (R163). -/
structure LiveField where
  enable : Bool
  page : Fin 4
  row : Fin 16
  column : Fin 40
  text : List Cell
deriving DecidableEq, Repr

/-- The live-field table (R163). -/
structure Fields where
  timecode : LiveField
  recState : LiveField
  clipNo : LiveField
  supply : LiveField
  mediaA : LiveField
  mediaB : LiveField
  zoomBar : LiveField
  focus : LiveField
  stab : LiveField
  audio1 : LiveField
  audio2 : LiveField
  warning : LiveField
deriving DecidableEq, Repr

/-- Whether a kind is in the warning set (R167); a TIMED kind is in it to the time given. -/
inductive Warned | absent | placed | timed (stop : Nat)
deriving DecidableEq, Repr

/-- The warning set (R167), one entry for each kind. -/
structure Warnings where
  supplyCutoff : Warned
  supplyLow : Warned
  recFailed : Warned
  mediaFull : Warned
  cardError : Warned
  stabFault : Warned
  lensFault : Warned
  fsyncLost : Warned
  mediaLow : Warned
  supplyWarn : Warned
  audioOver : Warned
  keysLocked : Warned
  tokensFull : Warned
deriving DecidableEq, Repr

/-- A batch of row messages (R177): the bytes of the message being sent, and the rows not yet begun. -/
structure Batch where
  message : List Byte
  waiting : List (Fin 16)
deriving DecidableEq, Repr

/-- The overlay generator (chapter 09). -/
structure Overlay where
  pages : Vector Page 4
  displayed : Fin 4
  menu : Bool
  saved : Option (Fin 4)
  fields : Fields
  warnings : Warnings
  batch : Option Batch
  power : PowerState
  vfPresent : Bool
deriving DecidableEq, Repr

/-! ## Supply monitor (chapter 10) -/

/-- One threshold's confirmed flag and run count (R183). -/
structure Confirm where
  flag : Bool
  run : Nat
deriving DecidableEq, Repr

/-- The step a shutdown stands at (R188): waiting for the close, lens stopped with the release due at the time given, or
PWR_HOLD released. -/
inductive ShutdownStep | waiting | lensStopped (release : Nat) | released
deriving DecidableEq, Repr

/-- A shutdown under way (R188). -/
structure Shutdown where
  reason : ShutdownReason
  step : ShutdownStep
deriving DecidableEq, Repr

/-- The supply monitor (chapter 10). `resetKind` is the kind READY is to report (R185). -/
structure Supply where
  battery : Nat
  dcin : Nat
  dcPresent : Bool
  effective : Nat
  thresholds : SupplyArgs
  warn : Confirm
  low : Confirm
  cutoff : Confirm
  state : SupplyState
  power : PowerState
  exit : Option ExitSource
  shutdown : Option Shutdown
  pwrHold : Bool
  recState : RecState
  missed : Nat
  resetKind : ResetKind
  requestDue : Nat
deriving DecidableEq, Repr

/-! ## Replies and notices -/

/-- The results of a reply (00_scope, 6.3). -/
inductive Result | ok | clamped | refused | badArgument | unknownKind | overrun | tooLate
deriving DecidableEq, Repr

/-- The reasons of a reply (00_scope, 6.3). -/
inductive Reason
  | none | recording | notRecording | supply | standby | shutdown | operator | fault | inProgress | noCard | noMedia
  | menu | locked | unhomed | busyOwner | marksFull
deriving DecidableEq, Repr

/-- CONTROLS_GET (R22). -/
structure ControlsReport where
  accepted : Vector Bool 24
  held : Vector (Option (Layer × Action)) 24
  lock : Bool
  assign : Vector Bool 24
  rocker : RockerState
  demand : Int
  misses : Nat
  tokens : Nat
  beepEnable : Bool
deriving DecidableEq, Repr

/-- The activity state as ADC_GET reports it (R35). -/
inductive ActivityName | idle | converting | calibrating
deriving DecidableEq, Repr

/-- ADC_GET (R35). -/
structure AdcReport where
  enables : Vector Bool 7
  offset : Int
  selfCheck : Bool
  activity : ActivityName
  owed : Bool
  pending : GroupSet
  last : Vector ResultRec 7
deriving DecidableEq, Repr

/-- One axis in LENS_GET (R63). -/
structure AxisReport where
  position : Int
  span : Int
  homing : Homing
  motion : Motion
  owner : Owner
  move : Option Move
  target : Option Int
  gotoSpeed : Option Nat
  vcmd : Int
  measured : Int
  duty : Nat
  fault : Bool
  suspect : Bool
deriving DecidableEq, Repr

/-- LENS_GET (R63). -/
structure LensReport where
  zoom : AxisReport
  focus : AxisReport
  zoomVmax : Nat
  presetSpeed : Nat
  zoomGap : Nat
  focusGap : Nat
  presets : Vector Int 8
  mode : FocusMode
  override : Bool
  demand : Int
  blocked : Bool
deriving DecidableEq, Repr

/-- STAB_GET (R83). The blocking set is present while the state is STANDBY. -/
structure StabReport where
  setting : Bool
  state : StabState
  blocking : Option Blocking
  cond : Conditions
  gains : Vector Nat 17
  yaw : GyroAxis
  pitch : GyroAxis
  panExit : Nat
  railRun : Nat
  missedRun : Nat
  missed : Nat
  replacements : Nat
deriving DecidableEq, Repr

/-- TC_GET (R98). -/
structure TcReport where
  label : Stamp
  rate : Rate
  runMode : RunMode
  userBits : BitVec 32
  dayRoll : Bool
  present : Bool
  advances : Bool
deriving DecidableEq, Repr

/-- One slot in REC_GET (R129); the mount timer's remaining time in ms. -/
structure SlotReport where
  state : SlotState
  remaining : Nat
  present : Bool
  protect : Bool
  lapsed : Bool
  mountLeft : Option Nat
deriving DecidableEq, Repr

/-- REC_GET (R129); remaining times in ms. -/
structure RecReport where
  state : RecState
  startSet : Option SlotSet
  clip : Option Nat
  endLabel : Option Stamp
  mode : RecMode
  current : Slot
  bitrate : Bitrate
  nextClip : Nat
  confirmLeft : Option Nat
  closeLeft : Option Nat
  inhibit : Bool
  mediaLow : Bool
  timeLeft : Nat
  tally : Tally
  frontEnable : Bool
  slotA : SlotReport
  slotB : SlotReport
deriving DecidableEq, Repr

/-- One channel in AUDIO_GET (R159); the settling time left in ms. -/
structure ChannelReport where
  config : ChannelConfig
  setGain : Nat
  reduction : Nat
  applied : Nat
  settlingLeft : Option Nat
  level : Int
  peak : Int
  segments : Nat
  isOver : Bool
  overFlag : Bool
deriving DecidableEq, Repr

/-- AUDIO_GET (R159). -/
structure AudioReport where
  link : Bool
  ch1 : ChannelReport
  ch2 : ChannelReport
  missed : Nat
  replacements : Nat
deriving DecidableEq, Repr

/-- A warning in a report, with the remaining time in ms of a TIMED one (R179). -/
structure WarnReport where
  kind : WarnKind
  left : Option Nat
deriving DecidableEq, Repr

/-- OVL_GET (R179, R197): `fields` carries the table with its rendered texts. -/
structure OvlReport where
  displayed : Fin 4
  menu : Bool
  saved : Option (Fin 4)
  fields : Fields
  warnings : List WarnReport
  shown : Option WarnKind
  cursors : List Cursor
  dirty : List (Vector Bool 16)
  vfPresent : Bool
  sending : Bool
  hostCells : Vector Cell 40
  displayedCells : Vector Cell 40
deriving DecidableEq, Repr

/-- SUPPLY_GET (R191). -/
structure SupplyReport where
  battery : Nat
  dcin : Nat
  dcPresent : Bool
  effective : Nat
  thresholds : SupplyArgs
  warn : Confirm
  low : Confirm
  cutoff : Confirm
  state : SupplyState
  power : PowerState
  exit : Option ExitSource
  pwrHold : Bool
  missed : Nat
deriving DecidableEq, Repr

/-- STATUS_GET (R200). -/
structure StatusReport where
  power : PowerState
  supply : SupplyState
  recState : RecState
  slotA : SlotState
  slotB : SlotState
  stab : StabState
  zoomHoming : Homing
  zoomMotion : Motion
  focusHoming : Homing
  focusMotion : Motion
  rocker : RockerState
  tokens : Nat
  present : Bool
  menu : Bool
  selfCheck : Bool
  warnings : List WarnKind
  linkError : Bool
  noticesLost : Bool
  requests : Nat
  notices : Nat
deriving DecidableEq, Repr

/-- What a reply carries beyond its result and reason. -/
inductive Body
  | none
  | status (r : StatusReport)
  | keyEntry (e : KeyEntry)
  | tokens (read : List (BitVec 16)) (left : Nat)
  | controls (r : ControlsReport)
  | adc (r : AdcReport)
  | lens (r : LensReport)
  | stab (r : StabReport)
  | timecode (r : TcReport)
  | started (clip : Nat) (slots : SlotSet)
  | confirmed (start : Stamp) (slots : SlotSet)
  | stopped (endLabel : Stamp)
  | recorder (r : RecReport)
  | clip (held : Nat) (found : Option (Nat × ClipRec))
  | marked (clip count : Nat) (label : Stamp)
  | audio (r : AudioReport)
  | overlay (r : OvlReport)
  | supply (r : SupplyReport)
deriving DecidableEq, Repr

/-- A reply: its KIND and TAG, result, reason and what else it carries (section 6.1); `overrun` says that it was made for a
frame that found four requests held, so that it holds a place of the overrun list and no entry of the queue (R195). -/
structure Reply where
  kind : Byte
  tag : Byte
  result : Result
  reason : Reason
  body : Body
  overrun : Bool
deriving DecidableEq, Repr

/-- What a change of a clip record from the panel reports (R139, R140). -/
inductive ClipChange | mark (count : Nat) (label : Stamp) | goodShot (flag : Bool)
deriving DecidableEq, Repr

/-- The notices of the catalogue (section 11.5.2), with what each carries. -/
inductive Notice
  | ready (kind : ResetKind) (passed : Bool)
  | wake (source : ExitSource) (passed : Bool)
  | powerDown (reason : ShutdownReason)
  | supplyState (state : SupplyState) (effective : Nat) (dcPresent : Bool)
  | tokensReady
  | adcDone (passed : Bool) (offset : Int) (reference : Nat)
  | motionDone (axis : Axis) (outcome : MotionOutcome) (owner : Owner) (position : Int)
  | homeDone (axis : Axis) (outcome : HomeOutcome)
  | stabState (state : StabState) (blocking : Option Blocking)
  | fsyncState (present : Bool) (label : Stamp)
  | cardInserted (slot : Slot) (protect : Bool)
  | cardRemoved (slot : Slot)
  | recBegin (clip : Nat) (slots : SlotSet)
  | recFailed (clip : Nat) (reason : FailReason)
  | recEnd (clip : Nat) (reason : EndReason) (label : Stamp)
  | relay (clip : Nat) (source target : Slot) (label : Stamp)
  | clipChanged (clip : Nat) (change : ClipChange)
  | audioSource (channel : Channel) (source : GainSource) (setGain : Nat)
  | audioSettled (channel : Channel) (input : AudioInput)
  | menuState (mode : Bool)
deriving DecidableEq, Repr

/-! ## Command port (chapter 11) -/

/-- The frame assembler (R194): hunting, or in a frame with the characters taken after SYNC. -/
inductive Assembler | hunting | inFrame (chars : List Byte)
deriving DecidableEq, Repr

/-- How far a held request has come (R196): not taken, accepted and waiting for its calibration to begin (R33), or taken. -/
inductive EntryState | untaken | accepted | taken
deriving DecidableEq, Repr

/-- An entry of the request queue (R193). The payload is absent where a request command brought the
frame, whose arguments are those of the command that takes it (DESIGN CHOICE, log entry 3). -/
structure Entry where
  kind : Byte
  tag : Byte
  payload : Option (List Byte)
  state : EntryState
deriving DecidableEq, Repr

/-- What the transmitter sends (R197): frame `part` of a reply, or a notice. -/
inductive Sending | reply (r : Reply) (part : Nat) | notice (n : Notice)
deriving DecidableEq, Repr

/-- The command port (chapter 11). `replies` holds the replies waiting, the oldest first, those of the overrun list
among them. -/
structure Port where
  assembler : Assembler
  queue : List Entry
  replies : List Reply
  notices : List Notice
  tx : Option Sending
  linkError : Bool
  noticesLost : Bool
deriving DecidableEq, Repr

/-! ## The part -/

/-- The whole part, the model's clock in µs (log entry 1) and the queue of commands that wait (log entry 2). -/
structure State where
  pins : Pins
  controls : Controls
  conv : Converter
  lens : Lens
  stab : Stabiliser
  tc : Timecode
  recorder : Recorder
  log : ClipLog
  audio : Audio
  ovl : Overlay
  supply : Supply
  port : Port
  clock : Nat
  pending : List Instr
deriving DecidableEq, Repr

/-- No command of this block stops the part: chapters 00..11 give each event and each request an effect or a reply
(DEDUCED, log entry 8). -/
inductive Fault
deriving DecidableEq, Repr

/-- Why a command has no meaning. -/
inductive Refusal
  /-- Raised by an arm of `exec` whose command has no meaning yet, by its mnemonic; no arm raises it now. Safe. -/
  | notModelled (mnemonic : String)
deriving DecidableEq, Repr

/-! ## Power-on reset -/

/-- The cells of a text in one style. -/
def cellsOf (style : Style) (text : String) : List Cell :=
  text.toList.map fun c => ⟨BitVec.ofNat 8 c.toNat, style⟩

/-- A blank cell (R162). -/
def Cell.blank : Cell := ⟨0x20, .normal⟩

/-- The lines at rest: encoders low-low, sockets empty, switches off, no viewfinder. DESIGN CHOICE, log entry 7. -/
def Pins.atRest : Pins :=
  { focusRing := ⟨false, false⟩, dial := ⟨false, false⟩, audio1 := ⟨false, false⟩, audio2 := ⟨false, false⟩,
    zoomMotor := ⟨false, false⟩, focusMotor := ⟨false, false⟩, detectA := false, detectB := false,
    protectA := false, protectB := false, vfPresent := false }

/-- A keymap entry with no report flag. -/
def bareEntry (a : Action) : KeyEntry := ⟨a, false, false, false⟩

/-- The PLAIN layer of the default keymap (R11). -/
def Keymap.defaultPlain (i : Fin 24) : Action :=
  match i.val with
  | 0 | 1 => .recToggle
  | 2 => .assign
  | 3 => .menuToggle
  | 4 => .lock
  | 5 => .power
  | 6 => .stabToggle
  | 7 => .focusModeToggle
  | 8 => .preset 0
  | 9 => .preset 1
  | 10 => .preset 2
  | 11 => .preset 3
  | 12 => .mark
  | 13 => .audioAuto .ch1
  | 14 => .audioAuto .ch2
  | 15 => .goodShot
  | _ => .token

/-- The ASSIGN layer of the default keymap (R11). -/
def Keymap.defaultAssign (i : Fin 24) : Action :=
  match i.val with
  | 8 => .preset 4
  | 9 => .preset 5
  | 10 => .preset 6
  | 11 => .preset 7
  | _ => Keymap.defaultPlain i

/-- The MENU layer of the default keymap (R11). -/
def Keymap.defaultMenu (i : Fin 24) : Action :=
  match i.val with
  | 0 | 1 | 4 | 5 => Keymap.defaultPlain i
  | _ => .token

/-- The default keymap (R11). -/
def Keymap.default : Keymap :=
  { plain := .ofFn fun i => bareEntry (Keymap.defaultPlain i),
    assign := .ofFn fun i => bareEntry (Keymap.defaultAssign i),
    menu := .ofFn fun i => bareEntry (Keymap.defaultMenu i) }

/-- The configuration of a switch input after power-on (R23). -/
def InputConfig.powerOn (i : Fin 24) : InputConfig :=
  { enabled := true, polarity := .activeLow,
    kind := if i.val = 4 ∨ i.val = 5 then .latching else .momentary,
    wake := decide (i.val = 0 ∨ i.val = 1) }

/-- The rocker after power-on (R23). -/
def Rocker.powerOn : Rocker :=
  { params := ⟨2048, 80, 1800⟩, state := .ok, demand := 0, invalidRun := 0, railRun := 0, cleanRun := 0, misses := 0 }

/-- The control scanner after power-on (R23), at clock 0. -/
def Controls.powerOn : Controls :=
  { switches := .ofFn fun i => ⟨.powerOn i, false, 0, 0, none⟩, firstScan := true, lock := false,
    assign := .replicate 24 false, keymap := .default,
    focusRing := ⟨⟨false, false⟩, 0⟩, dial := ⟨⟨false, false⟩, 0⟩, audio1 := ⟨⟨false, false⟩, 0⟩,
    audio2 := ⟨⟨false, false⟩, 0⟩,
    rocker := .powerOn, tokens := [], beepEnable := true, beeper := none, scanDue := 1000, rockerDue := 5000 }

/-- The last result records before an input's first delivery (R35). -/
def Converter.noResults : Vector ResultRec 7 := .ofFn fun i => ⟨i, 0, .invalid⟩

/-- The converter after power-on (R36), at clock 0: the INIT calibration has begun. -/
def Converter.powerOn : Converter :=
  { enables := .replicate 7 true, activity := .calibrating 2000, owed := false, parties := ⟨true, false, false⟩,
    pending := ⟨false, false, false, false⟩, offset := 0, selfCheck := false, last := Converter.noResults }

/-- An axis after power-on with its nominal span (R65), at clock 0. -/
def AxisRec.powerOn (span : Int) : AxisRec :=
  { position := 0, span := span, spanBefore := none, homing := .unhomed, owner := .none, move := none, target := none, gotoSpeed := none,
    driveSpeed := 0, vcmd := 0, measured := 0, duty := 0, forward := false, gap := 0,
    fault := false, suspect := none, pause := none,
    dutyRun := none, lastEdge := none, capture := none, phaseStart := 0, homingTimer := none, controlDue := 1000 }

/-- The lens drive after power-on (R62, R65). -/
def Lens.powerOn : Lens :=
  { zoom := .powerOn 16000, focus := .powerOn 24000, presets := .replicate 8 0, zoomVmax := 8000, presetSpeed := 1500,
    zoomGap := 4, focusGap := 4, mode := .manual, override := none, detents := [], demand := 0, blocked := false,
    halving := false, driveTimer := none, floating := true }

/-- A stabiliser axis after power-on (R84). -/
def GyroAxis.powerOn : GyroAxis :=
  { z := 32768, acc := 0, rem := 0, traw := 0, target := 0, duty := 512, satRun := 0, learnRun := 0, value := 0,
    status := .invalid }

/-- The stabiliser after power-on (R84), at clock 0. -/
def Stabiliser.powerOn : Stabiliser :=
  { setting := true, state := .standby, cond := ⟨false, false, true, false⟩, gains := .ofFn fun k => 4000 + 2000 * k.val,
    yaw := .powerOn, pitch := .powerOn, panExit := 0, railRun := 0, missedRun := 0, missed := 0, replacements := 0,
    mailbox := none, sampleDue := 1000 }

/-- The timecode generator after power-on (R100), at clock 0. -/
def Timecode.powerOn : Timecode :=
  { label := ⟨0, 0, 0, 0⟩, rate := .r25, runMode := .freeRun, userBits := 0, dayRoll := false, present := true,
    reported := true, watch := some 100000, frameTimer := none, recState := .standby }

/-- A slot right after a reset at the time `t` (R130): its write protect is the level of the line, and a card detected on the
line is accepted as an insertion after 50 ms (R102). -/
def SlotRec.afterReset (t : Nat) (detect protect : Bool) : SlotRec :=
  { state := .empty, remaining := 0, present := false, protect := protect, mountTimer := none, lapsed := false,
    detectTimer := if detect then some (t + 50000) else none, protectTimer := none }

/-- The record supervisor after power-on (R130), at clock 0. -/
def Recorder.powerOn (p : Pins) : Recorder :=
  { state := .standby, slotA := .afterReset 0 p.detectA p.protectA, slotB := .afterReset 0 p.detectB p.protectB,
    mode := .single, current := .a, bitrate := .mb50, nextClip := 1, startSet := ⟨false, false⟩, clip := none,
    endLabel := none, confirmTimer := none, closeTimer := none, accountTimer := none, inhibit := none, mediaLow := false,
    tally := .off, lampOn := false, blinkTimer := none, frontEnable := true, supplyState := .normal, power := .init }

/-- The clip log after power-on (R144). -/
def ClipLog.powerOn : ClipLog := { records := [], over1 := false, over2 := false }

/-- A channel after power-on (R161). -/
def ChannelRec.powerOn : ChannelRec :=
  { input := .mic, source := .panel, limiter := true, agcMax := 48, setGain := 24, reduction := 0, applied := 24,
    settling := none, level := -600, peak := -600, hold := 0, isOver := false, overFlag := false, attack := 0, quiet := 0,
    rise := 0, release := 0, fall := 0 }

/-- The audio level unit after power-on (R161), at clock 0. -/
def Audio.powerOn : Audio :=
  { ch1 := .powerOn, ch2 := .powerOn, link := false, missed := 0, replacements := 0, mailbox := none, power := .init,
    levelDue := 1000 }

/-- A page after power-on (R180). -/
def Page.powerOn : Page :=
  { cells := .replicate 16 (.replicate 40 .blank), cursor := ⟨0, 0, false⟩, dirty := .replicate 16 true }

/-- A live-field entry after power-on, with its rendered text (R180). -/
def LiveField.powerOn (text : String) : LiveField :=
  { enable := false, page := 0, row := 0, column := 0, text := cellsOf .normal text }

/-- The live-field table after power-on (R180), its texts rendered from the other blocks' state after the reset. -/
def Fields.powerOn : Fields :=
  { timecode := .powerOn "00:00:00:00", recState := .powerOn "STBY", clipNo := .powerOn "#0001", supply := .powerOn "B 0.0V",
    mediaA := .powerOn "A EMPTY", mediaB := .powerOn "B EMPTY", zoomBar := .powerOn "W----------T", focus := .powerOn "MF  ",
    stab := .powerOn "---", audio1 := .powerOn "1.......... ", audio2 := .powerOn "2.......... ",
    warning := .powerOn "                " }

/-- The empty warning set. -/
def Warnings.empty : Warnings :=
  { supplyCutoff := .absent, supplyLow := .absent, recFailed := .absent, mediaFull := .absent, cardError := .absent,
    stabFault := .absent, lensFault := .absent, fsyncLost := .absent, mediaLow := .absent, supplyWarn := .absent,
    audioOver := .absent, keysLocked := .absent, tokensFull := .absent }

/-- The overlay generator after power-on (R180). -/
def Overlay.powerOn (p : Pins) : Overlay :=
  { pages := .replicate 4 .powerOn, displayed := 0, menu := false, saved := none, fields := .powerOn, warnings := .empty,
    batch := none, power := .init, vfPresent := p.vfPresent }

/-- The supply monitor after power-on (R192), at clock 0. -/
def Supply.powerOn : Supply :=
  { battery := 0, dcin := 0, dcPresent := false, effective := 0, thresholds := ⟨13200, 12000, 11000⟩, warn := ⟨false, 0⟩,
    low := ⟨false, 0⟩, cutoff := ⟨false, 0⟩, state := .normal, power := .init, exit := none, shutdown := none,
    pwrHold := true, recState := .standby, missed := 0, resetKind := .powerOn, requestDue := 10000 }

/-- The command port after power-on (R202). -/
def Port.powerOn : Port :=
  { assembler := .hunting, queue := [], replies := [], notices := [], tx := none, linkError := false, noticesLost := false }

/-- The part right after a power-on reset, with the input lines at the levels given. -/
def State.powerOn (p : Pins) : State :=
  { pins := p, controls := .powerOn, conv := .powerOn, lens := .powerOn, stab := .powerOn, tc := .powerOn,
    recorder := .powerOn p, log := .powerOn, audio := .powerOn, ovl := .powerOn p, supply := .powerOn, port := .powerOn,
    clock := 0, pending := [] }

/-- The part right after a power-on reset, its input lines at rest (log entry 7) and no command waiting. -/
def State.reset : State := State.powerOn Pins.atRest

end Sys2Proof.Machine
end

