-- ==== Sys2Proof/Machine/Timing.lean ====
section
/-! DEFINITION. The lengths of the part's timers, in µs, and the model's clock (log entry 1). -/

namespace Sys2Proof.Machine

/-- A scan in RUN, INIT and SHUTDOWN (R2, R4). -/
def scanPeriod : Nat := 1000
/-- A poll in STANDBY (R5). -/
def pollPeriod : Nat := 32000
/-- The long-press timer (R14). -/
def longPressTime : Nat := 800000
/-- The rocker request interval (R8). -/
def rockerPeriod : Nat := 5000
/-- The 10 ms in which three ring detents make the long step (R60). -/
def detentWindow : Nat := 10000
/-- A conversion (R24). -/
def conversionTime : Nat := 8
/-- A calibration (R31). -/
def calibrationTime : Nat := 2000
/-- A control event, a sample event, a level event (R41, R71, R147). -/
def eventPeriod : Nat := 1000
/-- The time without an edge that makes the speed 0, a stall suspect or the end of a seek (R40, R45, R48). -/
def noEdgeTime : Nat := 50000
/-- The stall pause (R45). -/
def stallPauseTime : Nat := 20000
/-- The life of a stall suspect (R45). -/
def suspectTime : Nat := 500000
/-- The homing timer (R47). -/
def homingTime : Nat := 25000000
/-- The focus override window (R60). -/
def overrideTime : Nat := 2000000
/-- The FSYNC watch (R90). -/
def watchTime : Nat := 100000
/-- The debounce of a card line (R102). -/
def cardDebounce : Nat := 50000
/-- The mount timer (R103). -/
def mountTime : Nat := 10000000
/-- The confirmation timer (R114). -/
def confirmTime : Nat := 500000
/-- The close timer (R119). -/
def closeTime : Nat := 3000000
/-- The accounting timer (R122). -/
def accountTime : Nat := 1000000
/-- The toggle inhibit (R118). -/
def inhibitTime : Nat := 300000
/-- The settling period (R156). -/
def settlingTime : Nat := 500000
/-- The time from the lens stop to the release of PWR_HOLD (R188). -/
def releaseTime : Nat := 100000

/-- The period of the internal frame timer (section 5.1). -/
def framePeriod : Rate → Nat
  | .r24 => 41667
  | .r25 => 40000
  | .r30 | .r30df => 33367

/-- Half the period of a blinking tally pattern (R127). -/
def blinkHalf : Tally → Nat
  | .blink2 => 250000
  | .blink4 => 125000
  | .off | .lit => 0

/-- The periods of a beeper pattern, on and off by turns from an on period (R21, column Sound). -/
def patternPeriods : Pattern → List Nat
  | .short => [40000]
  | .double => [40000, 60000, 40000]
  | .long => [400000]
  | .reject => [30000, 30000, 30000, 30000, 30000]

/-- The duration of a beeper pattern (R21, column Duration). -/
def patternTime : Pattern → Nat
  | .short => 40000
  | .double => 140000
  | .long => 400000
  | .reject => 150000

/-- The time a TIMED warning stays in the set; none for a CONDITION kind (R167). -/
def warnTime : WarnKind → Option Nat
  | .recFailed => some 3000000
  | .audioOver => some 1000000
  | .keysLocked | .tokensFull => some 2000000
  | .supplyCutoff | .supplyLow | .mediaFull | .cardError | .stabFault | .lensFault | .fsyncLost | .mediaLow
  | .supplyWarn => none

/-- The supply request interval (R181). -/
def supplyPeriod : PowerState → Nat
  | .standby => 100000
  | .init | .run | .shutdown => 10000

/-- The interval of the switch scan (R2, R4, R5). -/
def scanInterval : PowerState → Nat
  | .standby => pollPeriod
  | .init | .run | .shutdown => scanPeriod

/-- The clock comes to the time of an event that is due at `t`; it never goes back (log entry 1). -/
def State.atTime (t : Nat) (s : State) : State := { s with clock := max s.clock t }

/-- The whole ms left at the time `now` of a timer that expires at `t`, a started ms counted whole; 0 where
the time is reached and the expiry not yet commanded, also of the settling time that R145 gives as 1..500 ms. DESIGN CHOICE, log entry
1. -/
def msLeft (now t : Nat) : Nat := (t - now + 999) / 1000

end Sys2Proof.Machine
end

