-- ==== Sys2Proof/Machine/Access.lean ====
section
/-! DEFINITION. Reading and writing the pieces of State that come in numbers: axes, slots, channels, inputs, fields, warnings. -/

namespace Sys2Proof.Machine

/-- The record of a lens axis (R38). -/
def Lens.axis (t : Lens) : Axis → AxisRec
  | .zoom => t.zoom
  | .focus => t.focus

/-- Replaces the record of a lens axis. -/
def Lens.setAxis (t : Lens) (x : AxisRec) : Axis → Lens
  | .zoom => { t with zoom := x }
  | .focus => { t with focus := x }

/-- The record of a lens axis in the part. -/
def State.axis (s : State) (ax : Axis) : AxisRec := s.lens.axis ax

/-- Replaces the record of a lens axis in the part. -/
def State.setAxis (s : State) (ax : Axis) (a : AxisRec) : State := { s with lens := s.lens.setAxis a ax }

/-- The levels of a motor encoder's lines (R38). -/
def Pins.motor (p : Pins) : Axis → Levels
  | .zoom => p.zoomMotor
  | .focus => p.focusMotor

/-- Replaces the levels of a motor encoder's lines. -/
def Pins.setMotor (p : Pins) (l : Levels) : Axis → Pins
  | .zoom => { p with zoomMotor := l }
  | .focus => { p with focusMotor := l }

/-- The record of a card slot (R101). -/
def Recorder.slot (t : Recorder) : Slot → SlotRec
  | .a => t.slotA
  | .b => t.slotB

/-- Replaces the record of a card slot. -/
def Recorder.setSlot (t : Recorder) (x : SlotRec) : Slot → Recorder
  | .a => { t with slotA := x }
  | .b => { t with slotB := x }

/-- The other slot. -/
def otherSlot : Slot → Slot
  | .a => .b
  | .b => .a

/-- Whether a slot is in a set. -/
def SlotSet.has (t : SlotSet) : Slot → Bool
  | .a => t.a
  | .b => t.b

/-- Puts a slot into a set or takes it out. -/
def SlotSet.put (t : SlotSet) (x : Bool) : Slot → SlotSet
  | .a => { t with a := x }
  | .b => { t with b := x }

/-- The empty set of slots. -/
def SlotSet.empty : SlotSet := ⟨false, false⟩

/-- The set of one slot. -/
def SlotSet.only (sl : Slot) : SlotSet := SlotSet.empty.put true sl

/-- Whether a set holds no slot. -/
def SlotSet.isEmpty (t : SlotSet) : Bool := !t.a && !t.b

/-- The detect line of a socket. -/
def Pins.detect (p : Pins) : Slot → Bool
  | .a => p.detectA
  | .b => p.detectB

/-- The write-protect line of a socket. -/
def Pins.protect (p : Pins) : Slot → Bool
  | .a => p.protectA
  | .b => p.protectB

/-- Replaces the level of a card line. -/
def Pins.setCard (p : Pins) (level : Bool) : Slot → CardLine → Pins
  | .a, .detect => { p with detectA := level }
  | .b, .detect => { p with detectB := level }
  | .a, .writeProtect => { p with protectA := level }
  | .b, .writeProtect => { p with protectB := level }

/-- The record of an audio channel (R145). -/
def Audio.channel (t : Audio) : Channel → ChannelRec
  | .ch1 => t.ch1
  | .ch2 => t.ch2

/-- Replaces the record of an audio channel. -/
def Audio.setChannel (t : Audio) (x : ChannelRec) : Channel → Audio
  | .ch1 => { t with ch1 := x }
  | .ch2 => { t with ch2 := x }

/-- A stabiliser axis. -/
def Stabiliser.axis (t : Stabiliser) : Gyro → GyroAxis
  | .yaw => t.yaw
  | .pitch => t.pitch

/-- Replaces a stabiliser axis. -/
def Stabiliser.setAxis (t : Stabiliser) (x : GyroAxis) : Gyro → Stabiliser
  | .yaw => { t with yaw := x }
  | .pitch => { t with pitch := x }

/-- The decoder of an operator encoder (R6). -/
def Controls.decoder (t : Controls) : Encoder → Decoder
  | .focusRing => t.focusRing
  | .dial => t.dial
  | .audio1 => t.audio1
  | .audio2 => t.audio2

/-- Replaces the decoder of an operator encoder. -/
def Controls.setDecoder (t : Controls) (x : Decoder) : Encoder → Controls
  | .focusRing => { t with focusRing := x }
  | .dial => { t with dial := x }
  | .audio1 => { t with audio1 := x }
  | .audio2 => { t with audio2 := x }

/-- The levels of an operator encoder's lines (R6). -/
def Pins.encoder (t : Pins) : Encoder → Levels
  | .focusRing => t.focusRing
  | .dial => t.dial
  | .audio1 => t.audio1
  | .audio2 => t.audio2

/-- Replaces the levels of an operator encoder's lines. -/
def Pins.setEncoder (t : Pins) (x : Levels) : Encoder → Pins
  | .focusRing => { t with focusRing := x }
  | .dial => { t with dial := x }
  | .audio1 => { t with audio1 := x }
  | .audio2 => { t with audio2 := x }

/-- A layer of the keymap (R11). -/
def Keymap.layer (t : Keymap) : Layer → Vector KeyEntry 24
  | .plain => t.plain
  | .assign => t.assign
  | .menu => t.menu

/-- Replaces a layer of the keymap. -/
def Keymap.setLayer (t : Keymap) (x : Vector KeyEntry 24) : Layer → Keymap
  | .plain => { t with plain := x }
  | .assign => { t with assign := x }
  | .menu => { t with menu := x }

/-- Whether a group is in a set of groups. -/
def GroupSet.has (t : GroupSet) : Group → Bool
  | .gyro => t.gyro
  | .level => t.level
  | .rocker => t.rocker
  | .supply => t.supply

/-- Puts a group into a set or takes it out. -/
def GroupSet.put (t : GroupSet) (x : Bool) : Group → GroupSet
  | .gyro => { t with gyro := x }
  | .level => { t with level := x }
  | .rocker => { t with rocker := x }
  | .supply => { t with supply := x }

/-- An entry of the live-field table (R163). -/
def Fields.entry (t : Fields) : FieldKind → LiveField
  | .timecode => t.timecode
  | .recState => t.recState
  | .clipNo => t.clipNo
  | .supply => t.supply
  | .mediaA => t.mediaA
  | .mediaB => t.mediaB
  | .zoomBar => t.zoomBar
  | .focus => t.focus
  | .stab => t.stab
  | .audio1 => t.audio1
  | .audio2 => t.audio2
  | .warning => t.warning

/-- Replaces an entry of the live-field table. -/
def Fields.setEntry (t : Fields) (x : LiveField) : FieldKind → Fields
  | .timecode => { t with timecode := x }
  | .recState => { t with recState := x }
  | .clipNo => { t with clipNo := x }
  | .supply => { t with supply := x }
  | .mediaA => { t with mediaA := x }
  | .mediaB => { t with mediaB := x }
  | .zoomBar => { t with zoomBar := x }
  | .focus => { t with focus := x }
  | .stab => { t with stab := x }
  | .audio1 => { t with audio1 := x }
  | .audio2 => { t with audio2 := x }
  | .warning => { t with warning := x }

/-- The 12 kinds in table order (R163). -/
def allFields : List FieldKind :=
  [.timecode, .recState, .clipNo, .supply, .mediaA, .mediaB, .zoomBar, .focus,
    .stab, .audio1, .audio2, .warning]

/-- Whether a kind is in the warning set (R167). -/
def Warnings.entry (t : Warnings) : WarnKind → Warned
  | .supplyCutoff => t.supplyCutoff
  | .supplyLow => t.supplyLow
  | .recFailed => t.recFailed
  | .mediaFull => t.mediaFull
  | .cardError => t.cardError
  | .stabFault => t.stabFault
  | .lensFault => t.lensFault
  | .fsyncLost => t.fsyncLost
  | .mediaLow => t.mediaLow
  | .supplyWarn => t.supplyWarn
  | .audioOver => t.audioOver
  | .keysLocked => t.keysLocked
  | .tokensFull => t.tokensFull

/-- Replaces a kind's entry in the warning set. -/
def Warnings.setEntry (t : Warnings) (x : Warned) : WarnKind → Warnings
  | .supplyCutoff => { t with supplyCutoff := x }
  | .supplyLow => { t with supplyLow := x }
  | .recFailed => { t with recFailed := x }
  | .mediaFull => { t with mediaFull := x }
  | .cardError => { t with cardError := x }
  | .stabFault => { t with stabFault := x }
  | .lensFault => { t with lensFault := x }
  | .fsyncLost => { t with fsyncLost := x }
  | .mediaLow => { t with mediaLow := x }
  | .supplyWarn => { t with supplyWarn := x }
  | .audioOver => { t with audioOver := x }
  | .keysLocked => { t with keysLocked := x }
  | .tokensFull => { t with tokensFull := x }

/-- The 13 kinds from the highest priority (R167). -/
def allWarnings : List WarnKind :=
  [.supplyCutoff, .supplyLow, .recFailed, .mediaFull, .cardError, .stabFault, .lensFault,
    .fsyncLost, .mediaLow, .supplyWarn, .audioOver, .keysLocked, .tokensFull]

/-- Whether an entry is in the warning set. -/
def Warned.isIn : Warned → Bool
  | .absent => false
  | .placed | .timed _ => true

/-- Replaces one switch input of the scanner. -/
def State.setSwitch (s : State) (i : Fin 24) (w : Switch) : State :=
  { s with controls.switches := s.controls.switches.set i w }

/-- Applies `f` to each member of a vector with its place. -/
def vmap (f : Fin n → α → β) (v : Vector α n) : Vector β n := .ofFn fun i => f i (v.get i)

end Sys2Proof.Machine
end

