-- ==== Sys2Proof/Machine/Wire.lean ====
section
/-! DEFINITION. The codes and byte layouts of section 11.5: kinds, results, reasons, the token, the label, the clip record, the
viewfinder row message and the frame. -/

namespace Sys2Proof.Machine

/-- The code of a request kind (section 11.5.2). -/
def kindCode : Kind → Byte
  | .statusGet => 0x01
  | .beep => 0x02
  | .inputConfig => 0x03
  | .keymapSet => 0x04
  | .keymapGet => 0x05
  | .rockerSet => 0x06
  | .tokensRead => 0x07
  | .beeperSet => 0x08
  | .controlsGet => 0x09
  | .adcEnable => 0x0a
  | .adcCalibrate => 0x0b
  | .adcGet => 0x0c
  | .lensHome => 0x0d
  | .lensStop => 0x0e
  | .zoomGoto => 0x0f
  | .zoomDrive => 0x10
  | .presetRecall => 0x11
  | .presetSet => 0x12
  | .focusGoto => 0x13
  | .focusModeSet => 0x14
  | .lensConfig => 0x15
  | .lensGet => 0x16
  | .stabModeSet => 0x17
  | .stabGainTableSet => 0x18
  | .stabOffsetSet => 0x19
  | .stabGet => 0x1a
  | .tcSet => 0x1b
  | .tcModeSet => 0x1c
  | .userbitsSet => 0x1d
  | .tcGet => 0x1e
  | .recConfig => 0x1f
  | .clipNumberSet => 0x20
  | .recStart => 0x21
  | .recConfirm => 0x22
  | .recStop => 0x23
  | .clipClosed => 0x24
  | .cardReport => 0x25
  | .mediaUpdate => 0x26
  | .mediaFault => 0x27
  | .tallySet => 0x28
  | .recGet => 0x29
  | .clipRead => 0x2a
  | .clipMark => 0x2b
  | .clipLogClear => 0x2c
  | .audioConfig => 0x2d
  | .audioGainSet => 0x2e
  | .audioGet => 0x2f
  | .ovlWrite => 0x30
  | .ovlFill => 0x31
  | .ovlScroll => 0x32
  | .ovlClear => 0x33
  | .ovlCursor => 0x34
  | .ovlPageSelect => 0x35
  | .ovlMenuSet => 0x36
  | .ovlFieldSet => 0x37
  | .ovlGet => 0x38
  | .supplySet => 0x39
  | .supplyGet => 0x3a
  | .standbyEnter => 0x3b
  | .standbyExit => 0x3c
  | .shutdown => 0x3d
  | .resetPart => 0x3e

/-- The request kinds in the order of their codes. -/
def allKinds : List Kind :=
  [ .statusGet, .beep, .inputConfig, .keymapSet, .keymapGet, .rockerSet, .tokensRead, .beeperSet, .controlsGet,
    .adcEnable, .adcCalibrate, .adcGet, .lensHome, .lensStop, .zoomGoto, .zoomDrive, .presetRecall, .presetSet,
    .focusGoto, .focusModeSet, .lensConfig, .lensGet, .stabModeSet, .stabGainTableSet, .stabOffsetSet, .stabGet,
    .tcSet, .tcModeSet, .userbitsSet, .tcGet, .recConfig, .clipNumberSet, .recStart, .recConfirm, .recStop,
    .clipClosed, .cardReport, .mediaUpdate, .mediaFault, .tallySet, .recGet, .clipRead, .clipMark, .clipLogClear,
    .audioConfig, .audioGainSet, .audioGet, .ovlWrite, .ovlFill, .ovlScroll, .ovlClear, .ovlCursor, .ovlPageSelect,
    .ovlMenuSet, .ovlFieldSet, .ovlGet, .supplySet, .supplyGet, .standbyEnter, .standbyExit, .shutdown, .resetPart ]

/-- The request kind of a KIND byte; none for a value that is not a request kind of the part (R195). -/
def kindOf (code : Byte) : Option Kind := allKinds.find? fun k => kindCode k = code

/-- The KIND of the reply to a frame of KIND `code`: plus 80h, or BFh where it is not a request kind (R195, R197). -/
def replyKind (code : Byte) : Byte := if (kindOf code).isSome then code + 0x80 else 0xBF

/-- The code of a result (section 11.5.3). -/
def resultCode : Result → Byte
  | .ok => 0
  | .clamped => 1
  | .refused => 2
  | .badArgument => 3
  | .unknownKind => 4
  | .overrun => 5
  | .tooLate => 6

/-- The code of a reason (section 11.5.3). -/
def reasonCode : Reason → Byte
  | .none => 0
  | .recording => 1
  | .notRecording => 2
  | .supply => 3
  | .standby => 4
  | .shutdown => 5
  | .operator => 6
  | .fault => 7
  | .inProgress => 8
  | .noCard => 9
  | .noMedia => 10
  | .menu => 11
  | .locked => 12
  | .unhomed => 13
  | .busyOwner => 14
  | .marksFull => 15

/-- The KIND of a notice (section 11.5.2). -/
def noticeCode : Notice → Byte
  | .ready .. => 0xC0
  | .wake .. => 0xC1
  | .powerDown .. => 0xC2
  | .supplyState .. => 0xC3
  | .tokensReady => 0xC4
  | .adcDone .. => 0xC5
  | .motionDone .. => 0xC6
  | .homeDone .. => 0xC7
  | .stabState .. => 0xC8
  | .fsyncState .. => 0xC9
  | .cardInserted .. => 0xCA
  | .cardRemoved .. => 0xCB
  | .recBegin .. => 0xCC
  | .recFailed .. => 0xCD
  | .recEnd .. => 0xCE
  | .relay .. => 0xCF
  | .clipChanged .. => 0xD0
  | .audioSource .. => 0xD1
  | .audioSettled .. => 0xD2
  | .menuState .. => 0xD3

/-- The kinds of a control token (R17). -/
inductive TokenKind | press | release | long | detentUp | detentDown
deriving DecidableEq, Repr

/-- The code of a token kind (R17). -/
def tokenKindCode : TokenKind → Nat
  | .press => 1
  | .release => 2
  | .long => 3
  | .detentUp => 4
  | .detentDown => 5

/-- The code of a layer in a token (R17). -/
def layerCode : Layer → Nat
  | .plain => 0
  | .assign => 1
  | .menu => 2

/-- The source code of an encoder (section 1.2). -/
def encoderCode : Encoder → Nat
  | .focusRing => 0x40
  | .dial => 0x41
  | .audio1 => 0x42
  | .audio2 => 0x43

/-- A control token (R17): the source is the high byte, the layer the high four bits of the low byte, the kind its low four. -/
def tokenWord (source : Nat) (kind : TokenKind) (layer : Layer) : BitVec 16 :=
  BitVec.ofNat 16 (source * 256 + layerCode layer * 16 + tokenKindCode kind)

/-- The FLUSH token (R17). -/
def flushToken : BitVec 16 := 0

/-- The code of a cell style (section 11.5.6). -/
def styleCode : Style → Byte
  | .normal => 0
  | .inverse => 1
  | .blink => 2
  | .dim => 3

/-- The `n` bytes of a number, the least significant first (00_scope, 7.3). -/
def littleEndian : Nat → Nat → List Byte
  | 0, _ => []
  | n + 1, v => BitVec.ofNat 8 v :: littleEndian n (v / 256)

/-- The sum of bytes modulo 256. -/
def byteSum (bytes : List Byte) : Byte := bytes.foldl (· + ·) 0

/-- The byte that makes a sum zero modulo 256 (sections 11.5.1 and 11.5.6). -/
def checkByte (bytes : List Byte) : Byte := 0 - byteSum bytes

/-- A label in a frame (section 11.5.4). -/
def labelBytes (l : Stamp) : List Byte :=
  [BitVec.ofNat 8 l.label.hours, BitVec.ofNat 8 l.label.minutes, BitVec.ofNat 8 l.label.seconds,
    BitVec.ofNat 8 (l.label.frames % 128 + if l.drop then 128 else 0)]

/-- A token in a frame (section 11.5.4). -/
def tokenBytes (t : BitVec 16) : List Byte := littleEndian 2 t.toNat

/-- The code of a slot in a segment entry (section 11.5.5). -/
def slotCode : Slot → Byte
  | .a => 0
  | .b => 1

/-- The code of a segment outcome (section 11.5.5). -/
def outcomeCode : SegOutcome → Byte
  | .inProgress => 0
  | .ok => 1
  | .full => 2
  | .removed => 3
  | .writeError => 4

/-- The code of a clip state (section 11.5.5). -/
def clipStateCode : ClipState → Byte
  | .opened => 0
  | .closed => 1
  | .unconfirmed => 2

/-- A position in the clip record: 32 bits, two's complement, 0 when absent (section 11.5.5, 00_scope 7.3). -/
def positionBytes (p : Option Int) : List Byte := littleEndian 4 (BitVec.ofInt 32 (p.getD 0)).toNat

/-- The flags byte of a clip record (section 11.5.5). -/
def clipFlags (r : ClipRec) : Nat :=
  r.dayRoll.toNat + 2 * r.goodShot.toNat + 4 * r.over1.toNat + 8 * r.over2.toNat + 16 * r.zoom.isSome.toNat
    + 32 * r.focus.isSome.toNat + 64 * r.endLabel.isSome.toNat

/-- A segment entry (section 11.5.5). -/
def segmentBytes (g : Segment) : List Byte := [slotCode g.slot] ++ labelBytes g.start ++ [outcomeCode g.outcome]

/-- A clip record from offset 4 of the CLIP_READ reply on (section 11.5.5). -/
def clipBytes (r : ClipRec) : List Byte :=
  littleEndian 2 r.number ++ [clipStateCode r.state] ++ labelBytes r.start
    ++ (match r.endLabel with | some l => labelBytes l | none => [0, 0, 0, 0])
    ++ [BitVec.ofNat 8 (clipFlags r)] ++ littleEndian 4 r.userBits.toNat ++ positionBytes r.zoom ++ positionBytes r.focus
    ++ [BitVec.ofNat 8 r.segments.length] ++ r.segments.flatMap segmentBytes
    ++ [BitVec.ofNat 8 r.marks.length] ++ r.marks.flatMap fun m => 1 :: labelBytes m

/-- The 40 pairs of code and style of a row of cells (R197, section 11.5.6). -/
def cellBytes (cells : Vector Cell 40) : List Byte := cells.toList.flatMap fun c => [c.code, styleCode c.style]

/-- A viewfinder row message (section 11.5.6). -/
def rowMessage (page : Fin 4) (row : Fin 16) (cells : Vector Cell 40) (cursor : Cursor) : List Byte :=
  let body : List Byte := [BitVec.ofNat 8 page.val, BitVec.ofNat 8 row.val]
    ++ cellBytes cells
    ++ [if cursor.visible = true ∧ cursor.row = row then BitVec.ofNat 8 cursor.column.val else 0xFF]
  [0x5A] ++ body ++ [checkByte body]

/-- A frame (section 11.5.1). -/
def frameBytes (kind tag : Byte) (payload : List Byte) : List Byte :=
  let body := [BitVec.ofNat 8 payload.length, kind, tag] ++ payload
  [0xA5] ++ body ++ [checkByte body]

/-- The live-field entry of a table without its rendered text (R163, R197). -/
structure Placement where
  enable : Bool
  page : Fin 4
  row : Fin 16
  column : Fin 40
deriving DecidableEq, Repr

/-- What part 0 of OVL_GET's reply carries (R197): the fields of R179 but for the texts and the two rows of cells. -/
structure OvlSettings where
  displayed : Fin 4
  menu : Bool
  saved : Option (Fin 4)
  placements : List Placement
  warnings : List WarnReport
  shown : Option WarnKind
  cursors : List Cursor
  dirty : List (Vector Bool 16)
  vfPresent : Bool
  sending : Bool
deriving DecidableEq, Repr

/-- The contents of one of the four frames of OVL_GET's reply (R197). -/
inductive OvlContents | settings (s : OvlSettings) | texts (codes : List Byte) | hostCells (cells : Vector Cell 40)
  | displayedCells (cells : Vector Cell 40)
deriving DecidableEq, Repr

/-- Part 0 of OVL_GET's reply (R197). DEDUCED, log entry 9: R197's table names the kind shown in the WARNING field (R179) in no row;
it travels here, beside the warning set. -/
def OvlReport.settings (o : OvlReport) : OvlSettings :=
  { displayed := o.displayed, menu := o.menu, saved := o.saved
    placements := allFields.map fun k =>
      let e := o.fields.entry k
      ⟨e.enable, e.page, e.row, e.column⟩
    warnings := o.warnings, shown := o.shown, cursors := o.cursors, dirty := o.dirty, vfPresent := o.vfPresent
    sending := o.sending }

/-- The contents of a part of OVL_GET's reply: the texts of the fields in table order as codes alone, and the two rows named (R197). -/
def OvlReport.contents (o : OvlReport) (part : Nat) : OvlContents :=
  match part with
  | 0 => .settings o.settings
  | 1 => .texts (allFields.flatMap fun k => (o.fields.entry k).text.map (·.code))
  | 2 => .hostCells o.hostCells
  | _ => .displayedCells o.displayedCells

/-- The bytes of a part's contents; the manual gives those of part 0 by their fields alone (R197; log entry 9). -/
def OvlContents.bytes : OvlContents → Option (List Byte)
  | .settings _ => none
  | .texts codes => some codes
  | .hostCells cells | .displayedCells cells => some (cellBytes cells)

/-- The last frame of a reply: the reply of OVL_GET takes four, numbered from 0 (R197). -/
def lastPart (r : Reply) : Nat :=
  match r.body with
  | .overlay _ => 3
  | _ => 0

/-- The part byte of a frame of OVL_GET's reply: the part, with bit 7 set on the last (R197). -/
def partByte (r : Reply) (part : Nat) : Byte := BitVec.ofNat 8 part ||| if part = lastPart r then 0x80 else 0

/-- The payload of a frame of a reply where the manual gives its byte layout: a bare reply, the reply of CLIP_READ and the parts 1
to 3 of OVL_GET's reply (log entry 9). -/
def replyPayload (r : Reply) (part : Nat) : Option (List Byte) :=
  let head := [resultCode r.result, reasonCode r.reason]
  match r.body with
  | .none => some head
  | .clip held none => some (head ++ [BitVec.ofNat 8 held])
  | .clip held (some (index, rec)) => some (head ++ [BitVec.ofNat 8 held, BitVec.ofNat 8 index] ++ clipBytes rec)
  | .overlay o => (o.contents part).bytes.map fun bytes => head ++ [partByte r part] ++ bytes
  | _ => none

/-- The bytes on CMD_TX of the frame being sent, where the manual gives its layout in full. -/
def sendingBytes : Sending → Option (List Byte)
  | .reply r part => (replyPayload r part).map (frameBytes r.kind r.tag)
  | .notice .tokensReady => some (frameBytes (noticeCode .tokensReady) 0 [])
  | .notice _ => none

end Sys2Proof.Machine
end

