-- ==== Sys2Proof/Machine/Flags.lean ====
section
/-! DEFINITION. Every condition, flag and output level that the manual derives from the state a block holds. -/

namespace Sys2Proof.Machine

/-! ## Command port -/

/-- RDY is asserted while the request queue holds 3 requests or fewer (R193). -/
def Port.ready (p : Port) : Bool := p.queue.length ≤ 3

/-- The oldest request not yet taken, the request in hand (R196). -/
def Port.inHand (p : Port) : Option Entry := p.queue.find? fun e => e.state ≠ .taken

/-- The OVERRUN replies of the overrun list: those waiting and the one being sent (R195). -/
def Port.overruns (p : Port) : Nat :=
  (p.replies.filter (·.overrun)).length + match p.tx with
    | some (.reply r _) => r.overrun.toNat
    | _ => 0

/-! ## Switch inputs -/

/-- Whether a line level means pressed or on (R1). -/
def pressed (c : InputConfig) (level : Bool) : Bool :=
  match c.polarity with
  | .activeLow => !level
  | .activeHigh => level

/-- Whether the assign set is empty (R13). -/
def Controls.assignEmpty (c : Controls) : Bool := c.assign.toList.all (!·)

/-! ## Beeper -/

/-- The level, after a time, of an output that runs through periods of `on` and its opposite by turns; silent after the last. -/
def levelAfter (on : Bool) : List Nat → Nat → Bool
  | [], _ => false
  | p :: ps, t => if t < p then on else levelAfter (!on) ps (t - p)

/-- The beeper output at the time `now`: the sounding pattern's on and off periods, from its request to its end (R21). -/
def Controls.beeperOn (c : Controls) (now : Nat) : Bool :=
  match c.beeper with
  | some b => levelAfter true (patternPeriods b.pattern) (now + patternTime b.pattern - b.stop)
  | none => false

/-! ## Lens drive -/

/-- The motion state of an axis; the first case that applies decides (R38). -/
def motionOf (a : AxisRec) : Motion :=
  if a.fault = true ∧ a.owner ≠ .homing then .fault
  else if 0 < a.gap then .gap
  else if a.owner ≠ .none ∨ a.vcmd ≠ 0 then .moving
  else .idle

/-- The VMAX of an axis (R37, R62). -/
def Lens.vmax (l : Lens) : Axis → Nat
  | .zoom => l.zoomVmax
  | .focus => 12000

/-- The direction-change gap of an axis in control events (R43, R62). -/
def Lens.gap (l : Lens) : Axis → Nat
  | .zoom => l.zoomGap
  | .focus => l.focusGap

/-- The accepted span at homing (R37). -/
def spanAccepted : Axis → Int → Bool
  | .zoom, d => 12800 ≤ d && d ≤ 17600
  | .focus, d => 19200 ≤ d && d ≤ 26400

/-- The park position (R37). -/
def parkPosition : Axis → Int → Int
  | .zoom, _ => 0
  | .focus, span => span

/-- Whether a suspect is held that is less than 500 ms old at the time `now` (R45). -/
def suspectHeld (a : AxisRec) (now : Nat) : Bool :=
  match a.suspect with
  | some t => now < t + suspectTime
  | none => false

/-- What a bridge does (R39): floats, brakes with both low sides on, or drives with the duty in 1024ths and the direction of
the present control event. -/
inductive BridgeDrive | float | brake | drive (positive : Bool) (duty : Nat)
deriving DecidableEq, Repr

/-- The bridge output of an axis (R39). -/
def bridgeOf (l : Lens) (ax : Axis) : BridgeDrive :=
  if l.floating then .float
  else if (l.axis ax).duty = 0 then .brake
  else .drive (l.axis ax).forward (l.axis ax).duty

/-! ## Stabiliser -/

/-- The blocking set: the conditions for ACTIVE that fail, the setting apart (R67). -/
def blockingOf (c : Conditions) : Blocking :=
  { notRun := !c.run, zoomUnhomed := !c.zoomHomed, gyroDisabled := !c.gyroEnabled, gyroInvalid := !c.gyroValid }

/-- The blocking set where it is present, in STANDBY (R67, R70). -/
def Stabiliser.blocking (t : Stabiliser) : Option Blocking :=
  if t.state = .standby then some (blockingOf t.cond) else none

/-- The operating state that follows from the copies, outside FAULT; entry into ACTIVE is in sub-state NORMAL (R67, R68). -/
def Stabiliser.implied (t : Stabiliser) : StabState :=
  if t.setting = false then .off
  else if t.cond.run && t.cond.zoomHomed && t.cond.gyroEnabled && t.cond.gyroValid then .active .normal
  else .standby

/-! ## Timecode -/

/-- The frames counted per second (section 5.1). -/
def countedRate : Rate → Nat
  | .r24 => 24
  | .r25 => 25
  | .r30 | .r30df => 30

/-- Whether a label is dropped at 30DF (R85). -/
def isDropped (l : Label) : Bool := l.seconds = 0 ∧ l.frames < 2 ∧ l.minutes % 10 ≠ 0

/-- Whether a label is a valid label of a rate (R85). -/
def validLabel (r : Rate) (l : Label) : Bool :=
  l.hours < 24 ∧ l.minutes < 60 ∧ l.seconds < 60 ∧ l.frames < countedRate r ∧ ¬(r = .r30df ∧ isDropped l = true)

/-- The current label as it is reported (R85). -/
def Timecode.stamp (t : Timecode) : Stamp := ⟨t.label, t.rate = .r30df⟩

/-- Whether the label advances at a frame event (R89). -/
def Timecode.advances (t : Timecode) : Bool := t.runMode = .freeRun ∨ t.recState = .recording

/-! ## Record supervisor -/

/-- The rate of a bitrate class in kB/s (R111). -/
def rateOf : Bitrate → Nat
  | .mb25 => 3125
  | .mb50 => 6250
  | .mb100 => 12500
  | .mb200 => 25000

/-- Whether a slot is usable (R101). -/
def SlotRec.usable (r : SlotRec) (b : Bitrate) : Bool := r.state = .ready ∧ 2 * rateOf b ≤ r.remaining

/-- Whether a slot is usable at the bitrate class in force (R101). -/
def Recorder.usable (r : Recorder) (sl : Slot) : Bool := (r.slot sl).usable r.bitrate

/-- Whether a slot is ACTIVE. -/
def Recorder.isActive (r : Recorder) (sl : Slot) : Bool := (r.slot sl).state = .active

/-- The ACTIVE slots. -/
def Recorder.activeSet (r : Recorder) : SlotSet := ⟨r.isActive .a, r.isActive .b⟩

/-- The reserve: 30 seconds at the bitrate class (R111). -/
def Recorder.reserve (r : Recorder) : Nat := 30 * rateOf r.bitrate

/-- The start set of a mode (R113). -/
def Recorder.formStartSet (r : Recorder) : SlotSet :=
  match r.mode with
  | .single => SlotSet.empty.put (r.usable r.current) r.current
  | .relay =>
    if r.usable r.current then SlotSet.only r.current
    else SlotSet.empty.put (r.usable (otherSlot r.current)) (otherSlot r.current)
  | .simul => ⟨r.usable .a, r.usable .b⟩

/-- The OPEN record of the clip log (R133). -/
def ClipLog.openRec (l : ClipLog) : Option ClipRec := l.records.find? fun r => r.state = .opened

/-- The number of segments of the clip in hand. -/
def ClipLog.openSegments (l : ClipLog) : Nat :=
  match l.openRec with
  | some r => r.segments.length
  | none => 0

/-- Whether a slot is a relay target, the ACTIVE slot's own capacity apart (R123, R124). -/
def State.relayTarget (s : State) (sl : Slot) : Bool :=
  (s.recorder.slot sl).state = .ready ∧ s.recorder.reserve < (s.recorder.slot sl).remaining ∧ s.log.openSegments < 4

/-- The time left T in kB (R124); a free value where no slot is ACTIVE (log entry 6). -/
def State.timeLeft (s : State) : Nat :=
  let r := s.recorder
  let one (sl : Slot) : Nat :=
    if r.mode = .relay ∧ s.relayTarget (otherSlot sl) = true then
      ((r.slot sl).remaining - r.reserve) + (r.slot (otherSlot sl)).remaining
    else (r.slot sl).remaining
  match r.isActive .a, r.isActive .b with
  | true, true => max r.slotA.remaining r.slotB.remaining
  | true, false => one .a
  | false, true => one .b
  | false, false => Config.timeLeftWithoutActive s.clock

/-- The condition of CARD_ERROR (R110). -/
def Recorder.cardError (r : Recorder) : Bool :=
  let bad (sl : Slot) : Bool := match (r.slot sl).state with
    | .error _ => true
    | _ => false
  bad .a || bad .b

/-- The condition of MEDIA_FULL (R110). -/
def Recorder.mediaFull (r : Recorder) : Bool :=
  (r.slotA.state = .full ∨ r.slotB.state = .full) ∧ r.usable .a = false ∧ r.usable .b = false

/-- The TALLY_VF lamp (R127). -/
def Recorder.tallyVf (r : Recorder) : Bool :=
  match r.tally with
  | .off => false
  | .lit => true
  | .blink2 | .blink4 => r.lampOn

/-- The TALLY_FRONT lamp (R127). -/
def Recorder.tallyFront (r : Recorder) : Bool := r.frontEnable && r.tallyVf

/-! ## Audio level unit -/

/-- The applied gain (R146). -/
def appliedGain (c : ChannelRec) : Nat := if c.settling.isSome then 0 else c.setGain - c.reduction

/-- The segment count of a meter peak (R149). -/
def segmentCount (peak : Int) : Nat := (clampInt 0 10 ((peak + 600).tdiv 60)).toNat

/-- Phantom power is on only while the input is MIC48 (R146). -/
def phantomOn (c : ChannelRec) : Bool := c.input = .mic48

/-! ## Overlay generator -/

/-- The width of a live field (R163). -/
def fieldWidth : FieldKind → Nat
  | .timecode => 11
  | .recState => 4
  | .clipNo => 5
  | .supply => 6
  | .mediaA | .mediaB => 7
  | .zoomBar => 12
  | .focus => 4
  | .stab => 3
  | .audio1 | .audio2 => 12
  | .warning => 16

/-- Whether an enabled field covers a position (R163). -/
def covers (k : FieldKind) (e : LiveField) (page : Fin 4) (row : Fin 16) (column : Fin 40) : Bool :=
  e.enable = true ∧ e.page = page ∧ e.row = row ∧ e.column ≤ column ∧ column.val < e.column.val + fieldWidth k

/-- Whether two placements overlap on a page (R163). -/
def overlaps (k : FieldKind) (e : LiveField) (k' : FieldKind) (e' : LiveField) : Bool :=
  e.page = e'.page ∧ e.row = e'.row ∧ e.column.val < e'.column.val + fieldWidth k' ∧
    e'.column.val < e.column.val + fieldWidth k

/-- The host cell of a position (R162). -/
def Overlay.hostCell (o : Overlay) (page : Fin 4) (row : Fin 16) (column : Fin 40) : Cell :=
  ((o.pages.get page).cells.get row).get column

/-- The displayed cell of a position: the live cell where an enabled field covers it, the host cell elsewhere (R164). -/
def Overlay.displayedCell (o : Overlay) (page : Fin 4) (row : Fin 16) (column : Fin 40) : Cell :=
  match allFields.find? fun k => covers k (o.fields.entry k) page row column with
  | some k => (o.fields.entry k).text.getD (column.val - (o.fields.entry k).column.val) (o.hostCell page row column)
  | none => o.hostCell page row column

/-- The displayed cells of a row (R164). -/
def Overlay.displayedRow (o : Overlay) (page : Fin 4) (row : Fin 16) : Vector Cell 40 :=
  .ofFn fun column => o.displayedCell page row column

/-- The kind the WARNING field shows: the highest-priority kind in the set (R168). -/
def Warnings.top (w : Warnings) : Option WarnKind := allWarnings.find? fun k => (w.entry k).isIn

/-! ## Supply monitor -/

/-- The supply state: the deepest level whose flag is SET (R184). -/
def Supply.level (p : Supply) : SupplyState :=
  if p.cutoff.flag then .cutoff else if p.low.flag then .low else if p.warn.flag then .warn else .normal

end Sys2Proof.Machine
end

