-- ==== Sys2Proof/Machine/Operands.lean ====
section
/-! DEFINITION. The legal sets and the clamps of the requests' arguments, one definition for each form the chapters give. -/

namespace Sys2Proof.Machine

/-- A number below `n` as a member of `Fin n`. -/
def finOf (n k : Nat) : Option (Fin n) := if h : k < n then some ⟨k, h⟩ else none

/-- A switch input, 0..23 (R1, R11). -/
def inputOf (k : Nat) : Option (Fin 24) := finOf 24 k

/-- A preset number, 1..8 (R57). -/
def presetOf (k : Nat) : Option (Fin 8) := if k = 0 then none else finOf 8 (k - 1)

/-- The rocker parameters: codes 0..4095, dead zone below full scale (R10). -/
def rockerLegal (a : RockerArgs) : Bool :=
  a.centre ≤ 4095 ∧ a.deadZone ≤ 4095 ∧ a.fullScale ≤ 4095 ∧ a.deadZone < a.fullScale

/-- The enables a set of inputs stands for; none where it names an input other than AIN0..AIN6 (R25). -/
def enablesOf (inputs : List Nat) : Option (Vector Bool 7) :=
  if inputs.all (· < 7) then some (.ofFn fun i => inputs.contains i.val) else none

/-- The speed of a goto, 1..65535 counts/s (R54, R61). -/
def gotoLegal (a : GotoArgs) : Bool := 1 ≤ a.speed ∧ a.speed ≤ 65535

/-- The target of a goto: a position outside 0..span becomes 0 or span (R54). -/
def gotoTarget (span : Int) (a : GotoArgs) : Int := clampInt 0 span a.position

/-- The speed of a goto: above VMAX it becomes VMAX (R54). -/
def gotoSpeedOf (vmax : Nat) (a : GotoArgs) : Nat := min a.speed vmax

/-- Whether a goto's reply is CLAMPED (R54). -/
def gotoClamped (span : Int) (vmax : Nat) (a : GotoArgs) : Bool :=
  gotoTarget span a ≠ a.position ∨ gotoSpeedOf vmax a ≠ a.speed

/-- A drive: speed not 0, duration 1..1000 ms (R55). -/
def driveLegal (a : DriveArgs) : Bool := a.speed ≠ 0 ∧ 1 ≤ a.duration ∧ a.duration ≤ 1000

/-- The speed of a drive: a magnitude above VMAX becomes VMAX with its sign (R55). -/
def driveSpeedOf (vmax : Nat) (a : DriveArgs) : Int := clampInt (-(vmax : Int)) vmax a.speed

/-- A direction gap is 1, 4 or 16 ms (R62). -/
def gapLegal (g : Nat) : Bool := g = 1 ∨ g = 4 ∨ g = 16

/-- A stabiliser gain table: exactly 17 entries, each 0..65535 (R81). -/
def gainsOf (entries : List Nat) : Option (Vector Nat 17) :=
  if h : entries.length = 17 then
    if entries.all (· ≤ 65535) then some ⟨entries.toArray, by simp [h]⟩ else none
  else none

/-- A gyro offset clamped to 16384..49152 (R82). -/
def offsetOf (v : Nat) : Int := clampInt 16384 49152 v

/-- A label that is not malformed at a rate (R95, case 1). -/
def labelLegal (r : Rate) (l : Label) : Bool :=
  l.hours ≤ 23 ∧ l.minutes ≤ 59 ∧ l.seconds ≤ 59 ∧ l.frames < countedRate r

/-- A dropped label gets frames 2 at 30DF; any other label stands (R87, R95, R96). -/
def correctDropped (r : Rate) (l : Label) : Label :=
  if r = .r30df ∧ isDropped l = true then { l with frames := 2 } else l

/-- A label brought to a new rate (R96). -/
def labelToRate (r : Rate) (l : Label) : Label :=
  correctDropped r { l with frames := min l.frames (countedRate r - 1) }

/-- A clip number, 1..9999 (R112). -/
def clipNumberLegal (n : Nat) : Bool := 1 ≤ n ∧ n ≤ 9999

/-- A capacity, 0..4294967295 kB (R101). -/
def capacityLegal (kB : Nat) : Bool := kB ≤ 4294967295

/-- A channel number, 1 or 2 (R158). -/
def channelOf : Nat → Option Channel
  | 1 => some .ch1
  | 2 => some .ch2
  | _ => none

/-- AUDIO_CONFIG: AGC maxima 0..63 (R157). -/
def audioLegal (a : AudioConfigArgs) : Bool := a.ch1.agcMax ≤ 63 ∧ a.ch2.agcMax ≤ 63

/-- The region of a scroll lies on a page, and its height and width are positive (R171). -/
def scrollLegal (a : ScrollArgs) : Bool :=
  a.top ≤ a.bottom ∧ a.bottom ≤ 15 ∧ a.left ≤ a.right ∧ a.right ≤ 39 ∧ a.lines ≤ 255

/-- The supply thresholds: each 9000..16000 mV, WARN > LOW > CUTOFF (R182). -/
def thresholdsLegal (a : SupplyArgs) : Bool :=
  9000 ≤ a.cutoff ∧ a.cutoff < a.low ∧ a.low < a.warn ∧ a.warn ≤ 16000

end Sys2Proof.Machine
end

