-- ==== Sys2Proof/Machine/Render.lean ====
section
/-! DEFINITION. The rendered texts of the live fields (R165, R166, R168), and `publish`, which brings the live-field table up to
the blocks' state and marks the rows whose displayed cells change (R176). -/

namespace Sys2Proof.Machine

/-- The codes of a text. -/
def codesOf (text : String) : List Byte := text.toList.map fun c => BitVec.ofNat 8 c.toNat

/-- The code of a decimal digit (R165). -/
def digit (n : Nat) : Byte := BitVec.ofNat 8 (0x30 + n % 10)

/-- The last `width` decimal digits of a number, leading zeros shown. -/
def digits : Nat → Nat → List Byte
  | 0, _ => []
  | width + 1, n => digits width (n / 10) ++ [digit n]

/-- A number of at most three digits without leading zeros. -/
def shortNumber (n : Nat) : List Byte :=
  if n < 10 then digits 1 n else if n < 100 then digits 2 n else digits 3 n

/-- Right-aligned in `width` cells. -/
def padLeft (width : Nat) (text : List Byte) : List Byte := List.replicate (width - text.length) 0x20 ++ text

/-- Left-aligned in `width` cells. -/
def padRight (width : Nat) (text : List Byte) : List Byte := text ++ List.replicate (width - text.length) 0x20

/-- TIMECODE (R165). -/
def timecodeText (t : Timecode) : List Byte :=
  digits 2 t.label.hours ++ [0x3A] ++ digits 2 t.label.minutes ++ [0x3A] ++ digits 2 t.label.seconds
    ++ [if t.rate = .r30df then 0x3B else 0x3A] ++ digits 2 t.label.frames

/-- REC_STATE (R165). -/
def recStateText : RecState → List Byte
  | .standby => codesOf "STBY"
  | .starting => codesOf "WAIT"
  | .recording => codesOf "REC "
  | .stopping => codesOf "STOP"

/-- The style of REC_STATE (R165). -/
def recStateStyle : RecState → Style
  | .recording => .inverse
  | .starting => .blink
  | .standby | .stopping => .normal

/-- The clip number CLIP_NO shows (R165). -/
def Recorder.shownClip (r : Recorder) : Nat :=
  match r.state with
  | .standby => r.nextClip
  | .starting | .recording | .stopping => r.clip.getD r.nextClip

/-- CLIP_NO (R165). -/
def clipNoText (r : Recorder) : List Byte := 0x23 :: digits 4 r.shownClip

/-- SUPPLY (R165): tenths of a volt, right-aligned in four cells. -/
def supplyText (p : Supply) : List Byte :=
  let tenths := p.effective / 100
  [if p.dcPresent then 0x44 else 0x42] ++ padLeft 4 (shortNumber (tenths / 10) ++ [0x2E, digit tenths]) ++ [0x56]

/-- STAB (R165). -/
def stabText : StabState → List Byte
  | .active .normal => codesOf "OIS"
  | .active .pan => codesOf "PAN"
  | .standby | .off => codesOf "---"
  | .fault _ => codesOf "ERR"

/-- The minutes a slot's capacity holds (R166). -/
def minutesOf (b : Bitrate) (kB : Nat) : Nat := min 999 (kB / rateOf b / 60)

/-- MEDIA_A and MEDIA_B (R166). -/
def mediaText (letter : Byte) (b : Bitrate) (r : SlotRec) : List Byte :=
  letter :: match r.state with
    | .ready => codesOf "  " ++ padLeft 3 (shortNumber (minutesOf b r.remaining)) ++ codesOf "m"
    | .active => codesOf "* " ++ padLeft 3 (shortNumber (minutesOf b r.remaining)) ++ codesOf "m"
    | .empty => codesOf " EMPTY"
    | .mounting => codesOf " MOUNT"
    | .full => codesOf " FULL "
    | .writeProtected => codesOf " PROT "
    | .error _ => codesOf " ERROR"

/-- The filled cells of ZOOM_BAR on a HOMED axis (R166). -/
def zoomFill (a : AxisRec) : Nat := (clampInt 0 10 ((10 * clampInt 0 a.span a.position).tdiv a.span)).toNat

/-- ZOOM_BAR (R166). -/
def zoomBarText (a : AxisRec) : List Byte :=
  [0x57] ++ (if a.homing = .homed then padRight 10 (List.replicate (zoomFill a) 0x3D) else List.replicate 10 0x2D) ++ [0x54]

/-- FOCUS (R166). -/
def focusText (l : Lens) : List Byte :=
  match l.mode, l.override with
  | .manual, _ => codesOf "MF  "
  | .auto, none => codesOf "AF  "
  | .auto, some _ => codesOf "AF* "

/-- AUDIO_1 and AUDIO_2 (R166). -/
def audioText (number : Byte) (c : ChannelRec) : List Byte :=
  [number] ++ List.replicate (segmentCount c.peak) 0x7C ++ List.replicate (10 - segmentCount c.peak) 0x2E
    ++ [if c.overFlag then 0x21 else 0x20]

/-- The text of a warning kind (R167). -/
def warningText : WarnKind → List Byte
  | .supplyCutoff => codesOf "SUPPLY CUTOFF"
  | .supplyLow => codesOf "SUPPLY LOW"
  | .recFailed => codesOf "REC FAILED"
  | .mediaFull => codesOf "MEDIA FULL"
  | .cardError => codesOf "CARD ERROR"
  | .stabFault => codesOf "OIS FAULT"
  | .lensFault => codesOf "LENS FAULT"
  | .fsyncLost => codesOf "NO SYNC"
  | .mediaLow => codesOf "MEDIA LOW"
  | .supplyWarn => codesOf "SUPPLY WARN"
  | .audioOver => codesOf "AUDIO OVER"
  | .keysLocked => codesOf "KEYS LOCKED"
  | .tokensFull => codesOf "TOKEN QUEUE FULL"

/-- The style of a shown warning: BLINK for priorities 1..3, INVERSE for 4..13 (R168). -/
def warningStyle : WarnKind → Style
  | .supplyCutoff | .supplyLow | .recFailed => .blink
  | .mediaFull | .cardError | .stabFault | .lensFault | .fsyncLost | .mediaLow | .supplyWarn | .audioOver | .keysLocked
  | .tokensFull => .inverse

/-- The cells of a text in one style. -/
def styled (style : Style) (text : List Byte) : List Cell := text.map fun c => ⟨c, style⟩

/-- WARNING (R168). -/
def warningCells (w : Warnings) : List Cell :=
  match w.top with
  | some k => styled (warningStyle k) (padRight 16 (warningText k))
  | none => styled .normal (padRight 16 [])

/-- The rendered text of a live field from the blocks' state (R165, R166, R168). -/
def render (s : State) : FieldKind → List Cell
  | .timecode => styled .normal (timecodeText s.tc)
  | .recState => styled (recStateStyle s.recorder.state) (recStateText s.recorder.state)
  | .clipNo => styled .normal (clipNoText s.recorder)
  | .supply => styled .normal (supplyText s.supply)
  | .mediaA => styled .normal (mediaText 0x41 s.recorder.bitrate s.recorder.slotA)
  | .mediaB => styled .normal (mediaText 0x42 s.recorder.bitrate s.recorder.slotB)
  | .zoomBar => styled .normal (zoomBarText s.lens.zoom)
  | .focus => styled .normal (focusText s.lens)
  | .stab => styled .normal (stabText s.stab.state)
  | .audio1 => styled .normal (audioText 0x31 s.audio.ch1)
  | .audio2 => styled .normal (audioText 0x32 s.audio.ch2)
  | .warning => warningCells s.ovl.warnings

/-- A row joins the dirty-row set of its page (R176). -/
def Overlay.markRow (o : Overlay) (page : Fin 4) (row : Fin 16) : Overlay :=
  { o with pages := o.pages.set page { o.pages.get page with dirty := (o.pages.get page).dirty.set row true } }

/-- All 16 rows of a page join its dirty-row set (R176). -/
def Overlay.markPage (o : Overlay) (page : Fin 4) : Overlay :=
  { o with pages := o.pages.set page { o.pages.get page with dirty := .replicate 16 true } }

/-- A rendering handed to a live field: a text that equals the old one changes no cell; another marks the field's row where the
field is enabled, since the cells it covers are then displayed (R165, R176). -/
def Overlay.handField (o : Overlay) (k : FieldKind) (text : List Cell) : Overlay :=
  let e := o.fields.entry k
  if e.text = text then o
  else
    let o' := { o with fields := o.fields.setEntry { e with text := text } k }
    if e.enable then o'.markRow e.page e.row else o'

/-- The blocks hand the overlay generator the state its live fields show, and every field is rendered again (R165). -/
def publish (s : State) : State :=
  { s with ovl := allFields.foldl (fun o k => o.handField k (render s k)) s.ovl }

end Sys2Proof.Machine
end

