-- ==== Sys2Proof/Machine/Ops.lean ====
section
/-! DEFINITION. The operations every block shares: notices and replies, the taking of a request, warnings, the beeper, and the
end of every step. -/

namespace Sys2Proof.Machine

/-! ## Notices -/

/-- A notice joins the queue, or is lost with the notices-lost latch set while the queue holds 32 (R198). -/
def Port.post (p : Port) (n : Notice) : Port :=
  if p.notices.length < 32 then { p with notices := p.notices ++ [n] } else { p with noticesLost := true }

/-- A block posts a notice (R198). -/
def State.post (n : Notice) (s : State) : State := { s with port := s.port.post n }

/-! ## Frames, the request queue and the overrun list -/

/-- The reply to a frame. -/
def mkReply (kind tag : Byte) (result : Result) (reason : Reason) (body : Body) (overrun : Bool) : Reply :=
  ⟨replyKind kind, tag, result, reason, body, overrun⟩

/-- A good frame joins the request queue, or gets an OVERRUN reply while the queue holds 4; an OVERRUN reply made while the
overrun list holds 4 is discarded and the link-error latch set (R195). -/
def Port.arrive (p : Port) (kind tag : Byte) (payload : Option (List Byte)) : Port :=
  if p.queue.length < 4 then { p with queue := p.queue ++ [⟨kind, tag, payload, .untaken⟩] }
  else if p.overruns < 4 then { p with replies := p.replies ++ [mkReply kind tag .overrun .none .none true] }
  else { p with linkError := true }

/-- Sets how far the request in hand has come. -/
def setInHand (st : EntryState) : List Entry → List Entry
  | [] => []
  | e :: es => if e.state = .taken then e :: setInHand st es else { e with state := st } :: es

/-- Whether the port can pass the request of KIND `kind` and TAG `tag` to its owner now: it is the request in hand, or no
request is untaken and the queue has room for it to arrive (R195, R196; log entry 3). -/
def Port.takes (p : Port) (kind tag : Byte) : Bool :=
  match p.inHand with
  | some e => e.state = .untaken ∧ e.kind = kind ∧ e.tag = tag
  | none => p.queue.length < 4

/-- The port with the request in hand that a request command takes: one already queued, or one that arrives now. -/
def Port.bring (p : Port) (kind tag : Byte) : Port := if p.inHand.isSome then p else p.arrive kind tag none

/-- The request in hand is taken and its reply waits for the transmitter (R196). -/
def Port.answer (p : Port) (kind tag : Byte) (result : Result) (reason : Reason) (body : Body) : Port :=
  { p with queue := setInHand .taken p.queue, replies := p.replies ++ [mkReply kind tag result reason body false] }

/-- An idle transmitter takes the oldest waiting reply, else the oldest notice, else stays idle (R197). A notice leaves its
queue as its transmission begins (R198). -/
def Port.kick (p : Port) : Port :=
  match p.tx, p.replies, p.notices with
  | some _, _, _ => p
  | none, r :: rs, _ => { p with tx := some (.reply r 0), replies := rs }
  | none, [], n :: ns => { p with tx := some (.notice n), notices := ns }
  | none, [], [] => p

/-- The end of every step: the live fields follow the blocks (R165), and an idle transmitter takes what the step left waiting,
a reply before a notice (R197). DEDUCED, log entry 16. -/
def settle (s : State) : State := { publish s with port := s.port.kick }

/-- The outcome of a step that leaves `s`. -/
def finish (s : State) : Host.Outcome State Fault Refusal := .next (settle s)

/-! ## Taking a request -/

/-- An owning block's decision on a request (R196): the state it leaves and the reply; `held` says that the request is accepted
and its reply waits for a calibration to begin (R33). -/
structure Answer where
  state : State
  result : Result
  reason : Reason
  body : Body
  held : Bool
deriving DecidableEq, Repr

/-- OK, with a body. -/
def okWith (b : Body) (s : State) : Answer := ⟨s, .ok, .none, b, false⟩
/-- OK. -/
def ok (s : State) : Answer := okWith .none s
/-- CLAMPED where a value was brought to its limit, OK otherwise. -/
def okClamped (clamped : Bool) (s : State) : Answer := ⟨s, if clamped then .clamped else .ok, .none, .none, false⟩
/-- REFUSED for a reason; the state stands. -/
def refuse (r : Reason) (s : State) : Answer := ⟨s, .refused, r, .none, false⟩
/-- BAD_ARGUMENT; the state stands. -/
def badArgument (s : State) : Answer := ⟨s, .badArgument, .none, .none, false⟩
/-- TOO_LATE; the state stands. -/
def tooLate (s : State) : Answer := ⟨s, .tooLate, .none, .none, false⟩

/-- The arguments of a request, BAD_ARGUMENT where the payload does not hold them (R196). -/
def withArgs (a : Args α) (s : State) (f : α → Answer) : Answer :=
  match a with
  | .malformed => badArgument s
  | .given x => f x

/-- The arguments of a request that carries none, BAD_ARGUMENT where its payload is not empty (R139, R186, R187, R188, R190). -/
def withNone (a : NoArgs) (s : State) (f : Answer) : Answer :=
  match a, s.port.inHand.bind (·.payload) with
  | .given (), none => f
  | .given (), some [] => f
  | _, _ => badArgument s

/-- What every reply to a request carries beyond its result and reason, also where the request is not carried out: that to CLIP_READ
the number of records held (R141, section 11.5.5). -/
def alwaysCarried (k : Kind) (s : State) : Body :=
  match k with
  | .clipRead => .clip s.log.records.length none
  | _ => .none

/-- The refusal of R189: REFUSED(SHUTDOWN), without effect. -/
def refuseInShutdown (k : Kind) (s : State) : Answer := { refuse .shutdown s with body := alwaysCarried k s }

/-- The decision on a request passed by the port: in SHUTDOWN the supply monitor takes it in place of its owner, STATUS_GET
excepted (R189). -/
def decision (k : Kind) (owner : State → Answer) (s : State) : Answer :=
  if s.supply.power = .shutdown ∧ k ≠ .statusGet then refuseInShutdown k s else owner s

/-- The port after a decision: the reply made, or the request accepted and its reply still to come (R196, R33). -/
def Port.decided (p : Port) (k : Kind) (tag : Byte) (a : Answer) : Port :=
  if a.held then { p with queue := setInHand .accepted p.queue }
  else p.answer (kindCode k) tag a.result a.reason a.body

/-- A request command: the port passes the request to its owner, which takes it and hands back its reply (R196). Where another
request is in hand, or four are held, the frame only arrives (R195): the queue then holds its KIND and TAG alone, and the command that
takes it later supplies the arguments. DESIGN CHOICE, log entry 3. -/
def request (k : Kind) (tag : Byte) (owner : State → Answer) (s : State) : Host.Outcome State Fault Refusal :=
  if s.port.takes (kindCode k) tag then
    let a := decision k owner { s with port := s.port.bring (kindCode k) tag }
    finish { a.state with port := a.state.port.decided k tag a }
  else finish { s with port := s.port.arrive (kindCode k) tag none }

/-! ## The warning set -/

/-- Replaces a kind's entry in the warning set. -/
def State.setWarned (k : WarnKind) (w : Warned) (s : State) : State :=
  { s with ovl.warnings := s.ovl.warnings.setEntry w k }

/-- A CONDITION kind is placed in the warning set or removed from it; a kind already in, or already out, stays (R167). -/
def State.condition (k : WarnKind) (holds : Bool) (s : State) : State := s.setWarned k (if holds then .placed else .absent)

/-- A TIMED kind is posted: it joins the set, or its time restarts (R167). -/
def State.warn (k : WarnKind) (s : State) : State := s.setWarned k (.timed (s.clock + (warnTime k).getD 0))

/-! ## The clip in hand -/

/-- A change of the OPEN clip record, if one is open (R133). -/
def ClipLog.mapOpen (l : ClipLog) (f : ClipRec → ClipRec) : ClipLog :=
  { l with records := l.records.map fun r => if r.state = .opened then f r else r }

/-! ## The beeper -/

/-- A beep request: dropped while beeps are disabled or a pattern sounds; otherwise the pattern starts (R21). -/
def State.beep (p : Pattern) (s : State) : State :=
  if s.controls.beepEnable = true ∧ s.controls.beeper = none then
    { s with controls.beeper := some ⟨p, s.clock + patternTime p⟩ }
  else s

end Sys2Proof.Machine
end

