-- ==== Sys2Proof/Machine/Overlay.lean ====
section
/-! DEFINITION. The overlay generator (chapter 09): its operations, and the meanings of its requests and events. -/

namespace Sys2Proof.Machine

/-! ## Dirty rows -/

/-- The rows of a page whose displayed cells differ between two overlays join the page's dirty-row set (R176). -/
def Overlay.markChanged (before o : Overlay) (page : Fin 4) : Overlay :=
  let pg := o.pages.get page
  { o with pages := o.pages.set page { pg with
      dirty := .ofFn fun r => pg.dirty.get r || decide (before.displayedRow page r ≠ o.displayedRow page r) } }

/-- One row joins its page's set if its displayed cells differ between two overlays (R176). -/
def Overlay.markRowChanged (before : Overlay) (page : Fin 4) (row : Fin 16) (o : Overlay) : Overlay :=
  if before.displayedRow page row ≠ o.displayedRow page row then o.markRow page row else o

/-- The host layer of a page takes new cells, and the rows whose displayed cells change become dirty (R162, R176). -/
def Overlay.setCells (o : Overlay) (page : Fin 4) (cells : Fin 16 → Fin 40 → Cell) : Overlay :=
  Overlay.markChanged o
    { o with pages := o.pages.set page { o.pages.get page with cells := .ofFn fun r => .ofFn fun c => cells r c } } page

/-! ## Row transmission -/

/-- The rows of a batch that have not begun are dropped from it and stay dirty (R177). -/
def Overlay.dropWaiting (o : Overlay) : Overlay := { o with batch := o.batch.map fun b => { b with waiting := [] } }

/-- The next row of a batch begins: it leaves the dirty-row set and its message is made from the displayed page as it stands;
with no row left the batch ends (R177). -/
def Overlay.beginRows (o : Overlay) : List (Fin 16) → Overlay
  | [] => { o with batch := none }
  | r :: rs =>
    let pg := o.pages.get o.displayed
    { o with
      batch := some ⟨rowMessage o.displayed r (o.displayedRow o.displayed r) pg.cursor, rs⟩
      pages := o.pages.set o.displayed { pg with dirty := pg.dirty.set r false } }

/-- The dirty rows of the displayed page, from the lowest. -/
def Overlay.dirtyRows (o : Overlay) : List (Fin 16) :=
  (List.finRange 16).filter fun r => (o.pages.get o.displayed).dirty.get r

/-- A frame event starts a batch of the lowest dirty rows, at most four, where all the conditions hold (R177). -/
def Overlay.frameEvent (o : Overlay) : Overlay :=
  if o.power = .run ∧ o.vfPresent = true ∧ o.batch = none ∧ o.dirtyRows ≠ [] then o.beginRows (o.dirtyRows.take 4) else o

/-! ## Displayed page, menu mode and power -/

/-- The displayed page becomes `page`: a change marks all its rows and drops the rows of a batch not begun (R174, R176, R177). -/
def Overlay.display (o : Overlay) (page : Fin 4) : Overlay :=
  if page = o.displayed then o else { o.dropWaiting with displayed := page }.markPage page

/-- A change of the menu mode: entering saves the displayed page and displays page 3, leaving displays the saved page (R175). -/
def Overlay.setMenu (o : Overlay) (mode : Bool) : Overlay :=
  if mode = o.menu then o
  else if mode then { (o.display 3) with menu := true, saved := some o.displayed }
  else { (o.display (o.saved.getD o.displayed)) with menu := false, saved := none }

/-- A change of the power state handed to the overlay generator (R177, R178). -/
def Overlay.onPower (o : Overlay) (p : PowerState) : Overlay :=
  let o' := if o.power = .standby ∧ p = .run then o.markPage o.displayed else o
  { (if p = .run then o' else o'.dropWaiting) with power := p }

/-- MENU_TOGGLE from the panel inverts the menu mode and posts MENU_STATE (R175). -/
def State.menuToggle (s : State) : State :=
  { s with ovl := s.ovl.setMenu (!s.ovl.menu) }.post (.menuState (!s.ovl.menu))

/-! ## Requests -/

/-- The columns from `column` on that a run of `n` cells covers. -/
def inRun (column n : Nat) (c : Fin 40) : Bool := column ≤ c.val ∧ c.val < column + n

/-- OVL_WRITE's effect on the host layer (R169). -/
def Overlay.write (o : Overlay) (page : Fin 4) (row : Fin 16) (column : Nat) (style : Style) (text : List Byte) : Overlay :=
  o.setCells page fun r c =>
    if r = row ∧ inRun column text.length c = true then ⟨text.getD (c.val - column) 0x20, style⟩ else o.hostCell page r c

/-- OVL_WRITE's decision (R169). -/
def ovlWriteOwner (a : Args WriteArgs) (s : State) : Answer :=
  withArgs a s fun a =>
    match finOf 4 a.page, finOf 16 a.row, finOf 40 a.column with
    | some page, some row, some _ =>
      if 40 < a.text.length then badArgument s
      else okClamped (40 < a.column + a.text.length) { s with ovl := s.ovl.write page row a.column a.style a.text }
    | _, _, _ => badArgument s

/-- OVL_WRITE (R169). -/
def execOvlWrite (tag : Byte) (a : Args WriteArgs) (s : State) : Host.Outcome State Fault Refusal :=
  request .ovlWrite tag (ovlWriteOwner a) s

/-- OVL_FILL's effect on the host layer (R170). -/
def Overlay.fill (o : Overlay) (page : Fin 4) (row : Fin 16) (column count : Nat) (cell : Cell) : Overlay :=
  o.setCells page fun r c => if r = row ∧ inRun column count c = true then cell else o.hostCell page r c

/-- OVL_FILL's decision (R170). -/
def ovlFillOwner (a : Args FillArgs) (s : State) : Answer :=
  withArgs a s fun a =>
    match finOf 4 a.page, finOf 16 a.row, finOf 40 a.column with
    | some page, some row, some _ =>
      if 255 < a.count then badArgument s
      else okClamped (40 < a.column + a.count) { s with ovl := s.ovl.fill page row a.column a.count ⟨a.code, a.style⟩ }
    | _, _, _ => badArgument s

/-- OVL_FILL (R170). -/
def execOvlFill (tag : Byte) (a : Args FillArgs) (s : State) : Host.Outcome State Fault Refusal :=
  request .ovlFill tag (ovlFillOwner a) s

/-- The cell of a region's position after a scroll (R171). -/
def scrolledCell (a : ScrollArgs) (old : Fin 16 → Fin 40 → Cell) (r : Fin 16) (c : Fin 40) : Cell :=
  let blank : Cell := ⟨0x20, a.blank⟩
  if a.lines = 0 ∨ a.bottom - a.top + 1 ≤ a.lines then blank
  else match a.direction with
    | .up => if r.val + a.lines ≤ a.bottom then (match finOf 16 (r.val + a.lines) with
        | some r' => old r' c
        | none => blank) else blank
    | .down => if a.top + a.lines ≤ r.val then (match finOf 16 (r.val - a.lines) with
        | some r' => old r' c
        | none => blank) else blank

/-- OVL_SCROLL's effect on the host layer (R171). -/
def Overlay.scroll (o : Overlay) (page : Fin 4) (a : ScrollArgs) : Overlay :=
  o.setCells page fun r c =>
    if a.top ≤ r.val ∧ r.val ≤ a.bottom ∧ a.left ≤ c.val ∧ c.val ≤ a.right then scrolledCell a (o.hostCell page) r c
    else o.hostCell page r c

/-- OVL_SCROLL's decision (R171). -/
def ovlScrollOwner (a : Args ScrollArgs) (s : State) : Answer :=
  withArgs a s fun a =>
    match finOf 4 a.page with
    | some page => if scrollLegal a then ok { s with ovl := s.ovl.scroll page a } else badArgument s
    | none => badArgument s

/-- OVL_SCROLL (R171). -/
def execOvlScroll (tag : Byte) (a : Args ScrollArgs) (s : State) : Host.Outcome State Fault Refusal :=
  request .ovlScroll tag (ovlScrollOwner a) s

/-- OVL_CLEAR's decision (R172). -/
def ovlClearOwner (a : Args Nat) (s : State) : Answer :=
  withArgs a s fun page =>
    match finOf 4 page with
    | some page => ok { s with ovl := s.ovl.setCells page fun _ _ => .blank }
    | none => badArgument s

/-- OVL_CLEAR (R172). -/
def execOvlClear (tag : Byte) (a : Args Nat) (s : State) : Host.Outcome State Fault Refusal :=
  request .ovlClear tag (ovlClearOwner a) s

/-- Sets the cursor of a page; a change marks the row it was on and the row it is on (R173). -/
def Overlay.setCursor (o : Overlay) (page : Fin 4) (cur : Cursor) : Overlay :=
  let old := (o.pages.get page).cursor
  if cur = old then o
  else ({ o with pages := o.pages.set page { o.pages.get page with cursor := cur } }.markRow page old.row).markRow page cur.row

/-- OVL_CURSOR's decision (R173). -/
def ovlCursorOwner (a : Args CursorArgs) (s : State) : Answer :=
  withArgs a s fun a =>
    match finOf 4 a.page, finOf 16 a.row, finOf 40 a.column with
    | some page, some row, some column => ok { s with ovl := s.ovl.setCursor page ⟨row, column, a.visible⟩ }
    | _, _, _ => badArgument s

/-- OVL_CURSOR (R173). -/
def execOvlCursor (tag : Byte) (a : Args CursorArgs) (s : State) : Host.Outcome State Fault Refusal :=
  request .ovlCursor tag (ovlCursorOwner a) s

/-- OVL_PAGE_SELECT's decision (R174). -/
def ovlPageSelectOwner (a : Args Nat) (s : State) : Answer :=
  withArgs a s fun page =>
    match finOf 4 page with
    | some page => if s.ovl.menu then refuse .menu s else ok { s with ovl := s.ovl.display page }
    | none => badArgument s

/-- OVL_PAGE_SELECT (R174). -/
def execOvlPageSelect (tag : Byte) (a : Args Nat) (s : State) : Host.Outcome State Fault Refusal :=
  request .ovlPageSelect tag (ovlPageSelectOwner a) s

/-- OVL_MENU_SET's decision (R175). -/
def ovlMenuSetOwner (a : Args Bool) (s : State) : Answer :=
  withArgs a s fun mode => ok { s with ovl := s.ovl.setMenu mode }

/-- OVL_MENU_SET (R175). -/
def execOvlMenuSet (tag : Byte) (a : Args Bool) (s : State) : Host.Outcome State Fault Refusal :=
  request .ovlMenuSet tag (ovlMenuSetOwner a) s

/-- Whether an entry enabled at a placement would overlap another enabled field on the page (R163). -/
def Fields.clash (t : Fields) (k : FieldKind) (e : LiveField) : Bool :=
  allFields.any fun k' => k' ≠ k ∧ (t.entry k').enable = true ∧ overlaps k e k' (t.entry k') = true

/-- An entry of the live-field table takes an enable and a placement, with the dirty rows that follow (R163, R176). DEDUCED, log entry 29. -/
def Overlay.setField (o : Overlay) (k : FieldKind) (e : LiveField) : Overlay :=
  let old := o.fields.entry k
  let o' := { o with fields := o.fields.setEntry e k }
  if old.enable = true ∧ e.enable = false then o'.markRow old.page old.row
  else Overlay.markRowChanged o e.page e.row (Overlay.markRowChanged o old.page old.row o')

/-- OVL_FIELD_SET's decision (R163). -/
def ovlFieldSetOwner (a : Args FieldArgs) (s : State) : Answer :=
  withArgs a s fun a =>
    match finOf 4 a.page, finOf 16 a.row, finOf 40 a.column with
    | some page, some row, some column =>
      let e : LiveField := { s.ovl.fields.entry a.kind with enable := a.enable, page := page, row := row, column := column }
      if a.enable = true ∧ 39 < a.column + fieldWidth a.kind - 1 then badArgument s
      else if a.enable = true ∧ s.ovl.fields.clash a.kind e = true then badArgument s
      else ok { s with ovl := s.ovl.setField a.kind e }
    | _, _, _ => badArgument s

/-- OVL_FIELD_SET (R163). -/
def execOvlFieldSet (tag : Byte) (a : Args FieldArgs) (s : State) : Host.Outcome State Fault Refusal :=
  request .ovlFieldSet tag (ovlFieldSetOwner a) s

/-- The warnings in the set, with the remaining time of each TIMED one (R179). -/
def Warnings.report (w : Warnings) (now : Nat) : List WarnReport :=
  allWarnings.filterMap fun k => match w.entry k with
    | .absent => none
    | .placed => some ⟨k, none⟩
    | .timed t => some ⟨k, some (msLeft now t)⟩

/-- What OVL_GET reports (R179). -/
def State.ovlReport (s : State) (page : Fin 4) (row : Fin 16) : OvlReport :=
  { displayed := s.ovl.displayed, menu := s.ovl.menu, saved := s.ovl.saved, fields := s.ovl.fields,
    warnings := s.ovl.warnings.report s.clock, shown := s.ovl.warnings.top,
    cursors := s.ovl.pages.toList.map (·.cursor), dirty := s.ovl.pages.toList.map (·.dirty),
    vfPresent := s.ovl.vfPresent, sending := s.ovl.batch.isSome,
    hostCells := (s.ovl.pages.get page).cells.get row, displayedCells := s.ovl.displayedRow page row }

/-- OVL_GET's decision (R179). -/
def ovlGetOwner (a : Args OvlGetArgs) (s : State) : Answer :=
  withArgs a s fun a =>
    match finOf 4 a.page, finOf 16 a.row with
    | some page, some row => okWith (.overlay (s.ovlReport page row)) s
    | _, _ => badArgument s

/-- OVL_GET (R179). -/
def execOvlGet (tag : Byte) (a : Args OvlGetArgs) (s : State) : Host.Outcome State Fault Refusal :=
  request .ovlGet tag (ovlGetOwner a) s

/-! ## Events -/

/-- ROW_MESSAGE_END (R177): the next row of the batch begins, or the batch ends. Without a batch it has no effect. -/
def execRowMessageEnd (s : State) : Host.Outcome State Fault Refusal :=
  finish (match s.ovl.batch with
    | some b => { s with ovl := s.ovl.beginRows b.waiting }
    | none => s)

/-- The VF_PRESENT level changes (R178). -/
def Overlay.setVfPresent (o : Overlay) (level : Bool) : Overlay :=
  if level = o.vfPresent then o
  else if level then { o.markPage o.displayed with vfPresent := true }
  else { o.dropWaiting with vfPresent := false }

/-- VF_PRESENT_CHANGE (R178). -/
def execVfPresentChange (level : Bool) (s : State) : Host.Outcome State Fault Refusal :=
  finish { s with pins.vfPresent := level, ovl := s.ovl.setVfPresent level }

/-- WARNING_EXPIRY (R167): the time of a TIMED entry runs out and the kind leaves the set; of a kind that is not in the set with
a time it has no effect. -/
def execWarningExpiry (k : WarnKind) (s : State) : Host.Outcome State Fault Refusal :=
  finish (match s.ovl.warnings.entry k with
    | .timed t => (s.atTime t).setWarned k .absent
    | .absent | .placed => s)

end Sys2Proof.Machine
end

