-- ==== Sys2Proof/Machine/Timecode.lean ====
section
/-! DEFINITION. The timecode generator (chapter 05): the advance, the frame reference, and the meanings of its requests and
events. -/

namespace Sys2Proof.Machine

/-! ## The advance -/

/-- One frame onward at a rate, by carries from the frames field upward, and the correction at 30DF (R86, R87); the second part
says that midnight is passed (R88). -/
def advanceLabel (r : Rate) (l : Label) : Label × Bool :=
  if l.frames + 1 < countedRate r then ({ l with frames := l.frames + 1 }, false)
  else if l.seconds + 1 < 60 then (correctDropped r { l with seconds := l.seconds + 1, frames := 0 }, false)
  else if l.minutes + 1 < 60 then (correctDropped r { l with minutes := l.minutes + 1, seconds := 0, frames := 0 }, false)
  else if l.hours + 1 < 24 then (correctDropped r ⟨l.hours + 1, 0, 0, 0⟩, false)
  else (⟨0, 0, 0, 0⟩, true)

/-- The generator's label moves on where the run mode lets it; a rollover sets the day-roll flag (R86, R88, R89). -/
def Timecode.advance (t : Timecode) : Timecode :=
  if t.advances then
    let next := advanceLabel t.rate t.label
    { t with label := next.1, dayRoll := t.dayRoll || next.2 }
  else t

/-- Whether the next advance passes midnight (R88). -/
def Timecode.rollsOver (t : Timecode) : Bool := t.advances && (advanceLabel t.rate t.label).2

/-- A rollover is handed to the clip log, which sets the day-roll flag of the OPEN record (R88). -/
def State.rollover (s : State) : State :=
  if s.tc.rollsOver then { s with log := s.log.mapOpen fun r => { r with dayRoll := true } } else s

/-- A frame event (R86, R94): the rollover goes to the clip log, the label moves on and is handed to the overlay generator, and
the frame event is handed to it for its row transmission (R177). -/
def State.frameEvent (s : State) : State :=
  let s' := publish { s.rollover with tc := s.tc.advance }
  { s' with ovl := s'.ovl.frameEvent }

/-! ## The frame reference -/

/-- A report of the reference state (R93). -/
def State.reportReference (s : State) : State :=
  { (s.condition .fsyncLost (!s.tc.present)) with tc.reported := s.tc.present }.post (.fsyncState s.tc.present s.tc.stamp)

/-- A change of the reference state is reported at once, but not in STANDBY (R93). -/
def State.referenceChanged (s : State) : State := if s.supply.power = .standby then s else s.reportReference

/-- At an entry that reports a difference, the reference is reported once if it differs from the reported state (R93). -/
def State.reportDifference (s : State) : State := if s.tc.present = s.tc.reported then s else s.reportReference

/-- A rising edge while the reference is PRESENT: the watch restarts, and the edge is a frame event (R90). -/
def State.edgePresent (s : State) : State := { s with tc.watch := some (s.clock + watchTime) }.frameEvent

/-- The first rising edge while the reference is LOST (R92). DEDUCED in its order, log entry 25. -/
def State.edgeLost (s : State) : State :=
  { s with tc.present := true, tc.frameTimer := none, tc.watch := some (s.clock + watchTime) }.frameEvent.referenceChanged

/-- FSYNC_EDGE (R90, R92). -/
def execFsyncEdge (s : State) : Host.Outcome State Fault Refusal :=
  finish (if s.tc.present then s.edgePresent else s.edgeLost)

/-- The loss of the reference (R91). -/
def State.loseReference (s : State) : State :=
  { s with tc.present := false, tc.watch := none,
           tc.frameTimer := some (s.clock + framePeriod s.tc.rate) }.referenceChanged

/-- FSYNC_WATCH_EXPIRY (R90, R91); of a watch that is stopped it has no effect. -/
def execFsyncWatchExpiry (s : State) : Host.Outcome State Fault Refusal :=
  finish (match s.tc.watch with
    | some t => (s.atTime t).loseReference
    | none => s)

/-- The internal frame timer, due at `t`, expires: it reloads with the period of the rate, and the expiry is a frame event (R91). It
reloads from `t`, as the other periodic timers do. DESIGN CHOICE, log entry 1. -/
def State.frameTimerExpiry (t : Nat) (s : State) : State :=
  { s with tc.frameTimer := some (t + framePeriod s.tc.rate) }.frameEvent

/-- INTERNAL_FRAME_TIMER_EXPIRY (R91); of a stopped timer it has no effect. -/
def execInternalFrameTimerExpiry (s : State) : Host.Outcome State Fault Refusal :=
  finish (match s.tc.frameTimer with
    | some t => (s.atTime t).frameTimerExpiry t
    | none => s)

/-! ## Requests -/

/-- TC_SET's decision (R95). -/
def tcSetOwner (a : Args Label) (s : State) : Answer :=
  withArgs a s fun l =>
    if labelLegal s.tc.rate l = false then badArgument s
    else if s.tc.recState ≠ .standby then refuse .recording s
    else okClamped (correctDropped s.tc.rate l ≠ l) { s with tc.label := correctDropped s.tc.rate l }

/-- TC_SET (R95). -/
def execTcSet (tag : Byte) (a : Args Label) (s : State) : Host.Outcome State Fault Refusal :=
  request .tcSet tag (tcSetOwner a) s

/-- TC_MODE_SET's decision (R96). -/
def tcModeSetOwner (a : Args TcModeArgs) (s : State) : Answer :=
  withArgs a s fun m =>
    if s.tc.recState ≠ .standby then refuse .recording s
    else okClamped (labelToRate m.rate s.tc.label ≠ s.tc.label)
      { s with tc.rate := m.rate, tc.runMode := m.runMode, tc.label := labelToRate m.rate s.tc.label }

/-- TC_MODE_SET (R96). -/
def execTcModeSet (tag : Byte) (a : Args TcModeArgs) (s : State) : Host.Outcome State Fault Refusal :=
  request .tcModeSet tag (tcModeSetOwner a) s

/-- USERBITS_SET's decision (R97). -/
def userbitsSetOwner (a : Args (BitVec 32)) (s : State) : Answer :=
  withArgs a s fun bits => ok { s with tc.userBits := bits }

/-- USERBITS_SET (R97). -/
def execUserbitsSet (tag : Byte) (a : Args (BitVec 32)) (s : State) : Host.Outcome State Fault Refusal :=
  request .userbitsSet tag (userbitsSetOwner a) s

/-- What TC_GET reports (R98). -/
def Timecode.report (t : Timecode) : TcReport :=
  { label := t.stamp, rate := t.rate, runMode := t.runMode, userBits := t.userBits, dayRoll := t.dayRoll, present := t.present,
    advances := t.advances }

/-- TC_GET's decision (R98): the reply clears the day-roll flag it reports. -/
def tcGetOwner (s : State) : Answer := okWith (.timecode s.tc.report) { s with tc.dayRoll := false }

/-- TC_GET (R98). -/
def execTcGet (tag : Byte) (s : State) : Host.Outcome State Fault Refusal := request .tcGet tag tcGetOwner s

/-! ## Warm reset -/

/-- The generator at a warm reset: its copy of the record state becomes STANDBY, and the rest is kept (R100). -/
def Timecode.warm (t : Timecode) : Timecode := { t with recState := .standby }

end Sys2Proof.Machine
end

