-- ==== Sys2Proof/Machine/Stabiliser.lean ====
section
/-! DEFINITION. The optical stabiliser (chapter 04): its operating state, the computation of a sample event, and the meanings of
its requests. The sample event itself requests a group and stands in Converter.lean. -/

namespace Sys2Proof.Machine

/-! ## Operating state -/

/-- An axis at an exit from ACTIVE: accumulator, remainder, shift target and runs 0, the coil centred; offset and last gyro value
are kept (R68). That the last T_raw is 0 too is DEDUCED, log entry 24. -/
def GyroAxis.centred (x : GyroAxis) : GyroAxis :=
  { x with acc := 0, rem := 0, traw := 0, target := 0, duty := 512, satRun := 0, learnRun := 0 }

/-- The exit from ACTIVE (R68). -/
def Stabiliser.leaveActive (t : Stabiliser) : Stabiliser :=
  { t with yaw := t.yaw.centred, pitch := t.pitch.centred, panExit := 0, railRun := 0, missedRun := 0 }

/-- Whether the stabiliser is ACTIVE. -/
def Stabiliser.isActive (t : Stabiliser) : Bool :=
  match t.state with
  | .active _ => true
  | .off | .standby | .fault _ => false

/-- Whether the stabiliser is in FAULT. -/
def Stabiliser.isFault (t : Stabiliser) : Bool :=
  match t.state with
  | .fault _ => true
  | .off | .standby | .active _ => false

/-- A change of operating state, leaving ACTIVE by R68 where it leaves it. -/
def Stabiliser.enter (t : Stabiliser) (st : StabState) : Stabiliser :=
  let t' := if t.isActive then t.leaveActive else t
  { t' with state := st }

/-- The re-evaluation at an update of a copy: in FAULT none; otherwise the state follows from the copies, an ACTIVE state keeping
its sub-state (R67). -/
def Stabiliser.reevaluate (t : Stabiliser) : Stabiliser :=
  if t.isFault then t
  else match t.implied with
    | .active _ => if t.isActive then t else t.enter (.active .normal)
    | st => if t.state = st then t else t.enter st

/-- A block change of the stabiliser takes effect, with STAB_STATE where the operating state or the sub-state changes (R70). -/
def State.stabBecomes (t : Stabiliser) (s : State) : State :=
  let s' := { s with stab := t }
  if t.state = s.stab.state then s' else s'.post (.stabState t.state t.blocking)

/-- An update of the copies: the state is re-evaluated (R67). -/
def State.stabUpdate (c : Conditions) (s : State) : State :=
  s.stabBecomes { s.stab with cond := c }.reevaluate

/-- The supply monitor hands a change of the power state; the gyro-valid flag is cleared at an entry into a state other than RUN
(R67). -/
def State.stabPower (p : PowerState) (s : State) : State :=
  s.stabUpdate { s.stab.cond with run := p = .run, gyroValid := s.stab.cond.gyroValid && decide (p = .run) }

/-- The lens drive hands the zoom's homing status (R67). -/
def State.stabZoom (homed : Bool) (s : State) : State := s.stabUpdate { s.stab.cond with zoomHomed := homed }

/-- The converter hands the gyro enables (R67, R25). -/
def State.stabGyro (enabled : Bool) (s : State) : State := s.stabUpdate { s.stab.cond with gyroEnabled := enabled }

/-- Entry into FAULT, with STAB_FAULT placed (R69). -/
def State.stabFault (r : StabReason) (s : State) : State :=
  (s.stabBecomes (s.stab.enter (.fault r))).condition .stabFault true

/-- The end of a FAULT: the state is re-evaluated and STAB_FAULT leaves the warning set (R69). -/
def State.stabClear (s : State) : State :=
  (s.stabBecomes { s.stab with state := s.stab.implied }).condition .stabFault false

/-- The setting becomes ON or OFF (R66, R80). -/
def State.stabSetting (on : Bool) (s : State) : State :=
  let s' := { s with stab.setting := on }
  if s.stab.isFault then (if on then s'.stabClear else s')
  else s'.stabUpdate s.stab.cond

/-- STAB_TOGGLE from the panel inverts the setting (R66). -/
def State.stabToggle (s : State) : State := s.stabSetting (!s.stab.setting)

/-! ## The computation of one axis -/

/-- The gain interpolated over the table by the zoom position clamped to 0..span (R76). -/
def gainAt (g : Vector Nat 17) (position span : Int) : Int :=
  let zoom := clampInt 0 span position
  let i := (16 * zoom).tdiv span
  let f := (16 * zoom).tmod span
  let lo : Int := g.toList.getD i.toNat 0
  let hi : Int := g.toList.getD (i.toNat + 1) 0
  if i = 16 then lo else lo + ((hi - lo) * f).tdiv span

/-- The rate of an axis in sixteenths of an LSB (R74). -/
def rateAt (x : GyroAxis) : Int := 16 * x.value - x.z

/-- The leak's divisor: 2^10 in NORMAL, 2^6 in PAN (R75). -/
def leakOf : SubState → Int
  | .normal => 1024
  | .pan => 64

/-- The accumulator after a sample (R75). -/
def accumulate (sub : SubState) (acc r : Int) : Int := clampInt (-8388608) 8388608 (acc + r - acc.tdiv (leakOf sub))

/-- The raw shift target (R77). -/
def rawTarget (acc gain : Int) : Int := -((acc * gain).tdiv 1048576)

/-- The computation of one axis (R74, R75, R77). -/
def GyroAxis.compute (x : GyroAxis) (sub : SubState) (gain : Int) : GyroAxis :=
  let acc := accumulate sub x.acc (rateAt x)
  let traw := rawTarget acc gain
  let target := clampInt (-2000) 2000 traw
  { x with
    acc := acc, traw := traw, target := target, duty := 512 + target.tdiv 4
    satRun := if traw.natAbs ≤ 2000 then 0 else if sub = .normal then x.satRun + 1 else 0 }

/-! ## Pan and offset learning -/

/-- The pan test's clearing of an axis at entry into PAN (R78). -/
def GyroAxis.panned (x : GyroAxis) : GyroAxis := { x with satRun := 0, learnRun := 0, rem := 0 }

/-- The pan test (R78), with the rates of both axes at this event; `sub` is the sub-state at its start. -/
def Stabiliser.panTest (t : Stabiliser) (sub : SubState) (ry rp : Int) : Stabiliser :=
  match sub with
  | .normal =>
    if 40 ≤ t.yaw.satRun ∨ 40 ≤ t.pitch.satRun then
      { t with state := .active .pan, yaw := t.yaw.panned, pitch := t.pitch.panned, panExit := 0 }
    else t
  | .pan =>
    let run := if ry.natAbs < 400 ∧ rp.natAbs < 400 then t.panExit + 1 else 0
    if 200 ≤ run then { t with state := .active .normal, panExit := 0 } else { t with panExit := run }

/-- Offset learning of one axis by its rate of this event (R79). -/
def GyroAxis.learn (x : GyroAxis) (r : Int) : GyroAxis :=
  if 64 ≤ r.natAbs then { x with learnRun := 0, rem := 0 }
  else if x.learnRun < 500 then { x with learnRun := x.learnRun + 1 }
  else
    let total := x.rem + r
    { x with z := clampInt 16384 49152 (x.z + total.tdiv 256), rem := total - 256 * total.tdiv 256 }

/-- Learning is done in NORMAL only, in the sub-state the pan test leaves (R79). DEDUCED, log entry 24. -/
def Stabiliser.learn (t : Stabiliser) (ry rp : Int) : Stabiliser :=
  if t.state = .active .normal then { t with yaw := t.yaw.learn ry, pitch := t.pitch.learn rp } else t

/-- The computation of a sample event: YAW, then PITCH, the pan test and learning (R71, R74 to R79). -/
def Stabiliser.compute (t : Stabiliser) (sub : SubState) (position span : Int) : Stabiliser :=
  let gain := gainAt t.gains position span
  ({ t with yaw := t.yaw.compute sub gain, pitch := t.pitch.compute sub gain }.panTest sub (rateAt t.yaw) (rateAt t.pitch)).learn
    (rateAt t.yaw) (rateAt t.pitch)

/-! ## The sample event -/

/-- A record replaces the last gyro value of an axis (R71). -/
def GyroAxis.take (x : GyroAxis) (r : ResultRec) : GyroAxis := { x with value := r.value, status := r.status }

/-- A pair is taken: last gyro values, gyro-valid flag, and the update of R67 (R71). -/
def State.takePair (pair : ResultRec × ResultRec) (s : State) : State :=
  let t := { s.stab with mailbox := none, yaw := s.stab.yaw.take pair.1, pitch := s.stab.pitch.take pair.2 }
  { s with stab := t }.stabUpdate
    { s.stab.cond with gyroValid := pair.1.status ≠ RecStatus.invalid ∧ pair.2.status ≠ RecStatus.invalid }

/-- The rail run at a pair taken in ACTIVE (R73). -/
def Stabiliser.railRunAfter (t : Stabiliser) : Nat :=
  if t.yaw.status = .rail ∨ t.pitch.status = .rail then t.railRun + 1 else 0

/-- A taken pair is acted on in ACTIVE, sub-state `sub` (R71, R73). -/
def State.activeSample (sub : SubState) (s : State) : State :=
  let t := { s.stab with missedRun := 0, railRun := s.stab.railRunAfter }
  if 8 ≤ t.railRun then { s with stab := t }.stabFault .gyroRail
  else s.stabBecomes (t.compute sub s.lens.zoom.position s.lens.zoom.span)

/-- A missed sample in ACTIVE (R72). -/
def State.missedSample (s : State) : State :=
  let t := { s.stab with missedRun := s.stab.missedRun + 1, missed := countUp 255 s.stab.missed }
  if 50 ≤ t.missedRun then { s with stab := t }.stabFault .noSamples else { s with stab := t }

/-- A sample event in RUN up to its request (R71): a state that enters ACTIVE at this event computes from the next one on. -/
def State.sample (s : State) : State :=
  match s.stab.mailbox, s.stab.state with
  | some pair, .active sub =>
    let s' := s.takePair pair
    if s'.stab.isActive then s'.activeSample sub else s'
  | some pair, _ => s.takePair pair
  | none, .active _ => s.missedSample
  | none, _ => s

/-! ## Requests -/

/-- STAB_MODE_SET's decision (R80). -/
def stabModeSetOwner (a : Args Bool) (s : State) : Answer := withArgs a s fun on => ok (s.stabSetting on)

/-- STAB_MODE_SET (R80). -/
def execStabModeSet (tag : Byte) (a : Args Bool) (s : State) : Host.Outcome State Fault Refusal :=
  request .stabModeSet tag (stabModeSetOwner a) s

/-- STAB_GAIN_TABLE_SET's decision (R81). -/
def stabGainTableSetOwner (a : Args (List Nat)) (s : State) : Answer :=
  withArgs a s fun entries =>
    match gainsOf entries with
    | some g => ok { s with stab.gains := g }
    | none => badArgument s

/-- STAB_GAIN_TABLE_SET (R81). -/
def execStabGainTableSet (tag : Byte) (a : Args (List Nat)) (s : State) : Host.Outcome State Fault Refusal :=
  request .stabGainTableSet tag (stabGainTableSetOwner a) s

/-- STAB_OFFSET_SET's decision (R82). -/
def stabOffsetSetOwner (a : Args OffsetArgs) (s : State) : Answer :=
  withArgs a s fun a =>
    if 65535 < a.offset then badArgument s
    else
      let x := { s.stab.axis a.axis with z := offsetOf a.offset, learnRun := 0, rem := 0 }
      okClamped (offsetOf a.offset ≠ a.offset) { s with stab := s.stab.setAxis x a.axis }

/-- STAB_OFFSET_SET (R82). -/
def execStabOffsetSet (tag : Byte) (a : Args OffsetArgs) (s : State) : Host.Outcome State Fault Refusal :=
  request .stabOffsetSet tag (stabOffsetSetOwner a) s

/-- What STAB_GET reports (R83). -/
def Stabiliser.report (t : Stabiliser) : StabReport :=
  { setting := t.setting, state := t.state, blocking := t.blocking, cond := t.cond, gains := t.gains, yaw := t.yaw,
    pitch := t.pitch, panExit := t.panExit, railRun := t.railRun, missedRun := t.missedRun, missed := t.missed,
    replacements := t.replacements }

/-- STAB_GET's decision (R83): the reply sets the two counts to 0. -/
def stabGetOwner (s : State) : Answer := okWith (.stab s.stab.report) { s with stab.missed := 0, stab.replacements := 0 }

/-- STAB_GET (R83). -/
def execStabGet (tag : Byte) (s : State) : Host.Outcome State Fault Refusal := request .stabGet tag stabGetOwner s

/-! ## Warm reset -/

/-- An axis at a warm reset: the offset is kept (R84). -/
def GyroAxis.warm (x : GyroAxis) : GyroAxis := { GyroAxis.powerOn with z := x.z }

/-- The stabiliser at a warm reset (R84). The sample timer runs on, and a pair delivered and not yet taken is discarded. DESIGN
CHOICE, log entry 7. -/
def Stabiliser.warm (t : Stabiliser) (gyroEnabled : Bool) : Stabiliser :=
  { Stabiliser.powerOn with
    setting := t.setting, state := if t.setting then .standby else .off
    cond := { Stabiliser.powerOn.cond with gyroEnabled := gyroEnabled }
    gains := t.gains, yaw := t.yaw.warm, pitch := t.pitch.warm, sampleDue := t.sampleDue }

end Sys2Proof.Machine
end

