-- ==== Sys2Proof/Machine/Lens.lean ====
section
/-! DEFINITION. The lens drive (chapter 03): encoders and speed, the control event, stalls, homing, ownership, presets, focus,
and the meanings of its requests and events. -/

namespace Sys2Proof.Machine

/-! ## Holds and their ends -/

/-- The LENS_FAULT warning follows the fault flags of the two axes (R46). -/
def State.lensFault (s : State) : State := s.condition .lensFault (s.lens.zoom.fault || s.lens.focus.fault)

/-- The MOTION_DONE notice of a hold's end, where the owner's end posts one (R52). -/
def State.motionDone (ax : Axis) (o : MotionOutcome) (s : State) : State :=
  match (s.axis ax).owner with
  | .operator | .preset | .remote => s.post (.motionDone ax o (s.axis ax).owner (s.axis ax).position)
  | .none | .homing => s

/-- An axis with no owner, no move and no target; a stall pause ends with its move (R41, R45, R52). DEDUCED, log entry 19. -/
def AxisRec.released (a : AxisRec) : AxisRec :=
  { a with owner := .none, move := none, target := none, gotoSpeed := none, driveSpeed := 0, pause := none }

/-- The drive timer stops with the hold of the zoom (R55). -/
def Lens.stopDrive (l : Lens) : Axis → Lens
  | .zoom => { l with driveTimer := none }
  | .focus => l

/-- A hold ends with its notice; the commanded speed stands (R52). -/
def State.endHold (ax : Axis) (o : MotionOutcome) (s : State) : State :=
  let s' := s.motionDone ax o
  { s' with lens := (s'.lens.setAxis (s'.axis ax).released ax).stopDrive ax }

/-- A goto begins: move, target, goto speed and owner are set (R54, R58, R60). -/
def State.beginGoto (ax : Axis) (owner : Owner) (target : Int) (speed : Nat) (s : State) : State :=
  s.setAxis ax { s.axis ax with owner := owner, move := some .goto, target := some target, gotoSpeed := some speed }

/-! ## Encoder and measured speed -/

/-- The levels of a motor encoder after an edge on a line (R38). -/
def Levels.toggle (l : Levels) : EncoderLine → Levels
  | .a => { l with a := !l.a }
  | .b => { l with b := !l.b }

/-- Whether an edge on a line is in the positive direction, from the levels after it: A then B, low-low, high-low, high-high,
low-high and back (R38). -/
def positiveEdge (l : Levels) : EncoderLine → Bool
  | .a => l.a ≠ l.b
  | .b => l.a = l.b

/-- A position moved by one count; beyond the range of R38 a free value (log entry 4). -/
def countPosition (p : Int) (positive : Bool) : Int :=
  let q := if positive then p + 1 else p - 1
  if -2147483648 ≤ q ∧ q ≤ 2147483647 then q else (Config.positionBeyondRange q).toInt

/-- N of a capture from the last measured speed (R40). -/
def captureEdges (measured : Int) : Nat :=
  if measured.natAbs < 500 then 1 else if measured.natAbs < 4000 then 4 else 16

/-- The magnitude of a measured speed: N edges in a period in µs (R40); of a period of 0 a free value (log entry 5). -/
def speedOf (n period : Nat) : Nat := if period = 0 then Config.speedAtZeroPeriod n else n * 1000000 / period

/-- A capture that begins at an edge (R40). -/
def Capture.begin (measured : Int) (time : Nat) (positive : Bool) : Capture := ⟨captureEdges measured, 0, time, positive⟩

/-- The speed capture at an edge (R40). -/
def AxisRec.captureEdge (a : AxisRec) (time : Nat) (positive : Bool) : AxisRec :=
  match a.capture with
  | none => { a with capture := some (.begin a.measured time positive) }
  | some c =>
    if c.positive ≠ positive then { a with capture := some (.begin a.measured time positive) }
    else if c.count + 1 < c.n then { a with capture := some { c with count := c.count + 1 } }
    else
      let speed : Int := if positive then speedOf c.n (time - c.start) else -(speedOf c.n (time - c.start) : Int)
      { a with measured := speed, capture := some (.begin speed time positive) }

/-- The measured speed becomes 0, and the next capture uses N = 1 (R40). -/
def AxisRec.stand (a : AxisRec) : AxisRec := { a with measured := 0, capture := none }

/-- MOTOR_ENCODER_EDGE (R38, R40): an edge of one line, at a time of the edge timer. -/
def execMotorEncoderEdge (ax : Axis) (line : EncoderLine) (time : Nat) (s : State) : Host.Outcome State Fault Refusal :=
  let levels := (s.pins.motor ax).toggle line
  let positive := positiveEdge levels line
  let s' := { s.atTime time with pins := s.pins.setMotor levels ax }
  let a := s'.axis ax
  finish (s'.setAxis ax
    ({ a with position := countPosition a.position positive, lastEdge := some s'.clock }.captureEdge s'.clock positive))

/-- SPEED_TIMEOUT (R40): 50 ms after the last edge. Of an axis without an edge it has no effect. -/
def execSpeedTimeout (ax : Axis) (s : State) : Host.Outcome State Fault Refusal :=
  finish (match (s.axis ax).lastEdge with
    | some t => (s.atTime (t + noEdgeTime)).setAxis ax (s.axis ax).stand
    | none => s)

/-! ## Homing -/

/-- A homing run begins (R47): the stall suspect is cleared, also where the run preempts a move in a stall pause. DEDUCED, log
entry 19. -/
def State.beginHoming (ax : Axis) (s : State) : State :=
  let s' := s.endHold ax .preempted
  let a := s'.axis ax
  let s'' := s'.setAxis ax
    { a with owner := .homing, homing := .homing .seekNear, spanBefore := some a.span, suspect := none, dutyRun := none,
             phaseStart := s.clock, homingTimer := some (s.clock + homingTime) }
  match ax with
  | .zoom => s''.stabZoom false
  | .focus => s''

/-- A homing run is abandoned: the span is the one held before the run, also where the run had passed SEEK_FAR (R50). -/
def State.abandonHoming (ax : Axis) (r : AbandonReason) (s : State) : State :=
  let a := s.axis ax
  let s' := (s.setAxis ax { a.released with
    homing := .abandoned r, span := a.spanBefore.getD a.span, spanBefore := none, vcmd := 0, homingTimer := none }).post
      (.homeDone ax (.abandoned r))
  match ax with
  | .zoom => s'.stabZoom false
  | .focus => s'

/-- Presets above a new span become the span (R49). -/
def Lens.clampPresets (l : Lens) (span : Int) : Lens := { l with presets := vmap (fun _ p => if span < p then span else p) l.presets }

/-- A homing run completes at the arrival of its PARK goto (R49). -/
def State.completeHoming (ax : Axis) (s : State) : State :=
  let a := s.axis ax
  let s' := (s.setAxis ax { a.released with homing := .homed, spanBefore := none, vcmd := 0, homingTimer := none, fault := false }).lensFault
  match ax with
  | .zoom => ({ s' with lens := s'.lens.clampPresets a.span }.post (.homeDone ax (.homed a.span))).stabZoom true
  | .focus => s'.post (.homeDone ax (.homed a.span))

/-- The phase of the homing run an axis is in. -/
def AxisRec.phase (a : AxisRec) : Option HomingPhase :=
  match a.homing with
  | .homing p => some p
  | .unhomed | .homed | .abandoned _ => none

/-- The time a seek phase ends: 50 ms after the later of its last edge and its begin (R48). -/
def AxisRec.seekEnd (a : AxisRec) : Nat := max a.phaseStart (a.lastEdge.getD 0) + noEdgeTime

/-- The end of SEEK_NEAR: the position is set to 0 (R48). -/
def State.seekNearEnd (ax : Axis) (s : State) : State :=
  s.setAxis ax { (s.axis ax).stand with position := 0, homing := .homing .seekFar, phaseStart := s.clock }

/-- The end of SEEK_FAR: the measured span is checked, and the PARK goto begins (R48, R49). -/
def State.seekFarEnd (ax : Axis) (s : State) : State :=
  let a := (s.axis ax).stand
  if spanAccepted ax a.position then
    s.setAxis ax { a with span := a.position, homing := .homing .park, phaseStart := s.clock,
                          target := some (parkPosition ax a.position), gotoSpeed := some 2000 }
  else (s.setAxis ax a).abandonHoming ax .span

/-- SEEK_END (R48, R49); outside a seek phase it has no effect. -/
def execSeekEnd (ax : Axis) (s : State) : Host.Outcome State Fault Refusal :=
  let s' := s.atTime (s.axis ax).seekEnd
  finish (match (s.axis ax).phase with
    | some .seekNear => s'.seekNearEnd ax
    | some .seekFar => s'.seekFarEnd ax
    | some .park | none => s)

/-- HOMING_TIMEOUT (R50); of a timer that is stopped it has no effect. -/
def execHomingTimeout (ax : Axis) (s : State) : Host.Outcome State Fault Refusal :=
  finish (match (s.axis ax).homingTimer with
    | some t => (s.atTime t).abandonHoming ax .timeout
    | none => s)

/-! ## The control event -/

/-- Whether a running goto has arrived (R41). -/
def AxisRec.arrived (a : AxisRec) : Bool :=
  match a.target with
  | some t => (a.position - t).natAbs ≤ 2
  | none => false

/-- The arrival of a goto: the owner's end is handled and v_cmd becomes 0 (R41). -/
def State.arrive (ax : Axis) (s : State) : State :=
  match (s.axis ax).owner with
  | .homing => s.completeHoming ax
  | .preset | .remote => let s' := s.endHold ax .arrived; s'.setAxis ax { s'.axis ax with vcmd := 0 }
  | .operator | .none => s.setAxis ax { (s.axis ax).released with vcmd := 0 }

/-- The rocker claims the zoom at its control event (R53). -/
def State.rockerClaim (s : State) : State :=
  let a := s.lens.zoom
  let free := match a.owner with
    | .none | .preset | .remote => true
    | .operator | .homing => false
  if s.lens.demand ≠ 0 ∧ s.lens.blocked = false ∧ motionOf a ≠ .fault ∧ free = true then
    let s' := s.endHold .zoom .preempted
    { s' with lens.zoom.owner := .operator }
  else s

/-- The goto speed with the sign of target − position (R41). -/
def AxisRec.gotoTargetSpeed (a : AxisRec) : Int :=
  match a.target, a.gotoSpeed with
  | some t, some v => if a.position < t then v else if t < a.position then -(v : Int) else 0
  | _, _ => 0

/-- The target speed of an axis from its owner (R41). -/
def Lens.targetSpeed (l : Lens) (ax : Axis) : Int :=
  let a := l.axis ax
  match a.owner, a.phase with
  | .none, _ => 0
  | .homing, some .seekNear => -2000
  | .homing, some .seekFar => 2000
  | .homing, _ => a.gotoTargetSpeed
  | .operator, _ => match ax with
    | .zoom => (l.demand * l.zoomVmax).tdiv 1000
    | .focus => a.gotoTargetSpeed
  | .preset, _ => a.gotoTargetSpeed
  | .remote, _ => match a.move with
    | some .drive => a.driveSpeed
    | some .goto | none => a.gotoTargetSpeed

/-- The speed limit of an axis (R42, 1). -/
def Lens.speedLimit (l : Lens) (ax : Axis) : Nat :=
  let a := l.axis ax
  let m := if a.homing ≠ .homed ∧ a.owner ≠ .homing then l.vmax ax / 4 else l.vmax ax
  if l.halving then m / 2 else m

/-- The distance of the deceleration cap for a target speed (R42, 2). -/
def AxisRec.distance (a : AxisRec) (speed : Int) : Nat :=
  match a.target with
  | some t => (t - a.position).natAbs
  | none => (if 0 < speed then a.span - a.position else a.position).toNat

/-- Whether the deceleration cap applies (R42, 2). -/
def AxisRec.capped (a : AxisRec) : Bool := a.homing = .homed ∨ a.homing = .homing .park

/-- The limited target speed (R42). -/
def Lens.limitedSpeed (l : Lens) (ax : Axis) (speed : Int) : Int :=
  let a := l.axis ax
  let m := l.speedLimit ax
  let cap := if a.capped then min m (40 * a.distance speed) else m
  clampInt (-(cap : Int)) cap speed

/-- v_cmd and the gap count from the limited target speed (R43); in a stall pause v_cmd is held at 0 (R45). -/
def AxisRec.ramp (a : AxisRec) (gap : Nat) (speed : Int) : AxisRec :=
  if 0 < a.gap then { a with gap := a.gap - 1, vcmd := 0 }
  else if a.pause.isSome then { a with vcmd := 0 }
  else if (0 < a.vcmd ∧ speed < 0) ∨ (a.vcmd < 0 ∧ 0 < speed) then { a with vcmd := 0, gap := gap - 1 }
  else if speed.natAbs ≤ a.vcmd.natAbs then { a with vcmd := speed }
  else { a with vcmd := clampInt (a.vcmd - 400) (a.vcmd + 400) speed }

/-- A centred rocker's hold ends once v_cmd is 0 (R43, R53). -/
def Lens.releaseRocker (l : Lens) (ax : Axis) : Lens :=
  match ax with
  | .zoom => if l.zoom.owner = .operator ∧ l.demand = 0 ∧ l.zoom.vcmd = 0 then { l with zoom := l.zoom.released } else l
  | .focus => l

/-- The duty of a commanded speed (R44). -/
def dutyOf (vcmd : Int) (vmax : Nat) : Nat := if vcmd = 0 then 0 else 96 + vcmd.natAbs * 927 / vmax

/-- The duty of the event and its direction (R44). -/
def AxisRec.drive (a : AxisRec) (vmax : Nat) : AxisRec :=
  { a with duty := if a.pause.isSome then 0 else dutyOf a.vcmd vmax, forward := 0 < a.vcmd }

/-- The start of the unbroken run of events with duty 300 or more that this event belongs to (R45). -/
def AxisRec.watchRun (a : AxisRec) (now : Nat) : AxisRec :=
  { a with dutyRun := if a.owner = .homing ∨ a.duty < 300 then none else some (a.dutyRun.getD now) }

/-- Whether the no-edge time has reached 50 ms at this event (R45). -/
def AxisRec.stalled (a : AxisRec) (now : Nat) : Bool :=
  match a.dutyRun with
  | some t => max t (a.lastEdge.getD 0) + noEdgeTime ≤ now
  | none => false

/-- A stall suspect with none held: its time is recorded and the stall pause begins (R45). -/
def AxisRec.suspected (a : AxisRec) (now : Nat) : AxisRec :=
  { a with suspect := some now, pause := some (now + stallPauseTime), vcmd := 0, duty := 0, dutyRun := none }

/-- A confirmed stall (R46). -/
def State.confirmStall (ax : Axis) (s : State) : State :=
  let s' := s.endHold ax .stalled
  (s'.setAxis ax { s'.axis ax with fault := true, vcmd := 0, duty := 0, dutyRun := none, suspect := none }).lensFault

/-- The stall watch of a control event (R45, R46). -/
def State.stallWatch (ax : Axis) (s : State) : State :=
  let a := (s.axis ax).watchRun s.clock
  let s' := s.setAxis ax a
  if a.stalled s.clock then
    if suspectHeld a s.clock then s'.confirmStall ax else s.setAxis ax (a.suspected s.clock)
  else s'

/-- A control event from its target speed on: limits, gap and ramp, the rocker's release, the duty and the stall watch (R42 to
R45). -/
def State.controlSpeed (ax : Axis) (speed : Int) (s : State) : State :=
  let l := s.lens
  let l' := (l.setAxis ((l.axis ax).ramp (l.gap ax) (l.limitedSpeed ax speed)) ax).releaseRocker ax
  { s with lens := l'.setAxis ((l'.axis ax).drive (l'.vmax ax)) ax }.stallWatch ax

/-- The claim of the rocker at a control event of the zoom (R53). -/
def State.claimAt (ax : Axis) (s : State) : State :=
  match ax with
  | .zoom => s.rockerClaim
  | .focus => s

/-- A control event of a driven axis (R41 to R45): arrival, the rocker's claim, the target speed and what follows from it. After
homing ends the rocker claims at the next control event (R53); on an arrival the target speed is 0. In a stall pause arrival, claim
and the release of a centred rocker are tested as at any other event, and v_cmd and the duty are held at 0 (R45). DEDUCED, log entry
19. -/
def State.controlEvent (ax : Axis) (s : State) : State :=
  if (s.axis ax).arrived then
    let s' := s.arrive ax
    (if (s.axis ax).owner = .homing then s' else s'.claimAt ax).controlSpeed ax 0
  else
    let s' := s.claimAt ax
    s'.controlSpeed ax (s'.lens.targetSpeed ax)

/-- An expiry of an axis's control timer: the control event, or nothing while the bridge floats (R41). -/
def State.controlTimer (ax : Axis) (s : State) : State :=
  let a := s.axis ax
  let s' := (s.atTime a.controlDue).setAxis ax { a with controlDue := a.controlDue + eventPeriod }
  if s'.lens.floating then s' else s'.controlEvent ax

/-- CONTROL_EVENT (R41). -/
def execControlEvent (ax : Axis) (s : State) : Host.Outcome State Fault Refusal := finish (s.controlTimer ax)

/-- DIRECTION_GAP_END (R43): the control event at which the gap count runs out, from 1 to 0. At any other count it has no
effect. DEDUCED, log entry 18. -/
def execDirectionGapEnd (ax : Axis) (s : State) : Host.Outcome State Fault Refusal :=
  finish (if (s.axis ax).gap = 1 then s.controlTimer ax else s)

/-- STALL_PAUSE_END (R45); without a pause it has no effect. -/
def execStallPauseEnd (ax : Axis) (s : State) : Host.Outcome State Fault Refusal :=
  finish (match (s.axis ax).pause with
    | some t => (s.atTime t).setAxis ax { s.axis ax with pause := none }
    | none => s)

/-- STALL_SUSPECT_EXPIRY (R45); without a suspect it has no effect. -/
def execStallSuspectExpiry (ax : Axis) (s : State) : Host.Outcome State Fault Refusal :=
  finish (match (s.axis ax).suspect with
    | some t => (s.atTime (t + suspectTime)).setAxis ax { s.axis ax with suspect := none }
    | none => s)

/-! ## Demands of the operator -/

/-- The control scanner hands a rocker demand; a block is lifted when it becomes 0 (R53, R56). -/
def State.rockerDemand (d : Int) (s : State) : State :=
  { s with lens.demand := d, lens.blocked := s.lens.blocked && decide (d ≠ 0) }

/-- The recorded times of the last two ring detents, this one included (R60). -/
def Lens.recordDetent (l : Lens) (now : Nat) : List Nat := now :: l.detents.take 1

/-- The step of a ring detent: 32 counts where both recorded detents came within the 10 ms ending at it, 8 otherwise (R60). -/
def Lens.detentStep (l : Lens) (now : Nat) : Int :=
  match l.detents with
  | [t, t'] => if now ≤ t + detentWindow ∧ now ≤ t' + detentWindow then 32 else 8
  | _ => 8

/-- A ring target on the focus axis: clamped to 0..span on a HOMED axis (R60). -/
def AxisRec.ringTarget (a : AxisRec) (t : Int) : Int := if a.homing = .homed then clampInt 0 a.span t else t

/-- In AUTO a detent starts or restarts the override window (R60). -/
def State.startOverride (s : State) : State :=
  if s.lens.mode = .auto then { s with lens.override := some (s.clock + overrideTime) } else s

/-- A focus ring detent (R60). -/
def State.ringDetent (up : Bool) (s : State) : State :=
  let step := if up then s.lens.detentStep s.clock else -s.lens.detentStep s.clock
  let s' := { s with lens.detents := s.lens.recordDetent s.clock }
  let a := s'.lens.focus
  if motionOf a = .fault ∨ a.owner = .homing then s'
  else
    let origin := if a.owner = .operator then a.target.getD a.position else a.position
    let s'' := if a.owner = .operator then s' else s'.endHold .focus .preempted
    (s''.beginGoto .focus .operator (a.ringTarget (origin + step)) (s''.lens.vmax .focus)).startOverride

/-- A panel store of a preset (R57). -/
def State.panelStore (n : Fin 8) (s : State) : State :=
  let a := s.lens.zoom
  if a.homing = .homed ∧ a.owner ≠ .homing then
    { s with lens.presets := s.lens.presets.set n (clampInt 0 a.span a.position) }.beep .short
  else s.beep .reject

/-- An accepted recall: a goto to the entry, clamped to 0..span, at the preset speed limited to VMAX (R58). -/
def State.recall (owner : Owner) (n : Fin 8) (s : State) : State :=
  let s' := s.endHold .zoom .preempted
  s'.beginGoto .zoom owner (clampInt 0 s.lens.zoom.span (s.lens.presets.get n)) (min s.lens.presetSpeed s.lens.zoomVmax)

/-- A panel recall of a preset (R58). -/
def State.panelRecall (n : Fin 8) (s : State) : State :=
  let a := s.lens.zoom
  if a.homing ≠ .homed ∨ motionOf a = .fault ∨ a.owner = .homing ∨ a.owner = .operator then s.beep .reject
  else s.recall .preset n

/-- A change of the focus mode (R59). -/
def State.setFocusMode (m : FocusMode) (s : State) : State :=
  if m = s.lens.mode then s
  else
    let s' := { s with lens.mode := m, lens.override := none }
    if m = .manual ∧ s.lens.focus.owner = .remote then s'.endHold .focus .preempted else s'

/-- FOCUS_MODE_TOGGLE from the panel (R59). -/
def State.focusToggle (s : State) : State :=
  s.setFocusMode (match s.lens.mode with | .manual => .auto | .auto => .manual)

/-- OVERRIDE_WINDOW_EXPIRY (R60); of a window that does not run it has no effect. -/
def execOverrideWindowExpiry (s : State) : Host.Outcome State Fault Refusal :=
  finish (match s.lens.override with
    | some t => { s.atTime t with lens.override := none }
    | none => s)

/-! ## Requests -/

/-- The checks 2 to 6 of a host move request; check 5 is `operator` (R52). -/
def State.moveRefusal (ax : Axis) (operator : Bool) (s : State) : Option Reason :=
  let a := s.axis ax
  if s.supply.power = .standby then some .standby
  else if motionOf a = .fault then some .fault
  else if a.homing ≠ .homed then some .unhomed
  else if operator then some .operator
  else match a.owner with
    | .homing | .operator | .preset => some .busyOwner
    | .remote | .none => none

/-- A checked host move request (R52). -/
def moveRequest (ax : Axis) (operator : Bool) (s : State) (accept : State → Answer) : Answer :=
  match s.moveRefusal ax operator with
  | some r => refuse r s
  | none => accept s

/-- An accepted goto of the host (R54). -/
def acceptGoto (ax : Axis) (a : GotoArgs) (s : State) : Answer :=
  let span := (s.axis ax).span
  let vmax := s.lens.vmax ax
  okClamped (gotoClamped span vmax a)
    ((s.endHold ax .preempted).beginGoto ax .remote (gotoTarget span a) (gotoSpeedOf vmax a))

/-- ZOOM_GOTO's decision (R54). -/
def zoomGotoOwner (a : Args GotoArgs) (s : State) : Answer :=
  withArgs a s fun a => if gotoLegal a then moveRequest .zoom false s (acceptGoto .zoom a) else badArgument s

/-- ZOOM_GOTO (R54). -/
def execZoomGoto (tag : Byte) (a : Args GotoArgs) (s : State) : Host.Outcome State Fault Refusal :=
  request .zoomGoto tag (zoomGotoOwner a) s

/-- FOCUS_GOTO's decision (R61). -/
def focusGotoOwner (a : Args GotoArgs) (s : State) : Answer :=
  withArgs a s fun a =>
    if gotoLegal a then
      moveRequest .focus (s.lens.mode = .manual ∨ s.lens.override.isSome = true) s (acceptGoto .focus a)
    else badArgument s

/-- FOCUS_GOTO (R61). -/
def execFocusGoto (tag : Byte) (a : Args GotoArgs) (s : State) : Host.Outcome State Fault Refusal :=
  request .focusGoto tag (focusGotoOwner a) s

/-- An accepted drive: a running REMOTE drive is extended, any other hold ends PREEMPTED (R55). -/
def acceptDrive (a : DriveArgs) (s : State) : Answer :=
  let z := s.lens.zoom
  let s' := if z.owner = .remote ∧ z.move = some .drive then s else s.endHold .zoom .preempted
  let speed := driveSpeedOf s.lens.zoomVmax a
  okClamped (speed ≠ a.speed)
    { s' with
      lens.zoom := { s'.lens.zoom with owner := .remote, move := some .drive, driveSpeed := speed }
      lens.driveTimer := some (s.clock + 1000 * a.duration) }

/-- ZOOM_DRIVE's decision (R55). -/
def zoomDriveOwner (a : Args DriveArgs) (s : State) : Answer :=
  withArgs a s fun a => if driveLegal a then moveRequest .zoom false s (acceptDrive a) else badArgument s

/-- ZOOM_DRIVE (R55). -/
def execZoomDrive (tag : Byte) (a : Args DriveArgs) (s : State) : Host.Outcome State Fault Refusal :=
  request .zoomDrive tag (zoomDriveOwner a) s

/-- The end of a drive by its timer (R55). -/
def State.driveElapsed (s : State) : State :=
  let s' := s.endHold .zoom .elapsed
  { s' with lens.zoom.vcmd := 0 }

/-- DRIVE_TIMER_EXPIRY (R55); while no drive runs it has no effect. -/
def execDriveTimerExpiry (s : State) : Host.Outcome State Fault Refusal :=
  finish (match s.lens.driveTimer with
    | some t => if s.lens.zoom.move = some .drive then (s.atTime t).driveElapsed else s
    | none => s)

/-- PRESET_RECALL's decision (R58). -/
def presetRecallOwner (a : Args Nat) (s : State) : Answer :=
  withArgs a s fun n =>
    match presetOf n with
    | some n => moveRequest .zoom false s fun s => ok (s.recall .remote n)
    | none => badArgument s

/-- PRESET_RECALL (R58). -/
def execPresetRecall (tag : Byte) (a : Args Nat) (s : State) : Host.Outcome State Fault Refusal :=
  request .presetRecall tag (presetRecallOwner a) s

/-- PRESET_SET's decision (R57). -/
def presetSetOwner (a : Args PresetSetArgs) (s : State) : Answer :=
  withArgs a s fun a =>
    match presetOf a.preset with
    | none => badArgument s
    | some n =>
      let z := s.lens.zoom
      if s.supply.power = .standby then refuse .standby s
      else if z.homing ≠ .homed ∨ z.owner = .homing then refuse .unhomed s
      else
        let p := a.position.getD z.position
        okClamped (clampInt 0 z.span p ≠ p) { s with lens.presets := s.lens.presets.set n (clampInt 0 z.span p) }

/-- PRESET_SET (R57). -/
def execPresetSet (tag : Byte) (a : Args PresetSetArgs) (s : State) : Host.Outcome State Fault Refusal :=
  request .presetSet tag (presetSetOwner a) s

/-- LENS_HOME's decision (R51). -/
def lensHomeOwner (a : Args Axis) (s : State) : Answer :=
  withArgs a s fun ax =>
    if s.supply.power = .standby then refuse .standby s
    else if s.supply.power = .init then refuse .none s
    else if (s.axis ax).phase.isSome then refuse .inProgress s
    else ok (s.beginHoming ax)

/-- LENS_HOME (R51). -/
def execLensHome (tag : Byte) (a : Args Axis) (s : State) : Host.Outcome State Fault Refusal :=
  request .lensHome tag (lensHomeOwner a) s

/-- What LENS_STOP ends, by the owner of the axis (R56). -/
def State.lensStop (ax : Axis) (s : State) : State :=
  match (s.axis ax).owner with
  | .homing => s.abandonHoming ax .stopped
  | .operator | .preset | .remote => let s' := s.endHold ax .stopped; s'.setAxis ax { s'.axis ax with vcmd := 0 }
  | .none => s

/-- A LENS_STOP of the zoom while the held rocker demand is not 0 blocks the rocker (R56). -/
def State.blockRocker (ax : Axis) (s : State) : State :=
  match ax with
  | .zoom => { s with lens.blocked := s.lens.blocked || decide (s.lens.demand ≠ 0) }
  | .focus => s

/-- LENS_STOP's decision (R56). -/
def lensStopOwner (a : Args Axis) (s : State) : Answer :=
  withArgs a s fun ax =>
    if s.supply.power = .standby then refuse .standby s else ok ((s.lensStop ax).blockRocker ax)

/-- LENS_STOP (R56). -/
def execLensStop (tag : Byte) (a : Args Axis) (s : State) : Host.Outcome State Fault Refusal :=
  request .lensStop tag (lensStopOwner a) s

/-- FOCUS_MODE_SET's decision (R59). -/
def focusModeSetOwner (a : Args FocusMode) (s : State) : Answer :=
  withArgs a s fun m => if s.supply.power = .standby then refuse .standby s else ok (s.setFocusMode m)

/-- FOCUS_MODE_SET (R59). -/
def execFocusModeSet (tag : Byte) (a : Args FocusMode) (s : State) : Host.Outcome State Fault Refusal :=
  request .focusModeSet tag (focusModeSetOwner a) s

/-- LENS_CONFIG's decision (R62). -/
def lensConfigOwner (a : Args LensConfigArgs) (s : State) : Answer :=
  withArgs a s fun a =>
    if gapLegal a.zoomGap = false ∨ gapLegal a.focusGap = false then badArgument s
    else if s.supply.power = .standby then refuse .standby s
    else
      let vmax := clampNat 2000 8000 a.zoomVmax
      let speed := clampNat 100 vmax a.presetSpeed
      okClamped (vmax ≠ a.zoomVmax ∨ speed ≠ a.presetSpeed)
        { s with lens.zoomVmax := vmax, lens.presetSpeed := speed, lens.zoomGap := a.zoomGap, lens.focusGap := a.focusGap }

/-- LENS_CONFIG (R62). -/
def execLensConfig (tag : Byte) (a : Args LensConfigArgs) (s : State) : Host.Outcome State Fault Refusal :=
  request .lensConfig tag (lensConfigOwner a) s

/-- What LENS_GET reports of an axis (R63). -/
def AxisRec.report (a : AxisRec) (now : Nat) : AxisReport :=
  { position := a.position, span := a.span, homing := a.homing, motion := motionOf a, owner := a.owner, move := a.move,
    target := a.target, gotoSpeed := a.gotoSpeed, vcmd := a.vcmd, measured := a.measured, duty := a.duty, fault := a.fault,
    suspect := suspectHeld a now }

/-- What LENS_GET reports (R63). -/
def Lens.report (l : Lens) (now : Nat) : LensReport :=
  { zoom := l.zoom.report now, focus := l.focus.report now, zoomVmax := l.zoomVmax, presetSpeed := l.presetSpeed,
    zoomGap := l.zoomGap, focusGap := l.focusGap, presets := l.presets, mode := l.mode, override := l.override.isSome,
    demand := l.demand, blocked := l.blocked }

/-- LENS_GET's decision (R63). -/
def lensGetOwner (s : State) : Answer := okWith (.lens (s.lens.report s.clock)) s

/-- LENS_GET (R63). -/
def execLensGet (tag : Byte) (s : State) : Host.Outcome State Fault Refusal := request .lensGet tag lensGetOwner s

/-! ## Power states and warm reset -/

/-- What standby entry and the lens-stop step do on one axis (R64). The stall suspect is cleared, but where the entry ends a stall
pause it is kept (R45, last sentence). DEDUCED, log entry 33. -/
def State.haltAxis (ax : Axis) (r : AbandonReason) (s : State) : State :=
  let a := s.axis ax
  let s' := if a.owner = .homing then s.abandonHoming ax r else s.endHold ax .stopped
  s'.setAxis ax { s'.axis ax with
    vcmd := 0, gap := 0, duty := 0, suspect := if a.pause.isSome then a.suspect else none, dutyRun := none }

/-- Standby entry, and the lens-stop step of shutdown: both axes halt, the override window ends and the bridges float (R64). That the
zoom halts before the focus, and so posts its notice first: DESIGN CHOICE, log entry 12. -/
def State.haltLens (r : AbandonReason) (s : State) : State :=
  let s' := (s.haltAxis .zoom r).haltAxis .focus r
  { s' with lens.override := none, lens.floating := true }

/-- At an entry into RUN the bridges leave the float state with duty 0 (R39). -/
def State.driveLens (s : State) : State := { s with lens.floating := false, lens.zoom.duty := 0, lens.focus.duty := 0 }

/-- An axis at a warm reset (R65). The position and its encoder count on, the control timer runs on, and the span stands as it is, in
PARK too. DEDUCED, log entry 33. -/
def AxisRec.warm (a : AxisRec) : AxisRec :=
  { AxisRec.powerOn a.span with position := a.position, controlDue := a.controlDue }

/-- The lens drive at a warm reset (R65). -/
def Lens.warm (l : Lens) : Lens :=
  { Lens.powerOn with
    zoom := l.zoom.warm, focus := l.focus.warm, presets := l.presets, zoomVmax := l.zoomVmax, presetSpeed := l.presetSpeed,
    zoomGap := l.zoomGap, focusGap := l.focusGap, mode := l.mode }

end Sys2Proof.Machine
end

