-- ==== Sys2Proof/Machine/ClipLog.lean ====
section
/-! DEFINITION. The clip log (chapter 07): what the other blocks hand it, and the meanings of its requests. -/

namespace Sys2Proof.Machine

/-! ## Opening, segments and close -/

/-- The segments of a new record: one for each ACTIVE slot, slot A first (R134). -/
def openingSegments (slots : SlotSet) (start : Stamp) : List Segment :=
  (if slots.a then [⟨.a, start, .inProgress⟩] else []) ++ (if slots.b then [⟨.b, start, .inProgress⟩] else [])

/-- The record a clip opens with (R134); the over flags follow the copies (R138). -/
def ClipLog.newRecord (l : ClipLog) (number : Nat) (start : Stamp) (userBits : BitVec 32) (zoom focus : Option Int)
    (slots : SlotSet) : ClipRec :=
  { number := number, state := .opened, start := start, endLabel := none, dayRoll := false, userBits := userBits, zoom := zoom,
    focus := focus, goodShot := false, over1 := l.over1, over2 := l.over2, segments := openingSegments slots start, marks := [] }

/-- The opening of a record: a duplicate number leaves, then the oldest of 64 leaves, then the record joins at the head (R134). -/
def ClipLog.insert (l : ClipLog) (r : ClipRec) : ClipLog :=
  let kept := l.records.filter fun x => x.number ≠ r.number
  { l with records := r :: kept.take 63 }

/-- A new segment at the tail of the OPEN record's list (R135). -/
def ClipLog.addSegment (l : ClipLog) (sl : Slot) (label : Stamp) : ClipLog :=
  l.mapOpen fun r => { r with segments := r.segments ++ [⟨sl, label, .inProgress⟩] }

/-- An outcome for a slot replaces IN_PROGRESS in the OPEN record's segment of that slot (R135). -/
def ClipLog.segmentOutcome (l : ClipLog) (sl : Slot) (o : SegOutcome) : ClipLog :=
  l.mapOpen fun r =>
    { r with segments := r.segments.map fun g => if g.slot = sl ∧ g.outcome = .inProgress then { g with outcome := o } else g }

/-- The close of the OPEN record with its end label (R136). -/
def ClipLog.close (l : ClipLog) (st : ClipState) (label : Option Stamp) : ClipLog :=
  l.mapOpen fun r => { r with state := st, endLabel := label }

/-! ## Over conditions -/

/-- Sets the over flag of a channel in a record (R138). -/
def ClipRec.setOver (r : ClipRec) : Channel → ClipRec
  | .ch1 => { r with over1 := true }
  | .ch2 => { r with over2 := true }

/-- Replaces the copy of a channel's over condition (R138). -/
def ClipLog.setCopy (l : ClipLog) (x : Bool) : Channel → ClipLog
  | .ch1 => { l with over1 := x }
  | .ch2 => { l with over2 := x }

/-- A channel's over condition begins (R138). -/
def ClipLog.overBegins (l : ClipLog) (ch : Channel) : ClipLog := (l.setCopy true ch).mapOpen (·.setOver ch)

/-- A channel's over condition ends (R138). -/
def ClipLog.overEnds (l : ClipLog) (ch : Channel) : ClipLog := l.setCopy false ch

/-! ## Marks and good shots -/

/-- The decision on a mark (R139): the record it joins, or the reason that refuses it. -/
def State.markDecision (s : State) : Except Reason ClipRec :=
  match s.recorder.state, s.log.openRec with
  | .recording, some r => if r.marks.length < 8 then .ok r else .error .marksFull
  | _, _ => .error .notRecording

/-- A mark with the current label joins the OPEN record (R139). -/
def State.appendMark (s : State) : State :=
  { s with log := s.log.mapOpen fun r => { r with marks := r.marks ++ [s.tc.stamp] } }

/-- MARK from the panel (R128, R139). -/
def State.panelMark (s : State) : State :=
  match s.markDecision with
  | .ok r => s.appendMark.post (.clipChanged r.number (.mark (r.marks.length + 1) s.tc.stamp))
  | .error _ => s.beep .reject

/-- CLIP_MARK's decision (R139). -/
def clipMarkOwner (a : NoArgs) (s : State) : Answer :=
  withNone a s (match s.markDecision with
    | .ok r => okWith (.marked r.number (r.marks.length + 1) s.tc.stamp) s.appendMark
    | .error e => refuse e s)

/-- CLIP_MARK (R139). -/
def execClipMark (tag : Byte) (a : NoArgs) (s : State) : Host.Outcome State Fault Refusal :=
  request .clipMark tag (clipMarkOwner a) s

/-- GOOD_SHOT from the panel (R128, R140). -/
def State.goodShot (s : State) : State :=
  match s.recorder.state, s.log.records with
  | .standby, r :: rs =>
    { s with log.records := { r with goodShot := !r.goodShot } :: rs }.post (.clipChanged r.number (.goodShot (!r.goodShot)))
  | _, _ => s.beep .reject

/-! ## Requests -/

/-- The record a selector finds, with its index (R141). -/
def ClipLog.find (l : ClipLog) : ClipSelector → Option (Nat × ClipRec)
  | .byIndex i => if i ≤ 63 then l.records[i]?.map fun r => (i, r) else none
  | .byNumber n =>
    if clipNumberLegal n then
      match l.records.findIdx? fun r => r.number = n with
      | some i => l.records[i]?.map fun r => (i, r)
      | none => none
    else none

/-- CLIP_READ's decision (R141); every reply carries the number of records held. -/
def clipReadOwner (a : Args ClipSelector) (s : State) : Answer :=
  let bad : Answer := { badArgument s with body := alwaysCarried .clipRead s }
  match a with
  | .malformed => bad
  | .given sel => match s.log.find sel with
    | some found => okWith (.clip s.log.records.length (some found)) s
    | none => bad

/-- CLIP_READ (R141). -/
def execClipRead (tag : Byte) (a : Args ClipSelector) (s : State) : Host.Outcome State Fault Refusal :=
  request .clipRead tag (clipReadOwner a) s

/-- CLIP_LOG_CLEAR's decision (R142). -/
def clipLogClearOwner (s : State) : Answer :=
  if s.recorder.state ≠ .standby then refuse .recording s else ok { s with log.records := [] }

/-- CLIP_LOG_CLEAR (R142). -/
def execClipLogClear (tag : Byte) (s : State) : Host.Outcome State Fault Refusal := request .clipLogClear tag clipLogClearOwner s

/-- The clip log at a warm reset, after the close of an OPEN record (R144). -/
def ClipLog.warm (l : ClipLog) : ClipLog := { l with over1 := false, over2 := false }

end Sys2Proof.Machine
end

