-- ==== Sys2Proof/Machine/Recorder.lean ====
section
/-! DEFINITION. The record supervisor (chapter 06): slots, the start, the stop and the close of a clip, the accounting, the tally,
and the meanings of its requests and events. -/

namespace Sys2Proof.Machine

/-! ## Record state and tally -/

/-- The record state changes and is handed to the timecode generator and the supply monitor (R89, R126). -/
def State.setRecState (st : RecState) (s : State) : State :=
  { s with recorder.state := st, tc.recState := st, supply.recState := st }

/-- The tally takes a pattern; a blinking one begins with the lamp on (R127). -/
def Recorder.setTally (r : Recorder) (p : Tally) (now : Nat) : Recorder :=
  match p with
  | .off | .lit => { r with tally := p, lampOn := false, blinkTimer := none }
  | .blink2 | .blink4 => { r with tally := p, lampOn := true, blinkTimer := some (now + blinkHalf p) }

/-- The tally of the part takes a pattern (R127). -/
def State.tally (p : Tally) (s : State) : State := { s with recorder := s.recorder.setTally p s.clock }

/-- TALLY_BLINK_TOGGLE (R127): the lamp of a blinking pattern turns; of a steady pattern it has no effect. -/
def execTallyBlinkToggle (s : State) : Host.Outcome State Fault Refusal :=
  finish (match s.recorder.blinkTimer with
    | some t =>
      { s.atTime t with
        recorder.lampOn := !s.recorder.lampOn, recorder.blinkTimer := some (t + blinkHalf s.recorder.tally) }
    | none => s)

/-! ## Tests at a change of a slot -/

/-- The media-low flag becomes set or clear, with its warning and the tally pattern (R124). -/
def State.setMediaLow (low : Bool) (s : State) : State :=
  if low = s.recorder.mediaLow then s
  else ({ s with recorder.mediaLow := low }.condition .mediaLow low).tally (if low then .blink4 else .lit)

/-- The test of the time left (R124). -/
def State.testTimeLeft (s : State) : State := s.setMediaLow (decide (s.timeLeft ≤ 60 * rateOf s.recorder.bitrate))

/-- The two slot warnings (R110). -/
def State.testWarnings (s : State) : State :=
  (s.condition .cardError s.recorder.cardError).condition .mediaFull s.recorder.mediaFull

/-- The tests at a change of a slot's state or remaining capacity (R101). -/
def State.testSlots (s : State) : State :=
  let s' := s.testWarnings
  if s'.recorder.state = .recording then s'.testTimeLeft else s'

/-- Replaces a slot record. -/
def State.setSlot (sl : Slot) (r : SlotRec) (s : State) : State := { s with recorder := s.recorder.setSlot r sl }

/-- A slot made READY becomes PROTECTED instead while its write protect is ON (R101). -/
def SlotRec.readied (r : SlotRec) : SlotRec := { r with state := if r.protect then .writeProtected else .ready }

/-! ## The end of a start and of a recording -/

/-- A start in STARTING fails (R117). -/
def State.failStart (reason : FailReason) (s : State) : State :=
  let number := s.recorder.clip.getD s.recorder.nextClip
  let s' := { s.setRecState .standby with
    recorder.confirmTimer := none, recorder.startSet := SlotSet.empty, recorder.clip := none }
  (((s'.tally .off).post (.recFailed number reason)).warn .recFailed).beep .reject

/-- A recording stops (R119). -/
def State.stopRecording (reason : EndReason) (s : State) : State :=
  let label := s.tc.stamp
  let number := s.recorder.clip.getD s.recorder.nextClip
  let s' := { s.setRecState .stopping with
    recorder.accountTimer := none, recorder.mediaLow := false, recorder.endLabel := some label
    recorder.closeTimer := some (s.clock + closeTime) }
  (((s'.condition .mediaLow false).tally .off).post (.recEnd number reason label)).beep .double

/-- The start set is formed again from its slots still usable; a RELAY set left empty passes to the other slot (R116). -/
def Recorder.reformed (r : Recorder) : Recorder :=
  let left : SlotSet := ⟨r.startSet.a && r.usable .a, r.startSet.b && r.usable .b⟩
  if left.isEmpty = true ∧ r.mode = .relay ∧ r.usable (otherSlot r.current) = true then
    { r with startSet := SlotSet.only (otherSlot r.current), current := otherSlot r.current }
  else { r with startSet := left }

/-- In STARTING a slot of the start set that stops being usable leaves it; an empty start set fails the start (R116). -/
def State.reformStart (reason : FailReason) (s : State) : State :=
  if s.recorder.state = .starting then
    let s' := { s with recorder := s.recorder.reformed }
    if s'.recorder.startSet.isEmpty then s'.failStart reason else s'
  else s

/-- A slot that was ACTIVE is lost: its segment ends, and a recording with no ACTIVE slot left stops (R125). -/
def State.loseActive (sl : Slot) (o : SegOutcome) (reason : EndReason) (s : State) : State :=
  let s' := { s with log := s.log.segmentOutcome sl o }
  if s'.recorder.state = .recording ∧ s'.recorder.activeSet.isEmpty = true then s'.stopRecording reason else s'

/-! ## Card lines -/

/-- The accepted level of a card line (R102). -/
def SlotRec.accepted (r : SlotRec) : CardLine → Bool
  | .detect => r.present
  | .writeProtect => r.protect

/-- The time the debounce of a card line ends (R102). -/
def SlotRec.lineTimer (r : SlotRec) : CardLine → Option Nat
  | .detect => r.detectTimer
  | .writeProtect => r.protectTimer

/-- Replaces the debounce timer of a card line. -/
def SlotRec.setLineTimer (r : SlotRec) (t : Option Nat) : CardLine → SlotRec
  | .detect => { r with detectTimer := t }
  | .writeProtect => { r with protectTimer := t }

/-- The level of a card line. -/
def Pins.card (p : Pins) (sl : Slot) : CardLine → Bool
  | .detect => p.detect sl
  | .writeProtect => p.protect sl

/-- CARD_LINE_EDGE (R102): a new level restarts the 50 ms; back at the accepted level there is nothing to accept. -/
def execCardLineEdge (sl : Slot) (line : CardLine) (level : Bool) (s : State) : Host.Outcome State Fault Refusal :=
  finish (if s.pins.card sl line = level then s
    else
      let r := s.recorder.slot sl
      let timer := if r.accepted line = level then none else some (s.clock + cardDebounce)
      { s with pins := s.pins.setCard level sl line }.setSlot sl (r.setLineTimer timer line))

/-- An accepted insertion (R103). -/
def State.insertCard (sl : Slot) (s : State) : State :=
  let r := { s.recorder.slot sl with present := true }
  if r.state = .empty then
    ((s.setSlot sl { r with state := .mounting, remaining := 0, lapsed := false, mountTimer := some (s.clock + mountTime) }).post
      (.cardInserted sl r.protect)).testSlots
  else s.setSlot sl r

/-- An accepted removal (R106, R125). -/
def State.removeCard (sl : Slot) (s : State) : State :=
  let r := { s.recorder.slot sl with present := false }
  if r.state = .empty then s.setSlot sl r
  else
    let s' := (s.setSlot sl { r with state := .empty, remaining := 0, mountTimer := none, lapsed := true }).post
      (.cardRemoved sl)
    (if r.state = .active then s'.loseActive sl .removed .cardRemoved else s'.reformStart .cardRemoved).testSlots

/-- An accepted change of write protect (R107). -/
def State.protectCard (sl : Slot) (on : Bool) (s : State) : State :=
  let r := { s.recorder.slot sl with protect := on }
  if (s.recorder.slot sl).state = .ready ∧ on = true then
    ((s.setSlot sl { r with state := .writeProtected }).reformStart .noMedia).testSlots
  else if (s.recorder.slot sl).state = .writeProtected ∧ on = false then (s.setSlot sl { r with state := .ready }).testSlots
  else s.setSlot sl r

/-- A card line's change of level is accepted (R102). -/
def State.acceptLine (sl : Slot) (line : CardLine) (s : State) : State :=
  match line, s.pins.card sl line with
  | .detect, true => s.insertCard sl
  | .detect, false => s.removeCard sl
  | .writeProtect, on => s.protectCard sl on

/-- CARD_LINE_ACCEPTED (R102); of a line with no change to accept it has no effect. -/
def execCardLineAccepted (sl : Slot) (line : CardLine) (s : State) : Host.Outcome State Fault Refusal :=
  finish (match (s.recorder.slot sl).lineTimer line with
    | some t => ((s.atTime t).setSlot sl ((s.recorder.slot sl).setLineTimer none line)).acceptLine sl line
    | none => s)

/-- MOUNT_TIMEOUT (R105); of a timer that is stopped it has no effect. -/
def execMountTimeout (sl : Slot) (s : State) : Host.Outcome State Fault Refusal :=
  finish (match (s.recorder.slot sl).mountTimer with
    | some t =>
      ((s.atTime t).setSlot sl
        { s.recorder.slot sl with state := .error .mountTimeout, lapsed := true, mountTimer := none }).testSlots
    | none => s)

/-! ## Reports of the host on cards -/

/-- CARD_REPORT's effect on a mounting slot (R104). -/
def SlotRec.reported (r : SlotRec) (v : Verdict) (kB : Nat) : SlotRec :=
  match v with
  | .ok => { r with mountTimer := none, remaining := kB }.readied
  | .bad => { r with mountTimer := none, remaining := 0, state := .error .bad }

/-- CARD_REPORT's decision (R104). -/
def cardReportOwner (a : Args CardReportArgs) (s : State) : Answer :=
  withArgs a s fun a =>
    let r := s.recorder.slot a.slot
    if capacityLegal a.remaining = false then badArgument s
    else if r.state = .mounting then ok (s.setSlot a.slot (r.reported a.verdict a.remaining)).testSlots
    else if r.lapsed then tooLate s
    else refuse .noCard s

/-- CARD_REPORT (R104). -/
def execCardReport (tag : Byte) (a : Args CardReportArgs) (s : State) : Host.Outcome State Fault Refusal :=
  request .cardReport tag (cardReportOwner a) s

/-- MEDIA_UPDATE's decision (R108, R116). -/
def mediaUpdateOwner (a : Args MediaUpdateArgs) (s : State) : Answer :=
  withArgs a s fun a =>
    let r := s.recorder.slot a.slot
    let r' := { r with remaining := a.remaining }
    if capacityLegal a.remaining = false then badArgument s
    else match r.state with
      | .ready => ok ((s.setSlot a.slot r').reformStart .noMedia).testSlots
      | .active => ok (s.setSlot a.slot r').testSlots
      | .full => ok (s.setSlot a.slot (if 0 < a.remaining then r'.readied else r')).testSlots
      | .empty => refuse .noCard s
      | .mounting => refuse .inProgress s
      | .writeProtected => refuse .locked s
      | .error _ => refuse .fault s

/-- MEDIA_UPDATE (R108). -/
def execMediaUpdate (tag : Byte) (a : Args MediaUpdateArgs) (s : State) : Host.Outcome State Fault Refusal :=
  request .mediaUpdate tag (mediaUpdateOwner a) s

/-- MEDIA_FAULT's decision (R109, R116, R125). -/
def mediaFaultOwner (a : Args Slot) (s : State) : Answer :=
  withArgs a s fun sl =>
    let r := s.recorder.slot sl
    let s' := s.setSlot sl { r with state := .error .mediaFault }
    match r.state with
    | .ready => ok (s'.reformStart .noMedia).testSlots
    | .active => ok (s'.loseActive sl .writeError .mediaFault).testSlots
    | .empty => refuse .noCard s
    | .mounting => refuse .inProgress s
    | .error _ => refuse .fault s
    | .full | .writeProtected => refuse .none s

/-- MEDIA_FAULT (R109). -/
def execMediaFault (tag : Byte) (a : Args Slot) (s : State) : Host.Outcome State Fault Refusal :=
  request .mediaFault tag (mediaFaultOwner a) s

/-! ## Settings -/

/-- REC_CONFIG's decision (R111). -/
def recConfigOwner (a : Args RecConfigArgs) (s : State) : Answer :=
  withArgs a s fun a =>
    if s.recorder.state ≠ .standby then refuse .recording s
    else ok { s with
      recorder.mode := a.mode, recorder.current := a.current, recorder.bitrate := a.bitrate }.testWarnings

/-- REC_CONFIG (R111). -/
def execRecConfig (tag : Byte) (a : Args RecConfigArgs) (s : State) : Host.Outcome State Fault Refusal :=
  request .recConfig tag (recConfigOwner a) s

/-- CLIP_NUMBER_SET's decision (R112). -/
def clipNumberSetOwner (a : Args Nat) (s : State) : Answer :=
  withArgs a s fun n =>
    if clipNumberLegal n = false then badArgument s
    else if s.recorder.state ≠ .standby then refuse .recording s
    else ok { s with recorder.nextClip := n }

/-- CLIP_NUMBER_SET (R112). -/
def execClipNumberSet (tag : Byte) (a : Args Nat) (s : State) : Host.Outcome State Fault Refusal :=
  request .clipNumberSet tag (clipNumberSetOwner a) s

/-- TALLY_SET's decision (R127). -/
def tallySetOwner (a : Args Bool) (s : State) : Answer := withArgs a s fun on => ok { s with recorder.frontEnable := on }

/-- TALLY_SET (R127). -/
def execTallySet (tag : Byte) (a : Args Bool) (s : State) : Host.Outcome State Fault Refusal :=
  request .tallySet tag (tallySetOwner a) s

/-! ## Starting a clip -/

/-- The checks of a start, in order (R113). -/
def Recorder.startRefusal (r : Recorder) : Option Reason :=
  match r.state with
  | .starting => some .inProgress
  | .recording | .stopping => some .recording
  | .standby =>
    if r.power = .standby then some .standby
    else if r.power ≠ .run then some .none
    else if r.supplyState = .low ∨ r.supplyState = .cutoff then some .supply
    else if r.formStartSet.isEmpty then some .noMedia
    else none

/-- In RELAY a start set made of the other slot makes that slot the current one (R113). -/
def Recorder.startCurrent (r : Recorder) : Slot :=
  if r.mode = .relay ∧ r.usable r.current = false then otherSlot r.current else r.current

/-- The acceptance of a start (R114). -/
def State.acceptStart (s : State) : State :=
  let set := s.recorder.formStartSet
  let number := s.recorder.nextClip
  let s' := { s.setRecState .starting with
    recorder.startSet := set, recorder.clip := some number, recorder.current := s.recorder.startCurrent
    recorder.confirmTimer := some (s.clock + confirmTime) }
  (s'.post (.recBegin number set)).tally .blink2

/-- REC_START's decision (R113, R114). -/
def recStartOwner (s : State) : Answer :=
  match s.recorder.startRefusal with
  | some r => refuse r s
  | none => okWith (.started s.recorder.nextClip s.recorder.formStartSet) s.acceptStart

/-- REC_START (R113). -/
def execRecStart (tag : Byte) (s : State) : Host.Outcome State Fault Refusal := request .recStart tag recStartOwner s

/-- The clip number after one (R112). -/
def nextNumber (n : Nat) : Nat := if n = 9999 then 1 else n + 1

/-- The position a lens snapshot takes: absent when the axis is not HOMED (R115). -/
def AxisRec.snapshot (a : AxisRec) : Option Int := if a.homing = .homed then some a.position else none

/-- Each slot of a set becomes ACTIVE (R115). -/
def Recorder.activate (r : Recorder) (set : SlotSet) : Recorder :=
  { r with
    slotA := if set.a then { r.slotA with state := .active } else r.slotA
    slotB := if set.b then { r.slotB with state := .active } else r.slotB }

/-- The clip begins (R115). -/
def State.beginClip (number : Nat) (s : State) : State :=
  let set := s.recorder.startSet
  let record := s.log.newRecord number s.tc.stamp s.tc.userBits s.lens.zoom.snapshot s.lens.focus.snapshot set
  let s' := s.setRecState .recording
  let s'' := { s' with
    recorder := { s'.recorder.activate set with
      confirmTimer := none, startSet := SlotSet.empty, nextClip := nextNumber number
      accountTimer := some (s.clock + accountTime) }
    log := s.log.insert record }
  ((s''.tally .lit).beep .short).testSlots

/-- REC_CONFIRM's decision (R115). -/
def recConfirmOwner (a : Args Nat) (s : State) : Answer :=
  withArgs a s fun n =>
    if clipNumberLegal n = false then badArgument s
    else match s.recorder.state with
      | .starting =>
        if s.recorder.clip = some n then okWith (.confirmed s.tc.stamp s.recorder.startSet) (s.beginClip n) else badArgument s
      | .standby => tooLate s
      | .recording | .stopping => if s.recorder.clip = some n then tooLate s else badArgument s

/-- REC_CONFIRM (R115). -/
def execRecConfirm (tag : Byte) (a : Args Nat) (s : State) : Host.Outcome State Fault Refusal :=
  request .recConfirm tag (recConfirmOwner a) s

/-- CONFIRMATION_TIMEOUT (R117); of a timer that is stopped it has no effect. -/
def execConfirmationTimeout (s : State) : Host.Outcome State Fault Refusal :=
  finish (match s.recorder.confirmTimer with
    | some t => (s.atTime t).failStart .confirmTimeout
    | none => s)

/-- REC_TOGGLE from the panel (R118). -/
def State.recToggle (s : State) : State :=
  if s.recorder.inhibit.isSome then s
  else match s.recorder.state with
    | .standby => match s.recorder.startRefusal with
      | some _ => (s.beep .reject).warn .recFailed
      | none => { s.acceptStart with recorder.inhibit := some (s.clock + inhibitTime) }
    | .starting | .stopping => s.beep .reject
    | .recording => { s.stopRecording .operator with recorder.inhibit := some (s.clock + inhibitTime) }

/-- TOGGLE_INHIBIT_EXPIRY (R118); of a timer that is stopped it has no effect. -/
def execToggleInhibitExpiry (s : State) : Host.Outcome State Fault Refusal :=
  finish (match s.recorder.inhibit with
    | some t => { s.atTime t with recorder.inhibit := none }
    | none => s)

/-! ## Stopping and closing a clip -/

/-- REC_STOP's decision (R119, R117). -/
def recStopOwner (s : State) : Answer :=
  match s.recorder.state with
  | .recording => okWith (.stopped s.tc.stamp) (s.stopRecording .operator)
  | .starting => ok (s.failStart .cancelled)
  | .standby => refuse .notRecording s
  | .stopping => refuse .inProgress s

/-- REC_STOP (R119). -/
def execRecStop (tag : Byte) (s : State) : Host.Outcome State Fault Refusal := request .recStop tag recStopOwner s

/-- The slot state an ACTIVE slot takes at a close: READY or PROTECTED with room left, FULL without (R120, R121). -/
def SlotRec.closed (r : SlotRec) : SlotRec := if 0 < r.remaining then r.readied else { r with state := .full }

/-- The close of an ACTIVE slot by the outcome the host reports for it; another slot's outcome is not used (R120). -/
def State.closeSlot (sl : Slot) (o : CloseOutcome) (s : State) : State :=
  let r := s.recorder.slot sl
  if r.state = .active then
    match o with
    | .writeError =>
      { s with log := s.log.segmentOutcome sl .writeError }.setSlot sl { r with state := .error .writeError }
    | .ok | .notWritten => { s with log := s.log.segmentOutcome sl .ok }.setSlot sl r.closed
  else s

/-- An ACTIVE slot at the end of the close window, its segment left as it stands (R121). -/
def State.abandonSlot (sl : Slot) (s : State) : State :=
  let r := s.recorder.slot sl
  if r.state = .active then s.setSlot sl r.closed else s

/-- The end of a close: the record closes with the stored end label, and the record state becomes STANDBY (R120, R121). -/
def State.endClip (st : ClipState) (s : State) : State :=
  { { s with log := s.log.close st s.recorder.endLabel }.setRecState .standby with
    recorder.closeTimer := none, recorder.clip := none, recorder.endLabel := none }.testSlots

/-- CLIP_CLOSED's decision (R120, R143). -/
def clipClosedOwner (a : Args ClipClosedArgs) (s : State) : Answer :=
  withArgs a s fun a =>
    if clipNumberLegal a.number = false then badArgument s
    else if s.recorder.state = .stopping ∧ s.recorder.clip = some a.number then
      ok (((s.closeSlot .a a.outcomeA).closeSlot .b a.outcomeB).endClip .closed)
    else match s.log.records with
      | r :: _ => if r.number = a.number ∧ r.state ≠ .opened then tooLate s else badArgument s
      | [] => badArgument s

/-- CLIP_CLOSED (R120). -/
def execClipClosed (tag : Byte) (a : Args ClipClosedArgs) (s : State) : Host.Outcome State Fault Refusal :=
  request .clipClosed tag (clipClosedOwner a) s

/-- CLOSE_TIMEOUT (R121); of a timer that is stopped it has no effect. -/
def execCloseTimeout (s : State) : Host.Outcome State Fault Refusal :=
  finish (match s.recorder.closeTimer with
    | some t => (((s.atTime t).abandonSlot .a).abandonSlot .b).endClip .unconfirmed
    | none => s)

/-! ## Accounting -/

/-- A second of recording is charged to an ACTIVE slot, saturating at 0 (R122, 1). -/
def SlotRec.charge (r : SlotRec) (rate : Nat) : SlotRec :=
  if r.state = .active then { r with remaining := r.remaining - rate } else r

/-- The charge step (R122, 1). -/
def Recorder.charge (r : Recorder) : Recorder :=
  { r with slotA := r.slotA.charge (rateOf r.bitrate), slotB := r.slotB.charge (rateOf r.bitrate) }

/-- A relay from a slot to the other (R123). -/
def State.relay (source : Slot) (s : State) : State :=
  let target := otherSlot source
  let r := s.recorder
  let label := s.tc.stamp
  { s with
    recorder := { (r.setSlot { r.slot source with state := .full } source).setSlot { r.slot target with state := .active } target with
      current := target }
    log := (s.log.segmentOutcome source .full).addSegment target label }.post
      (.relay (r.clip.getD r.nextClip) source target label)

/-- Whether a relay from a slot is made (R123). -/
def State.relays (s : State) (source : Slot) : Bool :=
  s.recorder.mode = .relay ∧ s.recorder.isActive source = true ∧ (s.recorder.slot source).remaining ≤ s.recorder.reserve ∧
    s.relayTarget (otherSlot source) = true

/-- The relay step (R122, 2). -/
def State.relayStep (s : State) : State :=
  if s.relays .a then s.relay .a else if s.relays .b then s.relay .b else s

/-- The fullness of one slot (R122, 3). -/
def State.fillSlot (sl : Slot) (s : State) : State :=
  let r := s.recorder.slot sl
  if r.state = .active ∧ r.remaining = 0 then
    { s with log := s.log.segmentOutcome sl .full }.setSlot sl { r with state := .full }
  else s

/-- The fullness step: a recording with no ACTIVE slot left stops (R122, 3). -/
def State.fullStep (s : State) : State :=
  let s' := (s.fillSlot .a).fillSlot .b
  if s'.recorder.activeSet.isEmpty then s'.stopRecording .mediaFull else s'

/-- An accounting event (R122). -/
def State.account (s : State) : State := { s with recorder := s.recorder.charge }.relayStep.fullStep.testSlots

/-- ACCOUNTING_EVENT (R122); of a timer that is stopped it has no effect. -/
def execAccountingEvent (s : State) : Host.Outcome State Fault Refusal :=
  finish (match s.recorder.accountTimer with
    | some t => { s.atTime t with recorder.accountTimer := some (t + accountTime) }.account
    | none => s)

/-! ## Supply and power -/

/-- The supply monitor hands a change of the supply state (R126). -/
def State.recSupply (st : SupplyState) (s : State) : State :=
  let s' := { s with recorder.supplyState := st }
  match st, s.recorder.state with
  | .low, .starting | .cutoff, .starting => s'.failStart .supply
  | .low, .recording | .cutoff, .recording => s'.stopRecording .supply
  | _, _ => s'

/-- The supply monitor hands a change of the power state (R126). -/
def State.recPower (p : PowerState) (s : State) : State :=
  let s' := { s with recorder.power := p }
  match p, s.recorder.state with
  | .shutdown, .starting => s'.failStart .shutdown
  | .shutdown, .recording => s'.stopRecording .shutdown
  | _, _ => s'

/-! ## Observation and reset -/

/-- What REC_GET reports of a slot (R129). -/
def SlotRec.report (r : SlotRec) (now : Nat) : SlotReport :=
  { state := r.state, remaining := r.remaining, present := r.present, protect := r.protect, lapsed := r.lapsed,
    mountLeft := r.mountTimer.map (msLeft now) }

/-- What REC_GET reports (R129). -/
def State.recReport (s : State) : RecReport :=
  let r := s.recorder
  { state := r.state, startSet := if r.state = .starting then some r.startSet else none
    clip := if r.state = .standby then none else r.clip, endLabel := if r.state = .stopping then r.endLabel else none
    mode := r.mode, current := r.current, bitrate := r.bitrate, nextClip := r.nextClip
    confirmLeft := r.confirmTimer.map (msLeft s.clock), closeLeft := r.closeTimer.map (msLeft s.clock)
    inhibit := r.inhibit.isSome, mediaLow := r.mediaLow, timeLeft := s.timeLeft, tally := r.tally
    frontEnable := r.frontEnable, slotA := r.slotA.report s.clock, slotB := r.slotB.report s.clock }

/-- REC_GET's decision (R129). -/
def recGetOwner (s : State) : Answer := okWith (.recorder s.recReport) s

/-- REC_GET (R129). -/
def execRecGet (tag : Byte) (s : State) : Host.Outcome State Fault Refusal := request .recGet tag recGetOwner s

/-- The end label of a clip that a warm reset finds OPEN (R130, note a). -/
def State.resetEndLabel (s : State) : Stamp :=
  match s.recorder.state with
  | .stopping => s.recorder.endLabel.getD s.tc.stamp
  | .standby | .starting | .recording => s.tc.stamp

/-- The clip log's part in a warm reset: an OPEN record becomes UNCONFIRMED (R130, R144). -/
def State.resetLog (s : State) : ClipLog := (s.log.close .unconfirmed (some s.resetEndLabel)).warm

/-- The record supervisor at a warm reset (R130). -/
def Recorder.warm (r : Recorder) (p : Pins) (now : Nat) : Recorder :=
  { Recorder.powerOn p with
    slotA := .afterReset now p.detectA p.protectA, slotB := .afterReset now p.detectB p.protectB
    mode := r.mode, current := r.current, bitrate := r.bitrate, nextClip := r.nextClip, frontEnable := r.frontEnable }

end Sys2Proof.Machine
end

