-- ==== Sys2Proof/Machine/Audio.lean ====
section
/-! DEFINITION. The audio level unit (chapter 08): levels, gains, the link and settling, and the meanings of its requests and
events. The level event itself requests a group and stands in Converter.lean. -/

namespace Sys2Proof.Machine

/-! ## Gains -/

/-- The applied gain is computed again and written to the gain port (R146). -/
def ChannelRec.apply (c : ChannelRec) : ChannelRec := { c with applied := appliedGain c }

/-- A change of the gain source: into AUTO the reduction and every count of AGC and limiter become 0 (R151, R152). -/
def ChannelRec.setSource (c : ChannelRec) (g : GainSource) : ChannelRec :=
  if g = c.source then c
  else match g with
    | .auto => { c with source := .auto, reduction := 0, attack := 0, quiet := 0, rise := 0, release := 0, fall := 0 }.apply
    | .panel => { c with source := .panel }.apply
    | .host => { c with source := .host }.apply

/-- A change of the limiter: to OFF the reduction and the limiter's counts become 0 (R152). -/
def ChannelRec.setLimiter (c : ChannelRec) (on : Bool) : ChannelRec :=
  if on = c.limiter then c
  else if on then { c with limiter := true }
  else { c with limiter := false, reduction := 0, release := 0, fall := 0 }.apply

/-- A change of input: into or out of MIC48 it starts the settling period, otherwise it restarts one that runs (R156). -/
def ChannelRec.setInput (c : ChannelRec) (i : AudioInput) (now : Nat) : ChannelRec :=
  if i = c.input then c
  else if i = .mic48 ∨ c.input = .mic48 ∨ c.settling.isSome = true then
    { c with input := i, settling := some (now + settlingTime) }.apply
  else { c with input := i }

/-- A set gain (R153, R158). -/
def ChannelRec.setGainTo (c : ChannelRec) (g : Nat) : ChannelRec := { c with setGain := g }.apply

/-- While the link is ON, CH2 takes CH1's gain source, set gain and reduction (R155). -/
def Audio.follow (t : Audio) : Audio :=
  if t.link then
    { t with ch2 := { t.ch2 with source := t.ch1.source, setGain := t.ch1.setGain, reduction := t.ch1.reduction }.apply }
  else t

/-- Replaces a channel; a change of CH1 is copied to CH2 while the link is ON (R155). -/
def State.setChannel (ch : Channel) (c : ChannelRec) (s : State) : State :=
  { s with audio := (s.audio.setChannel c ch).follow }

/-! ## The level event -/

/-- The level of a value in tenths of a dB (R148). -/
def levelOf (value : Nat) : Int := (value * 600 / 4095 : Nat) - 600

/-- The meter at a level (R149). DEDUCED where an example differs, log entry 28. -/
def ChannelRec.meter (c : ChannelRec) (l : Int) : ChannelRec :=
  if c.peak ≤ l then { c with peak := l, hold := 1000 }
  else if 0 < c.hold then { c with hold := c.hold - 1 }
  else { c with peak := max l (c.peak - 2) }

/-- The AGC's step from the peak (R151). -/
def ChannelRec.agc (c : ChannelRec) : ChannelRec :=
  if -120 < c.peak then
    if c.attack + 1 < 2 then { c with quiet := 0, rise := 0, attack := c.attack + 1 }
    else { c with quiet := 0, rise := 0, attack := 0 }.setGainTo (c.setGain - 1)
  else if -260 ≤ c.peak then { c with attack := 0, quiet := 0, rise := 0 }
  else if c.quiet < 2000 then { c with attack := 0, quiet := c.quiet + 1 }
  else if c.rise + 1 < 100 then { c with attack := 0, rise := c.rise + 1 }
  else { c with attack := 0, rise := 0 }.setGainTo (if c.setGain < c.agcMax then c.setGain + 1 else c.setGain)

/-- The limiter's step from the level (R152). -/
def ChannelRec.limit (c : ChannelRec) (l : Int) : ChannelRec :=
  if -40 < l then { c with release := 0, fall := 0, reduction := min 12 (c.reduction + 1) }.apply
  else if -80 ≤ l then { c with release := 0, fall := 0 }
  else if c.release < 300 then { c with release := c.release + 1 }
  else if c.fall + 1 < 50 then { c with fall := c.fall + 1 }
  else { c with fall := 0, reduction := c.reduction - 1 }.apply

/-- The AGC or the limiter of a channel that is neither frozen nor settling, by its gain source (R151, R152). -/
def ChannelRec.control (c : ChannelRec) (l : Int) : ChannelRec :=
  if c.settling.isSome then c
  else match c.source with
    | .auto => c.agc
    | .panel | .host => if c.limiter then c.limit l else c

/-- The end of an over condition is handed to the clip log (R150). -/
def State.endOver (ch : Channel) (s : State) : State :=
  if (s.audio.channel ch).isOver then
    { s with audio := s.audio.setChannel { s.audio.channel ch with isOver := false } ch, log := s.log.overEnds ch }
  else s

/-- The over test at a level (R150). -/
def State.testOver (ch : Channel) (l : Int) (s : State) : State :=
  let c := s.audio.channel ch
  if l < -10 then s.endOver ch
  else
    { s with
      audio := s.audio.setChannel { c with isOver := true, overFlag := true } ch
      log := if c.isOver then s.log else s.log.overBegins ch }.warn .audioOver

/-- A channel frozen by an INVALID record (R148). -/
def State.freeze (ch : Channel) (s : State) : State :=
  let c := s.audio.channel ch
  { s with audio := s.audio.setChannel { c with level := -600, peak := -600, hold := 0 } ch }.endOver ch

/-- A channel's work at a level event (R147, R148); `linked` says that the channel follows the other (R155). -/
def State.workChannel (ch : Channel) (linked : Bool) (r : ResultRec) (s : State) : State :=
  if r.status = .invalid then s.freeze ch
  else
    let l := levelOf r.value
    let s' := { s with audio := s.audio.setChannel ({ s.audio.channel ch with level := l }.meter l) ch }.testOver ch l
    if linked then s' else { s' with audio := s'.audio.setChannel ((s'.audio.channel ch).control l) ch }

/-- A taken LEVEL pair: CH1, then CH2, then the link's copy (R147). -/
def State.takeLevels (pair : ResultRec × ResultRec) (s : State) : State :=
  let s' := (({ s with audio.mailbox := none }.workChannel .ch1 false pair.1).workChannel .ch2 s.audio.link pair.2)
  { s' with audio := s'.audio.follow }

/-- A level event in INIT, RUN or SHUTDOWN up to its request (R147). -/
def State.level (s : State) : State :=
  match s.audio.mailbox with
  | some pair => s.takeLevels pair
  | none => { s with audio.missed := countUp 255 s.audio.missed }

/-! ## Panel actions -/

/-- A detent of an audio knob (R153): one at a gain limit leaves the set gain, and takes a channel in AUTO or HOST to PANEL as any
other does. DEDUCED, log entry 28. -/
def State.knobDetent (ch : Channel) (up : Bool) (s : State) : State :=
  if (ch = .ch2 ∧ s.audio.link = true) ∨ s.audio.power ≠ .run then s.beep .reject
  else
    let c := s.audio.channel ch
    let g := if up then min 63 (c.setGain + 1) else c.setGain - 1
    let s' := s.setChannel ch ((c.setSource .panel).setGainTo g)
    if c.source = .panel then s' else s'.post (.audioSource ch .panel g)

/-- An AUDIO_AUTO action from the panel (R154). -/
def State.audioAuto (ch : Channel) (s : State) : State :=
  if ch = .ch2 ∧ s.audio.link = true then s.beep .reject
  else
    let c := s.audio.channel ch
    let g : GainSource := match c.source with
      | .auto => .panel
      | .panel | .host => .auto
    (s.setChannel ch (c.setSource g)).post (.audioSource ch g c.setGain)

/-! ## Settling -/

/-- SETTLING_EXPIRY (R156); of a channel that does not settle it has no effect. -/
def execSettlingExpiry (ch : Channel) (s : State) : Host.Outcome State Fault Refusal :=
  let c := s.audio.channel ch
  finish (match c.settling with
    | some t =>
      { s.atTime t with audio := s.audio.setChannel { c with settling := none }.apply ch }.post (.audioSettled ch c.input)
    | none => s)

/-! ## Requests -/

/-- AUDIO_CONFIG's part for one channel, the gain source and the limiter's effect where they apply (R157). -/
def ChannelRec.configure (c : ChannelRec) (a : ChannelConfig) (now : Nat) : ChannelRec :=
  { ((c.setInput a.input now).setSource a.source).setLimiter a.limiter with agcMax := a.agcMax }

/-- AUDIO_CONFIG's part for CH2 while the link is ON before and after: input, limiter and AGC maximum alone (R155, R157). DEDUCED, log entry 28. -/
def ChannelRec.configureLinked (c : ChannelRec) (a : ChannelConfig) (now : Nat) : ChannelRec :=
  { c.setInput a.input now with limiter := a.limiter, agcMax := a.agcMax }

/-- CH2's part of AUDIO_CONFIG: the gain source given is not used while the link is ON after the request (R157). -/
def ChannelRec.configure2 (c : ChannelRec) (a : AudioConfigArgs) (linked : Bool) (now : Nat) : ChannelRec :=
  if a.link then
    (if linked then c.configureLinked a.ch2 now else c.configure { a.ch2 with source := c.source } now)
  else c.configure a.ch2 now

/-- The counts of CH2 start from 0 at a change of the link to OFF (R155). -/
def ChannelRec.unlinked (c : ChannelRec) : ChannelRec :=
  { c with attack := 0, quiet := 0, rise := 0, release := 0, fall := 0 }

/-- The link is set last; CH2 follows CH1 while it is ON (R155, R157). At a change to OFF CH2 keeps the reduction last copied, also
where its own limiter is OFF already. DEDUCED, log entry 28. -/
def Audio.setLink (t : Audio) (on : Bool) : Audio :=
  if on then { t with link := true }.follow
  else if t.link then { t with link := false, ch2 := t.ch2.unlinked } else t

/-- AUDIO_CONFIG's effect (R157). -/
def Audio.configure (t : Audio) (a : AudioConfigArgs) (now : Nat) : Audio :=
  let t' := { t with ch1 := t.ch1.configure a.ch1 now }.follow
  { t' with ch2 := t'.ch2.configure2 a t.link now }.setLink a.link

/-- AUDIO_CONFIG's decision (R157). -/
def audioConfigOwner (a : Args AudioConfigArgs) (s : State) : Answer :=
  withArgs a s fun a =>
    if audioLegal a = false then badArgument s
    else if s.audio.power = .standby then refuse .standby s
    else ok { s with audio := s.audio.configure a s.clock }

/-- AUDIO_CONFIG (R157). -/
def execAudioConfig (tag : Byte) (a : Args AudioConfigArgs) (s : State) : Host.Outcome State Fault Refusal :=
  request .audioConfig tag (audioConfigOwner a) s

/-- AUDIO_GAIN_SET's decision (R158). -/
def audioGainSetOwner (a : Args GainArgs) (s : State) : Answer :=
  withArgs a s fun a =>
    match channelOf a.channel with
    | none => badArgument s
    | some ch =>
      let c := s.audio.channel ch
      if 255 < a.gain then badArgument s
      else if s.audio.power = .standby then refuse .standby s
      else if ch = .ch2 ∧ s.audio.link = true then refuse .locked s
      else if c.source ≠ .host then refuse .operator s
      else okClamped (63 < a.gain) (s.setChannel ch (c.setGainTo (min 63 a.gain)))

/-- AUDIO_GAIN_SET (R158). -/
def execAudioGainSet (tag : Byte) (a : Args GainArgs) (s : State) : Host.Outcome State Fault Refusal :=
  request .audioGainSet tag (audioGainSetOwner a) s

/-- What AUDIO_GET reports of a channel (R159). -/
def ChannelRec.report (c : ChannelRec) (now : Nat) : ChannelReport :=
  { config := ⟨c.input, c.source, c.limiter, c.agcMax⟩, setGain := c.setGain, reduction := c.reduction, applied := c.applied,
    settlingLeft := c.settling.map (msLeft now), level := c.level, peak := c.peak, segments := segmentCount c.peak,
    isOver := c.isOver, overFlag := c.overFlag }

/-- What AUDIO_GET reports (R159). -/
def Audio.report (t : Audio) (now : Nat) : AudioReport :=
  { link := t.link, ch1 := t.ch1.report now, ch2 := t.ch2.report now, missed := t.missed, replacements := t.replacements }

/-- The over flag is cleared at a report made while the condition does not hold (R150, R159). -/
def ChannelRec.reported (c : ChannelRec) : ChannelRec := { c with overFlag := c.overFlag && c.isOver }

/-- AUDIO_GET's decision (R159). -/
def audioGetOwner (s : State) : Answer :=
  okWith (.audio (s.audio.report s.clock))
    { s with audio := { s.audio with ch1 := s.audio.ch1.reported, ch2 := s.audio.ch2.reported, missed := 0, replacements := 0 } }

/-- AUDIO_GET (R159). -/
def execAudioGet (tag : Byte) (s : State) : Host.Outcome State Fault Refusal := request .audioGet tag audioGetOwner s

/-! ## Power states and warm reset -/

/-- A channel at entry to STANDBY, its over condition apart (R160). -/
def ChannelRec.rest (c : ChannelRec) : ChannelRec :=
  { c with level := -600, peak := -600, hold := 0, attack := 0, quiet := 0, rise := 0, release := 0, fall := 0 }

/-- The supply monitor hands a change of the power state (R160). A LEVEL pair not yet taken at entry to STANDBY stays. DEDUCED, log
entry 28. -/
def State.audioPower (p : PowerState) (s : State) : State :=
  let s' := { s with audio.power := p }
  if p = .standby then
    let s'' := (s'.endOver .ch1).endOver .ch2
    { s'' with audio.ch1 := s''.audio.ch1.rest, audio.ch2 := s''.audio.ch2.rest }
  else s'

/-- A channel at a warm reset (R161). -/
def ChannelRec.warm (c : ChannelRec) (now : Nat) : ChannelRec :=
  { ChannelRec.powerOn with
    input := c.input, source := c.source, limiter := c.limiter, agcMax := c.agcMax, setGain := c.setGain
    settling := if c.input = AudioInput.mic48 then some (now + settlingTime) else none }.apply

/-- The audio level unit at a warm reset (R161). The level timer runs on, and a pair delivered and not yet taken is discarded. DESIGN
CHOICE, log entry 7. -/
def Audio.warm (t : Audio) (now : Nat) : Audio :=
  { Audio.powerOn with ch1 := t.ch1.warm now, ch2 := t.ch2.warm now, link := t.link, levelDue := t.levelDue }

end Sys2Proof.Machine
end

