-- ==== Sys2Proof/Machine/Scanner.lean ====
section
/-! DEFINITION. The control scanner's own state (chapter 01): the token queue, the modifiers and held records, the rocker, and what
a change of the power state does in it. The scan and the actions stand in Controls.lean. -/

namespace Sys2Proof.Machine

/-! ## Token queue -/

/-- A token joins the queue, with TOKENS_READY where the queue was empty; a token that finds 16 is discarded (R18). -/
def State.token (t : BitVec 16) (s : State) : State :=
  if s.controls.tokens.length < 16 then
    let s' := { s with controls.tokens := s.controls.tokens ++ [t] }
    if s.controls.tokens.isEmpty then s'.post .tokensReady else s'
  else (s.warn .tokensFull).beep .reject

/-- A token where `made` says that one is made. -/
def State.tokenIf (made : Bool) (t : BitVec 16) (s : State) : State := if made then s.token t else s

/-- A flush: the queue holds the token 0000h alone (R20). -/
def State.flush (s : State) : State :=
  let s' := { s with controls.tokens := [flushToken] }
  if s.controls.tokens.isEmpty then s'.post .tokensReady else s'

/-! ## Held records and modifiers -/

/-- Replaces an input's held record. -/
def State.setHeld (i : Fin 24) (h : Option Held) (s : State) : State :=
  s.setSwitch i { s.controls.switches.get i with held := h }

/-- Puts an input into the assign set or takes it out (R13). -/
def State.setAssign (i : Fin 24) (x : Bool) (s : State) : State :=
  { s with controls.assign := s.controls.assign.set i x }

/-- The modifier changes of a press with this record (R13). -/
def State.pressModifiers (i : Fin 24) (h : Held) (s : State) : State :=
  match h.entry.action, h.kind with
  | .assign, _ => s.setAssign i true
  | .lock, .latching => { s with controls.lock := true }
  | .lock, .momentary => { s with controls.lock := !s.controls.lock }
  | _, _ => s

/-- The modifier changes of a release with this record, or of its discarding (R13, R3). -/
def State.releaseModifiers (i : Fin 24) (h : Held) (s : State) : State :=
  if h.lockedOut then s
  else match h.entry.action, h.kind with
    | .assign, _ => s.setAssign i false
    | .lock, .latching => { s with controls.lock := false }
    | _, _ => s

/-- An input's held record is discarded with the modifier changes of a release. -/
def State.dropHeld (i : Fin 24) (s : State) : State :=
  match (s.controls.switches.get i).held with
  | some h => (s.setHeld i none).releaseModifiers i h
  | none => s

/-- A silent held record resolved in the PLAIN layer (R4, R5). -/
def Controls.silentHeld (c : Controls) (i : Fin 24) : Held :=
  { layer := .plain, entry := c.keymap.plain.get i, kind := (c.switches.get i).config.kind, lockedOut := false, silent := true,
    long := .idle, timer := none }

/-- A held record made silent, its long-press timer cancelled (R4, R5). -/
def Held.silenced (h : Held) : Held :=
  { h with silent := true, timer := none, long := match h.long with
      | .running => .idle
      | .idle => .idle
      | .fired => .fired }

/-- Every held record is made silent and every long-press timer cancelled (R4, R5). -/
def Controls.silence (c : Controls) : Controls :=
  { c with switches := vmap (fun _ w => { w with held := w.held.map Held.silenced, polls := 0 }) c.switches }

/-! ## Rocker -/

/-- The demand of a rocker code (R8). -/
def rockerDemandOf (p : RockerArgs) (code : Nat) : Int :=
  let d : Int := (code : Int) - p.centre
  if d.natAbs ≤ p.deadZone then 0
  else
    let m := min 1000 ((d.natAbs - p.deadZone) * 1000 / (p.fullScale - p.deadZone))
    let demand : Int := (m * m / 1000 : Nat)
    if d < 0 then -demand else demand

/-- The rocker at a result: run counts, state and demand (R8, R9). -/
def Rocker.result (k : Rocker) (r : ResultRec) : Rocker :=
  match r.status with
  | .invalid =>
    let run := k.invalidRun + 1
    if 4 ≤ run then { k with invalidRun := run, railRun := 0, cleanRun := 0, demand := 0 }
    else { k with invalidRun := run, railRun := 0, cleanRun := 0 }
  | .rail =>
    let run := k.railRun + 1
    if 3 ≤ run then { k with railRun := run, invalidRun := 0, cleanRun := 0, state := .fault, demand := 0 }
    else { k with railRun := run, invalidRun := 0, cleanRun := 0 }
  | .ok => match k.state with
    | .ok => { k with invalidRun := 0, railRun := 0, demand := rockerDemandOf k.params r.value }
    | .fault =>
      if k.cleanRun + 1 < 10 then { k with invalidRun := 0, railRun := 0, cleanRun := k.cleanRun + 1 }
      else { k with invalidRun := 0, railRun := 0, cleanRun := 0, state := .ok, demand := rockerDemandOf k.params r.value }

/-- The rocker changes, and a demand that changed is handed to the zoom axis (R8, R9, R10). -/
def State.setRocker (k : Rocker) (s : State) : State :=
  let s' := { s with controls.rocker := k }
  if k.demand = s.controls.rocker.demand then s' else s'.rockerDemand k.demand

/-- The rocker at a result delivered in a power state: outside RUN the demand held is 0 (R8, R9). DEDUCED, log entry 22. -/
def Rocker.resultIn (p : PowerState) (k : Rocker) (r : ResultRec) : Rocker :=
  if p = .run then k.result r else { k.result r with demand := 0 }

/-- A rocker result is delivered (R8, R9). -/
def State.rockerResult (r : ResultRec) (s : State) : State := s.setRocker (s.controls.rocker.resultIn s.supply.power r)

/-- The rocker at entry to STANDBY or SHUTDOWN (R10). -/
def Rocker.rest (k : Rocker) : Rocker := { k with demand := 0, invalidRun := 0, railRun := 0, cleanRun := 0 }

/-! ## Power states -/

/-- Whether an input is accepted ACTIVE with a PLAIN action. -/
def Controls.activeWith (c : Controls) (a : Action) (i : Fin 24) : Bool :=
  (c.switches.get i).accepted && decide ((c.keymap.plain.get i).action = a)

/-- The silent records and the modifiers at entry to RUN from INIT (R4). -/
def Controls.startUp (c : Controls) : Controls :=
  { c with
    switches := vmap (fun i w => { w with held := if w.accepted then some (c.silentHeld i) else none }) c.switches
    lock := (List.finRange 24).any fun i => c.activeWith .lock i && decide ((c.switches.get i).config.kind = .latching)
    assign := .ofFn fun i => c.activeWith .assign i }

/-- At entry to RUN each decoder takes the lines' current levels and a step count of 0 (R6). -/
def Controls.readEncoders (c : Controls) (p : Pins) : Controls :=
  { c with focusRing := ⟨p.focusRing, 0⟩, dial := ⟨p.dial, 0⟩, audio1 := ⟨p.audio1, 0⟩, audio2 := ⟨p.audio2, 0⟩ }

/-- At return to RUN from STANDBY every disagreement count is 0 (R5). -/
def Controls.resume (c : Controls) : Controls :=
  { c with switches := vmap (fun _ w => { w with count := 0, polls := 0 }) c.switches }

/-- The supply monitor hands the scanner a change of the power state, from `old` (R4, R5, R6, R10). -/
def State.scannerPower (old new : PowerState) (s : State) : State :=
  match new, old with
  | .run, .init => { s with controls := s.controls.startUp.readEncoders s.pins }
  | .run, _ => { s with controls := s.controls.resume.readEncoders s.pins }
  | .standby, _ | .shutdown, _ => { s with controls := s.controls.silence }.setRocker s.controls.rocker.rest
  | .init, _ => s

/-- The scanner at a warm reset (R23). Its timers run on. -/
def Controls.warm (c : Controls) : Controls :=
  { Controls.powerOn with
    switches := vmap (fun _ w => ⟨w.config, false, 0, 0, none⟩) c.switches
    keymap := c.keymap, rocker := { Rocker.powerOn with params := c.rocker.params }, beepEnable := c.beepEnable
    scanDue := c.scanDue, rockerDue := c.rockerDue }

end Sys2Proof.Machine
end

