-- ==== Sys2Proof/Machine/Supply.lean ====
section
/-! DEFINITION. The supply monitor (chapter 10): samples and thresholds, the hand-off of the power state, and the beginning of a
shutdown. STANDBY_EXIT, which calls for a calibration, stands in Controls.lean, RESET_PART in Reset.lean. -/

namespace Sys2Proof.Machine

/-! ## The power state -/

/-- What an entry into RUN does in the lens drive: the bridges leave the float state, and from INIT both axes home (R39, R47), the
zoom first. DESIGN CHOICE, log entry 12. -/
def State.lensRun (old : PowerState) (s : State) : State :=
  if old = .init then (s.driveLens.beginHoming .zoom).beginHoming .focus else s.driveLens

/-- What a change of the power state does in the lens drive (R64). -/
def State.lensPower (old new : PowerState) (s : State) : State :=
  match new with
  | .run => s.lensRun old
  | .standby => s.haltLens .standby
  | .init | .shutdown => s

/-- The entries at which the timecode generator reports a difference (R93). -/
def State.timecodePower (old new : PowerState) (s : State) : State :=
  match new, old with
  | .run, _ | .shutdown, .standby => s.reportDifference
  | _, _ => s

/-- The power state changes and is handed to every block (R185), in one order of those the manual allows (log entry 13). -/
def State.setPower (p : PowerState) (s : State) : State :=
  let old := s.supply.power
  let s₁ := { s with supply.power := p }.scannerPower old p
  let s₂ := ((s₁.lensPower old p).stabPower p).timecodePower old p
  let s₃ := (s₂.recPower p).audioPower p
  { s₃ with ovl := s₃.ovl.onPower p }

/-- A shutdown is triggered in RUN or STANDBY: step 1, with the exit under way abandoned (R187, R188). A trigger in another power
state is dropped. -/
def State.beginShutdown (r : ShutdownReason) (s : State) : State :=
  match s.supply.power with
  | .run | .standby =>
    ({ s with supply.shutdown := some ⟨r, .waiting⟩, supply.exit := none }.setPower .shutdown).post (.powerDown r)
  | .init | .shutdown => s

/-! ## Samples and thresholds -/

/-- The millivolts of a value (R181). -/
def milliVolts (value : Nat) : Nat := value * 18000 / 4095

/-- One threshold judged on a sample (R183). -/
def Confirm.judge (c : Confirm) (threshold mV : Nat) : Confirm :=
  if c.flag then
    if threshold + 300 ≤ mV then (if c.run + 1 < 50 then ⟨true, c.run + 1⟩ else ⟨false, 0⟩) else ⟨true, 0⟩
  else if mV < threshold then (if c.run + 1 < 20 then ⟨false, c.run + 1⟩ else ⟨true, 0⟩)
  else ⟨false, 0⟩

/-- A sample that is not discarded: readings, effective supply and thresholds (R181, R183). -/
def Supply.sample (p : Supply) (battery dcin : Nat) : Supply :=
  let present : Bool := 10000 ≤ dcin
  let mV := if present then dcin else battery
  { p with
    battery := battery, dcin := dcin, dcPresent := present, effective := mV
    warn := p.warn.judge p.thresholds.warn mV, low := p.low.judge p.thresholds.low mV
    cutoff := p.cutoff.judge p.thresholds.cutoff mV }

/-- The warnings of the supply states (R184). -/
def State.supplyWarnings (st : SupplyState) (s : State) : State :=
  ((s.condition .supplyWarn (st = .warn)).condition .supplyLow (st = .low)).condition .supplyCutoff (st = .cutoff)

/-- A change of the supply state from `old` to `new` (R184). -/
def State.supplyChanged (old new : SupplyState) (s : State) : State :=
  let s₁ := s.post (.supplyState new s.supply.effective s.supply.dcPresent)
  let s₂ := { s₁.recSupply new with lens.halving := new = SupplyState.low ∨ new = SupplyState.cutoff }.supplyWarnings new
  let s₃ := if old = .normal ∧ new = .warn then s₂.beep .long else s₂
  if new = .cutoff then s₃.beginShutdown .supply else s₃

/-- The supply state is worked out again after a sample (R184). -/
def State.supplyState (s : State) : State :=
  let new := s.supply.level
  if new = s.supply.state then s else { s with supply.state := new }.supplyChanged s.supply.state new

/-- A supply sample is delivered; with an INVALID record it is discarded (R181). -/
def State.supplySample (battery dcin : ResultRec) (s : State) : State :=
  if battery.status = .invalid ∨ dcin.status = .invalid then s
  else { s with supply := s.supply.sample (milliVolts battery.value) (milliVolts dcin.value) }.supplyState

/-! ## Requests -/

/-- SUPPLY_SET's decision (R182). -/
def supplySetOwner (a : Args SupplyArgs) (s : State) : Answer :=
  withArgs a s fun a =>
    if thresholdsLegal a = false then badArgument s
    else ok { s with
      supply.thresholds := a, supply.warn.run := 0, supply.low.run := 0, supply.cutoff.run := 0 }

/-- SUPPLY_SET (R182). -/
def execSupplySet (tag : Byte) (a : Args SupplyArgs) (s : State) : Host.Outcome State Fault Refusal :=
  request .supplySet tag (supplySetOwner a) s

/-- What SUPPLY_GET reports (R191). -/
def Supply.report (p : Supply) : SupplyReport :=
  { battery := p.battery, dcin := p.dcin, dcPresent := p.dcPresent, effective := p.effective, thresholds := p.thresholds,
    warn := p.warn, low := p.low, cutoff := p.cutoff, state := p.state, power := p.power, exit := p.exit, pwrHold := p.pwrHold,
    missed := p.missed }

/-- SUPPLY_GET's decision (R191). -/
def supplyGetOwner (s : State) : Answer := okWith (.supply s.supply.report) { s with supply.missed := 0 }

/-- SUPPLY_GET (R191). -/
def execSupplyGet (tag : Byte) (s : State) : Host.Outcome State Fault Refusal := request .supplyGet tag supplyGetOwner s

/-- STANDBY_ENTER's decision (R186). -/
def standbyEnterOwner (a : NoArgs) (s : State) : Answer :=
  withNone a s (match s.supply.power with
    | .run => if s.supply.recState = .standby then ok (s.setPower .standby) else refuse .recording s
    | .standby => if s.supply.exit.isSome then refuse .inProgress s else ok s
    | .init | .shutdown => refuse .none s)

/-- STANDBY_ENTER (R186). -/
def execStandbyEnter (tag : Byte) (a : NoArgs) (s : State) : Host.Outcome State Fault Refusal :=
  request .standbyEnter tag (standbyEnterOwner a) s

/-- SHUTDOWN's decision (R188, R185). -/
def shutdownOwner (a : NoArgs) (s : State) : Answer :=
  withNone a s (match s.supply.power with
    | .run | .standby => ok (s.beginShutdown .host)
    | .init | .shutdown => refuse .none s)

/-- SHUTDOWN (R188). -/
def execShutdown (tag : Byte) (a : NoArgs) (s : State) : Host.Outcome State Fault Refusal :=
  request .shutdown tag (shutdownOwner a) s

/-! ## The steps of a shutdown -/

/-- SHUTDOWN_LENS_STOP (R188, 3): effective while the shutdown waits and the record state is STANDBY. DEDUCED, log entry 15. -/
def execShutdownLensStop (s : State) : Host.Outcome State Fault Refusal :=
  finish (match s.supply.shutdown with
    | some ⟨r, .waiting⟩ =>
      if s.supply.recState = .standby then
        { s.haltLens .shutdown with supply.shutdown := some ⟨r, .lensStopped (s.clock + releaseTime)⟩ }
      else s
    | _ => s)

/-- PWR_HOLD_RELEASE (R188, 4); before the lens stop and after the release it has no effect. -/
def execPwrHoldRelease (s : State) : Host.Outcome State Fault Refusal :=
  finish (match s.supply.shutdown with
    | some ⟨r, .lensStopped t⟩ => { s.atTime t with supply.shutdown := some ⟨r, .released⟩, supply.pwrHold := false }
    | _ => s)

/-- The supply monitor at a warm reset (R192). Its request timer runs on. -/
def Supply.warmed (p : Supply) : Supply :=
  { Supply.powerOn with
    thresholds := p.thresholds, pwrHold := p.pwrHold, resetKind := .warm, requestDue := p.requestDue }

end Sys2Proof.Machine
end

