-- ==== Sys2Proof/Machine/Converter.lean ====
section
/-! DEFINITION. The shared converter (chapter 02): service, delivery, the arbiter and calibration; the meanings of its requests and
events, and of the four events at which its requesters ask. -/

namespace Sys2Proof.Machine

/-! ## Groups and records -/

/-- The inputs of a group, in the order of conversion (R24). -/
def groupInputs : Group → List (Fin 7)
  | .gyro => [0, 1]
  | .level => [3, 4]
  | .rocker => [2]
  | .supply => [5, 6]

/-- The INVALID record of an input (R30, 1). -/
def invalidRecord (i : Fin 7) : ResultRec := ⟨i, 0, .invalid⟩

/-- The record of a converted input (R30, 2 and 3). -/
def convertedRecord (offset : Int) (i : Fin 7) (raw : RawCode) : ResultRec :=
  { input := i, value := (clampInt 0 4095 ((raw.toNat : Int) - offset)).toNat
    status := if raw.toNat = 0 ∨ raw.toNat = 4095 then .rail else .ok }

/-- The inputs at the front of a service that are disabled are passed over, each with an INVALID record (R29). -/
def passDisabled : List ResultRec → List (Fin 7 × Bool) → List ResultRec × List (Fin 7 × Bool)
  | made, [] => (made, [])
  | made, (i, on) :: rest => if on then (made, (i, on) :: rest) else passDisabled (made ++ [invalidRecord i]) rest

/-- A group as it is taken into service, with the enables at that moment; with self-check FAILED no input is converted (R25,
R29). -/
def Converter.serve (c : Converter) (g : Group) (now : Nat) : Service :=
  let todo := (groupInputs g).map fun i => (i, c.selfCheck && c.enables.get i)
  let (made, rest) := passDisabled [] todo
  ⟨g, made, rest, now + conversionTime⟩

/-! ## Delivery -/

/-- The records of a delivery replace the last result records of their inputs (R29, R35). -/
def Converter.remember (c : Converter) (made : List ResultRec) : Converter :=
  { c with last := made.foldl (fun v r => v.set r.input r) c.last }

/-- A group is delivered to its requester (R29). -/
def State.deliver (g : Group) (made : List ResultRec) (s : State) : State :=
  let s' := { s with conv := s.conv.remember made }
  match g, made with
  | .gyro, [a, b] => { s' with stab.mailbox := some (a, b) }
  | .level, [a, b] => { s' with audio.mailbox := some (a, b) }
  | .rocker, [a] => s'.rockerResult a
  | .supply, [a, b] => s'.supplySample a b
  | _, _ => s'

/-- A miss is handed to a requester whose pending group was replaced (R27). -/
def State.miss (g : Group) (s : State) : State :=
  match g with
  | .gyro => { s with stab.replacements := countUp 255 s.stab.replacements }
  | .level => { s with audio.replacements := countUp 255 s.audio.replacements }
  | .rocker => { s with controls.rocker.misses := countUp 255 s.controls.rocker.misses }
  | .supply => { s with supply.missed := countUp 255 s.supply.missed }

/-! ## The arbiter -/

/-- The group of the highest-priority requester in the pending set (R28). -/
def GroupSet.highest (p : GroupSet) : Option Group :=
  if p.gyro then some .gyro else if p.level then some .level else if p.rocker then some .rocker
  else if p.supply then some .supply else none

/-- The accepted ADC_CALIBRATE, if one waits for its calibration to begin, is taken and answered OK (R33), also where SHUTDOWN has
begun since it was accepted. DEDUCED, log entry 23. -/
def Port.answerAccepted (p : Port) : Port :=
  match p.inHand with
  | some e => if e.state = .accepted then p.answer e.kind e.tag .ok .none .none else p
  | none => p

/-- A calibration begins (R31, R33). -/
def State.beginCalibration (s : State) : State :=
  { s with conv.activity := .calibrating (s.clock + calibrationTime), conv.owed := false, port := s.port.answerAccepted }

/-- The converter becomes free: an owed calibration begins, else the highest pending group is taken into service, else the
converter is IDLE (R28). A group with nothing to convert is delivered at once and the converter is free again (R29); `fuel`
bounds these, one for each group and one more. -/
def State.becomeFree : Nat → State → State
  | 0, s => { s with conv.activity := .idle }
  | fuel + 1, s =>
    if s.conv.owed then s.beginCalibration
    else match s.conv.pending.highest with
      | none => { s with conv.activity := .idle }
      | some g =>
        let v := s.conv.serve g s.clock
        let s' := { s with conv.pending := s.conv.pending.put false g }
        if v.todo.isEmpty then State.becomeFree fuel (s'.deliver g v.made)
        else { s' with conv.activity := .converting v }

/-- A requester asks for its group (R26, R27). At an IDLE converter that owes no calibration the group is taken into service at once
and does not enter the pending set; with nothing to convert it is delivered at once, and the converter is free (R29). -/
def State.askConverter (g : Group) (s : State) : State :=
  if s.conv.activity = .idle ∧ s.conv.owed = false then
    let v := s.conv.serve g s.clock
    if v.todo.isEmpty then (s.deliver g v.made).becomeFree 5 else { s with conv.activity := .converting v }
  else
    let s' := { s with conv.pending := s.conv.pending.put true g }
    if s.conv.pending.has g then s'.miss g else s'

/-- A calibration is called for: an owed or running one serves; at an IDLE converter it begins at once, else it is owed (R31,
R32). -/
def State.callCalibration (s : State) : State :=
  match s.conv.activity with
  | .idle => s.beginCalibration
  | .converting _ => { s with conv.owed := true }
  | .calibrating _ => s

/-! ## Conversion and calibration ends -/

/-- The conversion end of the input being converted: the next enabled input is converted, or the group is delivered (R29). -/
def State.conversionEnd (v : Service) (raw : RawCode) (s : State) : State :=
  match v.todo with
  | [] => s
  | (i, _) :: rest =>
    let (made, todo) := passDisabled (v.made ++ [convertedRecord s.conv.offset i raw]) rest
    if todo.isEmpty then (s.deliver v.group made).becomeFree 5
    else { s with conv.activity := .converting ⟨v.group, made, todo, s.clock + conversionTime⟩ }

/-- CONVERSION_END (R24, R29); while no conversion runs it has no effect. -/
def execConversionEnd (raw : RawCode) (s : State) : Host.Outcome State Fault Refusal :=
  finish (match s.conv.activity with
    | .converting v => (s.atTime v.stop).conversionEnd v raw
    | .idle | .calibrating _ => s)

/-- The offset a mid-reference code gives (R31, 3). -/
def offsetOfReference (reference : RawCode) : Int := clampInt (-32) 31 ((reference.toNat : Int) - 2048)

/-- Whether an offset passes the self-check (R31, 4). -/
def passes (offset : Int) : Bool := -16 ≤ offset ∧ offset ≤ 16

/-- The outcome of the INIT calibration reaches the supply monitor: READY, and RUN (R185). -/
def State.endInit (passed : Bool) (s : State) : State :=
  if s.supply.power = .init then (s.post (.ready s.supply.resetKind passed)).setPower .run else s

/-- The outcome of the exit calibration reaches the supply monitor: WAKE, and RUN; the outcome for an exit that was abandoned is
discarded (R187). -/
def State.endExit (passed : Bool) (s : State) : State :=
  match s.supply.exit with
  | some src =>
    let s' := (s.post (.wake src passed)).setPower .run
    { s' with supply.exit := none }
  | none => s

/-- The outcome of a calibration is reported to the parties it was made for (R32). -/
def State.reportCalibration (p : Parties) (reference : RawCode) (s : State) : State :=
  let passed := s.conv.selfCheck
  let s₁ := if p.host then s.post (.adcDone passed s.conv.offset reference.toNat) else s
  let s₂ := if p.reset then s₁.endInit passed else s₁
  if p.exit then s₂.endExit passed else s₂

/-- The end of a calibration (R31, R32). -/
def State.calibrationEnd (reference : RawCode) (s : State) : State :=
  let offset := offsetOfReference reference
  let s' := { s with
    conv := { s.conv with offset := offset, selfCheck := passes offset, parties := ⟨false, false, false⟩ } }
  (s'.reportCalibration s.conv.parties reference).becomeFree 5

/-- CALIBRATION_END (R31); while no calibration runs it has no effect. -/
def execCalibrationEnd (reference : RawCode) (s : State) : Host.Outcome State Fault Refusal :=
  finish (match s.conv.activity with
    | .calibrating t => (s.atTime t).calibrationEnd reference
    | .idle | .converting _ => s)

/-! ## Requests -/

/-- The gyro enables are handed to the stabiliser where one of them changes (R25). -/
def State.handGyro (before : Converter) (s : State) : State :=
  let on (c : Converter) (i : Fin 7) := c.enables.get i
  if on before 0 = on s.conv 0 ∧ on before 1 = on s.conv 1 then s else s.stabGyro (on s.conv 0 && on s.conv 1)

/-- ADC_ENABLE's decision (R25). -/
def adcEnableOwner (a : Args (List Nat)) (s : State) : Answer :=
  withArgs a s fun inputs =>
    match enablesOf inputs with
    | some e => ok ({ s with conv.enables := e }.handGyro s.conv)
    | none => badArgument s

/-- ADC_ENABLE (R25). -/
def execAdcEnable (tag : Byte) (a : Args (List Nat)) (s : State) : Host.Outcome State Fault Refusal :=
  request .adcEnable tag (adcEnableOwner a) s

/-- Whether a calibration is owed or running (R33). -/
def Converter.calibrationInHand (c : Converter) : Bool :=
  c.owed || match c.activity with
    | .calibrating _ => true
    | .idle | .converting _ => false

/-- ADC_CALIBRATE's decision (R33): begun at once, or accepted with its reply still to come. -/
def adcCalibrateOwner (s : State) : Answer :=
  if s.supply.power = .standby then refuse .standby s
  else if s.conv.calibrationInHand then refuse .inProgress s
  else
    let s' := { s with conv.parties.host := true }
    match s.conv.activity with
    | .idle => ok s'.callCalibration
    | .converting _ | .calibrating _ => { ok s'.callCalibration with held := true }

/-- ADC_CALIBRATE (R33). -/
def execAdcCalibrate (tag : Byte) (s : State) : Host.Outcome State Fault Refusal :=
  request .adcCalibrate tag adcCalibrateOwner s

/-- The name of the activity state (R24). -/
def Activity.name : Activity → ActivityName
  | .idle => .idle
  | .converting _ => .converting
  | .calibrating _ => .calibrating

/-- What ADC_GET reports (R35). -/
def Converter.report (c : Converter) : AdcReport :=
  { enables := c.enables, offset := c.offset, selfCheck := c.selfCheck, activity := c.activity.name, owed := c.owed,
    pending := c.pending, last := c.last }

/-- ADC_GET's decision (R35). -/
def adcGetOwner (s : State) : Answer := okWith (.adc s.conv.report) s

/-- ADC_GET (R35). -/
def execAdcGet (tag : Byte) (s : State) : Host.Outcome State Fault Refusal := request .adcGet tag adcGetOwner s

/-! ## The requesters' events -/

/-- SAMPLE_EVENT (R71): in RUN the pair is taken and acted on, and the GYRO group requested. Outside RUN the mailbox stands, also a
pair delivered in RUN and not yet taken when the part left it. DEDUCED, log entry 24. -/
def execSampleEvent (s : State) : Host.Outcome State Fault Refusal :=
  let s' := { s.atTime s.stab.sampleDue with stab.sampleDue := s.stab.sampleDue + eventPeriod }
  finish (if s.supply.power = .run then s'.sample.askConverter .gyro else s')

/-- LEVEL_EVENT (R147): outside STANDBY the pair is taken and acted on, and the LEVEL group requested. In STANDBY the mailbox stands,
also with a pair delivered before the entry and not yet taken. DEDUCED, log entry 28. -/
def execLevelEvent (s : State) : Host.Outcome State Fault Refusal :=
  let s' := { s.atTime s.audio.levelDue with audio.levelDue := s.audio.levelDue + eventPeriod }
  finish (if s.audio.power = .standby then s' else s'.level.askConverter .level)

/-- ROCKER_REQUEST_TIMER (R8): in RUN the ROCKER group is requested. -/
def execRockerRequestTimer (s : State) : Host.Outcome State Fault Refusal :=
  let s' := { s.atTime s.controls.rockerDue with controls.rockerDue := s.controls.rockerDue + rockerPeriod }
  finish (if s.supply.power = .run then s'.askConverter .rocker else s')

/-- SUPPLY_REQUEST_TIMER (R181): the SUPPLY group is requested. -/
def execSupplyRequestTimer (s : State) : Host.Outcome State Fault Refusal :=
  finish ({ s.atTime s.supply.requestDue with
    supply.requestDue := s.supply.requestDue + supplyPeriod s.supply.power }.askConverter .supply)

/-- The converter at a warm reset: its INIT calibration begins at once (R36). -/
def Converter.warm (c : Converter) (now : Nat) : Converter :=
  { Converter.powerOn with enables := c.enables, offset := c.offset, activity := .calibrating (now + calibrationTime) }

end Sys2Proof.Machine
end

