-- ==== Sys2Proof/Machine/Controls.lean ====
section
/-! DEFINITION. The scan and the bound actions of the control scanner (chapter 01), the exit from standby, and the meanings of the
scanner's requests and events. -/

namespace Sys2Proof.Machine

/-! ## The exit from standby -/

/-- An exit from standby begins: its source is recorded and the exit calibration is called for (R187). -/
def State.beginExit (src : ExitSource) (s : State) : State :=
  { s with supply.exit := some src, conv.parties.exit := true }.callCalibration

/-- A wake handed by the scanner; dropped while an exit is under way (R187). -/
def State.wake (i : Fin 24) (s : State) : State :=
  if s.supply.power = .standby ∧ s.supply.exit = none then s.beginExit (.input i) else s

/-- STANDBY_EXIT's decision (R187). -/
def standbyExitOwner (a : NoArgs) (s : State) : Answer :=
  withNone a s (match s.supply.power with
    | .standby => if s.supply.exit.isSome then refuse .inProgress s else ok (s.beginExit .host)
    | .run => ok s
    | .init | .shutdown => refuse .none s)

/-- STANDBY_EXIT (R187). -/
def execStandbyExit (tag : Byte) (a : NoArgs) (s : State) : Host.Outcome State Fault Refusal :=
  request .standbyExit tag (standbyExitOwner a) s

/-! ## Bound actions -/

/-- The action of a record delivered at its press (R15, R16). -/
def State.pressAction (h : Held) (s : State) : State :=
  match h.entry.action with
  | .none | .token | .assign | .lock | .power => s
  | .recToggle => s.recToggle
  | .mark => s.panelMark
  | .goodShot => s.goodShot
  | .stabToggle => s.stabToggle
  | .focusModeToggle => s.focusToggle
  | .preset n => if h.kind = .latching then s.panelRecall n else s
  | .audioAuto ch => s.audioAuto ch
  | .menuToggle => s.menuToggle
  | .flush => s.flush

/-- The action delivered at a long press (R16). -/
def State.longAction (h : Held) (s : State) : State :=
  match h.entry.action with
  | .preset n => s.panelStore n
  | .power => s.beginShutdown .operator
  | _ => s

/-- The action delivered at a release (R16). -/
def State.releaseAction (h : Held) (s : State) : State :=
  match h.entry.action, h.kind with
  | .preset n, .momentary => if h.long = .running then s.panelRecall n else s
  | .power, .latching => s.beginShutdown .operator
  | _, _ => s

/-! ## Presses and releases -/

/-- Whether a PLAIN action gets through the lock (R12, 1). -/
def passesLock : Action → Bool
  | .recToggle | .lock | .power => true
  | _ => false

/-- The layer in force (R12, 2 to 4). -/
def State.layerInForce (s : State) : Layer :=
  if s.ovl.menu then .menu else if s.controls.assignEmpty then .plain else .assign

/-- The layer a press resolves in; none where it is locked out (R12). -/
def State.resolve (i : Fin 24) (s : State) : Option Layer :=
  if s.controls.lock then
    (if passesLock (s.controls.keymap.plain.get i).action then some .plain else none)
  else some s.layerInForce

/-- The held record of a press resolved in a layer (R14). -/
def State.heldOf (i : Fin 24) (layer : Layer) (s : State) : Held :=
  let kind := (s.controls.switches.get i).config.kind
  { layer := layer, entry := (s.controls.keymap.layer layer).get i, kind := kind, lockedOut := false, silent := false
    long := if kind = .momentary then .running else .idle
    timer := if kind = .momentary then some (s.clock + longPressTime) else none }

/-- The held record of a locked-out press (R12, R14). DEDUCED, log entry 21. -/
def State.lockedHeld (i : Fin 24) (s : State) : Held :=
  { s.controls.silentHeld i with lockedOut := true, silent := false }

/-- Whether a press makes a PRESS token (R15, R20). -/
def pressToken (e : KeyEntry) : Bool :=
  match e.action with
  | .token => true
  | .flush => false
  | _ => e.press

/-- An accepted press in RUN (R12 to R15). -/
def State.press (i : Fin 24) (s : State) : State :=
  match s.resolve i with
  | none => ((s.setHeld i (some (s.lockedHeld i))).warn .keysLocked).beep .reject
  | some layer =>
    let h := s.heldOf i layer
    let s' := (s.setHeld i (some h)).pressModifiers i h
    (s'.tokenIf (pressToken h.entry) (tokenWord i.val .press layer)).pressAction h

/-- An accepted release of a record in RUN (R14, R16). -/
def State.releaseHeld (i : Fin 24) (h : Held) (s : State) : State :=
  let s' := (s.setHeld i none).releaseModifiers i h
  if h.lockedOut then s'
  else if h.silent then (if h.entry.action = .power ∧ h.kind = .latching then s'.beginShutdown .operator else s')
  else (s'.tokenIf h.entry.release (tokenWord i.val .release h.layer)).releaseAction h

/-- An accepted release in RUN (R14). -/
def State.release (i : Fin 24) (s : State) : State :=
  match (s.controls.switches.get i).held with
  | some h => s.releaseHeld i h
  | none => s

/-! ## The scan -/

/-- Replaces an input's accepted level, its counts at 0. -/
def State.setAccepted (i : Fin 24) (level : Bool) (s : State) : State :=
  s.setSwitch i { s.controls.switches.get i with accepted := level, count := 0, polls := 0 }

/-- What an accepted change does outside STANDBY, by the power state (R2, R4). -/
def State.acceptedChange (i : Fin 24) (level : Bool) (s : State) : State :=
  match s.supply.power, level with
  | .run, true => s.press i
  | .run, false => s.release i
  | _, true => s
  | _, false => s.dropHeld i

/-- The debounce of one input at a scan outside STANDBY (R2, R4). -/
def State.debounce (i : Fin 24) (level : Bool) (s : State) : State :=
  let w := s.controls.switches.get i
  if level = w.accepted then s.setSwitch i { w with count := 0 }
  else if w.count < 3 then s.setSwitch i { w with count := w.count + 1 }
  else (s.setAccepted i level).acceptedChange i level

/-- Whether an input is the POWER switch that STANDBY polls (R5). -/
def Controls.isPowerSwitch (c : Controls) (i : Fin 24) : Bool :=
  (c.switches.get i).config.kind = .latching ∧ (c.keymap.plain.get i).action = .power

/-- A waking change (R5). -/
def State.wakeChange (i : Fin 24) (level : Bool) (s : State) : State :=
  let s' := s.setAccepted i level
  let s'' := if level then
      let h := s'.controls.silentHeld i
      (s'.setHeld i (some h)).pressModifiers i h
    else s'.dropHeld i
  s''.wake i

/-- The POWER switch turned off in STANDBY (R5, R16). -/
def State.powerOff (i : Fin 24) (s : State) : State := ((s.setAccepted i false).dropHeld i).beginShutdown .operator

/-- The change of level that STANDBY polls for on an input: the POWER switch's off edge, or a wake input's change (R5). -/
def State.pollChange (i : Fin 24) (level : Bool) (s : State) : Option State :=
  if level = false ∧ s.controls.isPowerSwitch i = true then some (s.powerOff i)
  else if (s.controls.switches.get i).config.wake then some (s.wakeChange i level)
  else none

/-- One input at a poll in STANDBY (R5). -/
def State.poll (i : Fin 24) (level : Bool) (s : State) : State :=
  let w := s.controls.switches.get i
  if level = w.accepted then s.setSwitch i { w with polls := 0 }
  else match s.pollChange i level with
    | none => s
    | some s' => if w.polls + 1 < 2 then s.setSwitch i { w with polls := w.polls + 1 } else s'

/-- One input at a scan, read through its polarity; a disabled input is not read (R2, R4, R5). -/
def State.scanInput (levels : Vector Bool 24) (s : State) (i : Fin 24) : State :=
  let w := s.controls.switches.get i
  if w.config.enabled then
    let level := pressed w.config (levels.get i)
    if s.supply.power = .standby then s.poll i level else s.debounce i level
  else s

/-- The first scan after a reset: every enabled input takes the level read (R4). -/
def Controls.takeLevels (c : Controls) (levels : Vector Bool 24) : Controls :=
  { c with
    firstScan := false
    switches := vmap (fun i w => { w with accepted := w.config.enabled && pressed w.config (levels.get i), count := 0 }) c.switches }

/-- One scan of the inputs, in the order of their numbers (R2). DEDUCED, log entry 20. -/
def State.scan (levels : Vector Bool 24) (s : State) : State :=
  if s.controls.firstScan then { s with controls := s.controls.takeLevels levels }
  else (List.finRange 24).foldl (State.scanInput levels) s

/-- SCAN (R2, R4, R5). -/
def execScan (levels : Vector Bool 24) (s : State) : Host.Outcome State Fault Refusal :=
  finish ({ s.atTime s.controls.scanDue with
    controls.scanDue := s.controls.scanDue + scanInterval s.supply.power }.scan levels)

/-- A long press (R14). -/
def State.longPress (i : Fin 24) (h : Held) (s : State) : State :=
  let s' := s.setHeld i (some { h with long := .fired, timer := none })
  (s'.tokenIf h.entry.long (tokenWord i.val .long h.layer)).longAction h

/-- LONG_PRESS_TIMER_EXPIRY (R14); of a timer that is not running it has no effect. -/
def execLongPressTimerExpiry (i : Fin 24) (s : State) : Host.Outcome State Fault Refusal :=
  finish (match (s.controls.switches.get i).held with
    | some h => match h.timer with
      | some t => (s.atTime t).longPress i h
      | none => s
    | none => s)

/-! ## Encoders -/

/-- Whether a single-line transition is in the clockwise order low-low, high-low, high-high, low-high (R6), from the levels before
and after. -/
def clockwise (before after : Levels) : Bool :=
  if before.a ≠ after.a then after.a ≠ after.b else after.a = after.b

/-- The decoder at a transition; the second part is the detent it makes, UP or DOWN (R6). -/
def Decoder.transition (d : Decoder) (l : Levels) : Decoder × Option Bool :=
  if l = d.levels then (d, none)
  else if l.a ≠ d.levels.a ∧ l.b ≠ d.levels.b then (⟨l, 0⟩, none)
  else
    let n := if clockwise d.levels l then d.count + 1 else d.count - 1
    if 4 ≤ n then (⟨l, 0⟩, some true) else if n ≤ -4 then (⟨l, 0⟩, some false) else (⟨l, n⟩, none)

/-- A detent's token (R7, R17). -/
def State.detentToken (e : Encoder) (up : Bool) (layer : Layer) (s : State) : State :=
  s.token (tokenWord (encoderCode e) (if up then .detentUp else .detentDown) layer)

/-- A detent is routed by the layer in force (R7). -/
def State.detent (e : Encoder) (up : Bool) (s : State) : State :=
  if s.controls.lock then
    match e with
    | .focusRing => s.ringDetent up
    | .dial | .audio1 | .audio2 => s
  else match s.layerInForce, e with
    | .menu, e => s.detentToken e up .menu
    | _, .focusRing => s.ringDetent up
    | layer, .dial => s.detentToken .dial up layer
    | _, .audio1 => s.knobDetent .ch1 up
    | _, .audio2 => s.knobDetent .ch2 up

/-- ENCODER_TRANSITION (R6): the lines of an encoder stand at new levels at a time; decoded in RUN only. -/
def execEncoderTransition (e : Encoder) (a b : Bool) (time : Nat) (s : State) : Host.Outcome State Fault Refusal :=
  let l : Levels := ⟨a, b⟩
  let s' := { s.atTime time with pins := s.pins.setEncoder l e }
  finish (if s.supply.power = .run then
      let (d, made) := (s.controls.decoder e).transition l
      let s'' := { s' with controls := s'.controls.setDecoder d e }
      match made with
      | some up => s''.detent e up
      | none => s''
    else s')

/-! ## Requests -/

/-- An input disabled by INPUT_CONFIG ends its state silently (R3). -/
def State.disableInput (i : Fin 24) (s : State) : State := (s.dropHeld i).setAccepted i false

/-- INPUT_CONFIG's effect (R1, R3). -/
def State.configureInput (i : Fin 24) (c : InputConfig) (s : State) : State :=
  let old := (s.controls.switches.get i).config
  let s' := if old.enabled = true ∧ c.enabled = false then s.disableInput i
    else if old.enabled = false ∧ c.enabled = true then s.setAccepted i false
    else s
  s'.setSwitch i { s'.controls.switches.get i with config := c }

/-- INPUT_CONFIG's decision (R1). -/
def inputConfigOwner (a : Args InputConfigArgs) (s : State) : Answer :=
  withArgs a s fun a =>
    match inputOf a.input with
    | some i => ok (s.configureInput i ⟨a.enabled, a.polarity, a.kind, a.wake⟩)
    | none => badArgument s

/-- INPUT_CONFIG (R1). -/
def execInputConfig (tag : Byte) (a : Args InputConfigArgs) (s : State) : Host.Outcome State Fault Refusal :=
  request .inputConfig tag (inputConfigOwner a) s

/-- KEYMAP_SET's decision (R11). -/
def keymapSetOwner (a : Args KeymapSetArgs) (s : State) : Answer :=
  withArgs a s fun a =>
    match inputOf a.input with
    | some i => ok { s with
        controls.keymap := s.controls.keymap.setLayer ((s.controls.keymap.layer a.layer).set i a.entry) a.layer }
    | none => badArgument s

/-- KEYMAP_SET (R11). -/
def execKeymapSet (tag : Byte) (a : Args KeymapSetArgs) (s : State) : Host.Outcome State Fault Refusal :=
  request .keymapSet tag (keymapSetOwner a) s

/-- KEYMAP_GET's decision (R11). -/
def keymapGetOwner (a : Args KeymapGetArgs) (s : State) : Answer :=
  withArgs a s fun a =>
    match inputOf a.input with
    | some i => okWith (.keyEntry ((s.controls.keymap.layer a.layer).get i)) s
    | none => badArgument s

/-- KEYMAP_GET (R11). -/
def execKeymapGet (tag : Byte) (a : Args KeymapGetArgs) (s : State) : Host.Outcome State Fault Refusal :=
  request .keymapGet tag (keymapGetOwner a) s

/-- ROCKER_SET's decision (R10). -/
def rockerSetOwner (a : Args RockerArgs) (s : State) : Answer :=
  withArgs a s fun a => if rockerLegal a then ok { s with controls.rocker.params := a } else badArgument s

/-- ROCKER_SET (R10). -/
def execRockerSet (tag : Byte) (a : Args RockerArgs) (s : State) : Host.Outcome State Fault Refusal :=
  request .rockerSet tag (rockerSetOwner a) s

/-- TOKENS_READ's decision (R19). -/
def tokensReadOwner (s : State) : Answer :=
  okWith (.tokens (s.controls.tokens.take 8) (s.controls.tokens.drop 8).length)
    { s with controls.tokens := s.controls.tokens.drop 8 }

/-- TOKENS_READ (R19). -/
def execTokensRead (tag : Byte) (s : State) : Host.Outcome State Fault Refusal := request .tokensRead tag tokensReadOwner s

/-- BEEPER_SET's decision: disabling silences a sounding pattern (R21). -/
def beeperSetOwner (a : Args Bool) (s : State) : Answer :=
  withArgs a s fun on => ok { s with
    controls.beepEnable := on, controls.beeper := if on then s.controls.beeper else none }

/-- BEEPER_SET (R21). -/
def execBeeperSet (tag : Byte) (a : Args Bool) (s : State) : Host.Outcome State Fault Refusal :=
  request .beeperSet tag (beeperSetOwner a) s

/-- BEEP_PATTERN_END (R21); while the beeper is silent it has no effect. -/
def execBeepPatternEnd (s : State) : Host.Outcome State Fault Refusal :=
  finish (match s.controls.beeper with
    | some b => { s.atTime b.stop with controls.beeper := none }
    | none => s)

/-- What CONTROLS_GET reports (R22). -/
def Controls.report (c : Controls) : ControlsReport :=
  { accepted := vmap (fun _ w => w.accepted) c.switches
    held := vmap (fun _ w => w.held.map fun h => (h.layer, h.entry.action)) c.switches
    lock := c.lock, assign := c.assign, rocker := c.rocker.state, demand := c.rocker.demand, misses := c.rocker.misses
    tokens := c.tokens.length, beepEnable := c.beepEnable }

/-- CONTROLS_GET's decision (R22): the reply sets the count of rocker misses to 0. -/
def controlsGetOwner (s : State) : Answer := okWith (.controls s.controls.report) { s with controls.rocker.misses := 0 }

/-- CONTROLS_GET (R22). -/
def execControlsGet (tag : Byte) (s : State) : Host.Outcome State Fault Refusal := request .controlsGet tag controlsGetOwner s

end Sys2Proof.Machine
end

