-- ==== Sys2Proof/Machine/Reset.lean ====
section
/-! DEFINITION. The resets (R190): power-on and warm, by the reset tables of the chapters. -/

namespace Sys2Proof.Machine

/-- A page at a warm reset: its cells and cursor are kept, every row is dirty (R180). -/
def Page.warm (pg : Page) : Page := { pg with dirty := .replicate 16 true }

/-- The overlay generator at a warm reset (R180). -/
def Overlay.warm (o : Overlay) : Overlay :=
  { pages := vmap (fun _ pg => pg.warm) o.pages
    displayed := if o.menu then o.saved.getD o.displayed else o.displayed
    menu := false, saved := none, fields := o.fields, warnings := .empty, batch := none, power := .init
    vfPresent := o.vfPresent }

/-- A warm reset of every block (R190); the lines stand as they are and the model's clock runs on. -/
def State.warmBlocks (s : State) : State :=
  { pins := s.pins, controls := s.controls.warm, conv := s.conv.warm s.clock, lens := s.lens.warm
    stab := s.stab.warm (s.conv.enables.get 0 && s.conv.enables.get 1), tc := s.tc.warm
    recorder := s.recorder.warm s.pins s.clock, log := s.resetLog, audio := s.audio.warm s.clock, ovl := s.ovl.warm
    supply := s.supply.warmed, port := .powerOn, clock := s.clock, pending := s.pending }

/-- A warm reset: with the reference LOST, FSYNC_LOST is placed in the emptied warning set (R100, note b). -/
def State.warmReset (s : State) : State := s.warmBlocks.condition .fsyncLost (!s.tc.present)

/-- POWER_ON_RESET (R190): every block takes its power-on state, the lines as they stand, and PWR_HOLD is asserted. -/
def execPowerOnReset (s : State) : Host.Outcome State Fault Refusal :=
  finish { State.powerOn s.pins with pending := s.pending }

/-- WARM_RESET (R190): the RST pin is released. DEDUCED, log entry 14. -/
def execWarmReset (s : State) : Host.Outcome State Fault Refusal := finish s.warmReset

/-- RESET_PART's decision (R190): OK; the reset takes place at the end of the reply's transmission. -/
def resetPartOwner (a : NoArgs) (s : State) : Answer := withNone a s (ok s)

/-- RESET_PART (R190). -/
def execResetPart (tag : Byte) (a : NoArgs) (s : State) : Host.Outcome State Fault Refusal :=
  request .resetPart tag (resetPartOwner a) s

end Sys2Proof.Machine
end

