-- ==== Sys2Proof/Machine/Port.lean ====
section
/-! DEFINITION. The command port (chapter 11): the frame assembler, the line break, the transmitter, and the port's own requests. -/

namespace Sys2Proof.Machine

/-! ## The frame assembler -/

/-- A line error: the frame in assembly is discarded, the link-error latch set, and the assembler hunts (R194). -/
def Port.lineError (p : Port) : Port := { p with assembler := .hunting, linkError := true }

/-- A frame whose CHECK character has come, by the characters after SYNC: good, or a bad CHECK (R194, R195). -/
def Port.frameEnd (p : Port) (chars : List Byte) : Port :=
  if byteSum chars = 0 then
    match chars with
    | _ :: kind :: tag :: rest => { p with assembler := .hunting }.arrive kind tag (some rest.dropLast)
    | _ => p.lineError
  else p.lineError

/-- Whether a LEN character is above 128 (R194). -/
def oversize (len : Byte) : Bool := 128 < len.toNat

/-- One well-formed character on CMD_RX (R194). -/
def Port.character (p : Port) (c : Byte) : Port :=
  match p.assembler with
  | .hunting => if c = 0xA5 then { p with assembler := .inFrame [] } else p
  | .inFrame [] => if oversize c then p.lineError else { p with assembler := .inFrame [c] }
  | .inFrame (len :: chars) =>
    let all := len :: (chars ++ [c])
    if all.length < len.toNat + 4 then { p with assembler := .inFrame all } else p.frameEnd all

/-- FRAME_RECEIVED (R194, R195): characters arrive on CMD_RX one by one. -/
def execFrameReceived (chars : List Byte) (s : State) : Host.Outcome State Fault Refusal :=
  finish { s with port := chars.foldl Port.character s.port }

/-- INTER_BYTE_TIMEOUT (R194): in a frame a line error. While hunting it has no effect. -/
def execInterByteTimeout (s : State) : Host.Outcome State Fault Refusal :=
  finish (match s.port.assembler with
    | .inFrame _ => { s with port := s.port.lineError }
    | .hunting => s)

/-- Whether a faulty character is a line error (R194): a low line of 24 bit times or more is part of a line break, and a LEN above
128 is one only where LEN is awaited. -/
def Port.isLineError (p : Port) : CharFault → Bool
  | .parity | .framing => true
  | .oversizeLength => p.assembler = .inFrame []
  | .lowLine n => n < 24

/-- CHARACTER_ERROR (R194). -/
def execCharacterError (c : CharFault) (s : State) : Host.Outcome State Fault Refusal :=
  finish (if s.port.isLineError c then { s with port := s.port.lineError } else s)

/-- The untaken requests leave a queue, but for the request in hand, the first of them (R199). -/
def dropUntaken : List Entry → List Entry
  | [] => []
  | e :: es => if e.state = .taken then e :: dropUntaken es else e :: es.filter fun x => x.state = .taken

/-- LINE_BREAK (R199). -/
def execLineBreak (s : State) : Host.Outcome State Fault Refusal :=
  finish { s with port.assembler := .hunting, port.queue := dropUntaken s.port.queue }

/-! ## The transmitter -/

/-- The entry whose reply has been sent is released: the oldest taken one (R193, R196). -/
def releaseEntry : List Entry → List Entry
  | [] => []
  | e :: es => if e.state = .taken then es else e :: releaseEntry es

/-- Whether a reply is RESET_PART's OK (R190). -/
def isResetReply (r : Reply) : Bool := r.kind = replyKind (kindCode .resetPart) ∧ r.result = .ok

/-- The end of a frame's transmission (R197): the next part of a reply follows at once; the last part releases the request's
entry. -/
def Port.frameSent (p : Port) : Port :=
  match p.tx with
  | some (.reply r part) =>
    if part < lastPart r then { p with tx := some (.reply r (part + 1)) }
    else { p with tx := none, queue := if r.overrun then p.queue else releaseEntry p.queue }
  | some (.notice _) => { p with tx := none }
  | none => p

/-- Whether the frame being sent is RESET_PART's OK reply (R190). -/
def Port.sendsReset (p : Port) : Bool :=
  match p.tx with
  | some (.reply r _) => isResetReply r
  | some (.notice _) | none => false

/-- TX_FRAME_END (R197): at the end of RESET_PART's OK reply the warm reset takes place (R190). While the transmitter is idle it
has no effect. -/
def execTxFrameEnd (s : State) : Host.Outcome State Fault Refusal :=
  finish (if s.port.sendsReset then s.warmReset else { s with port := s.port.frameSent })

/-! ## The port's own requests -/

/-- UNKNOWN_KIND (R195, R196): a frame whose KIND is not a request kind is taken by the command port in its turn. A KIND of the
catalogue is no such frame, and the command then has no effect. -/
def execUnknownKind (tag kind : Byte) (s : State) : Host.Outcome State Fault Refusal :=
  finish (if (kindOf kind).isSome then s
    else if s.port.takes kind tag then
      { s with port := (s.port.bring kind tag).answer kind tag .unknownKind .none .none }
    else { s with port := s.port.arrive kind tag none })

/-- The kinds in the warning set, from the highest priority. -/
def Warnings.kinds (w : Warnings) : List WarnKind := allWarnings.filter fun k => (w.entry k).isIn

/-- What STATUS_GET reports (R200). -/
def State.status (s : State) : StatusReport :=
  { power := s.supply.power, supply := s.supply.state, recState := s.recorder.state, slotA := s.recorder.slotA.state,
    slotB := s.recorder.slotB.state, stab := s.stab.state, zoomHoming := s.lens.zoom.homing, zoomMotion := motionOf s.lens.zoom,
    focusHoming := s.lens.focus.homing, focusMotion := motionOf s.lens.focus, rocker := s.controls.rocker.state,
    tokens := s.controls.tokens.length, present := s.tc.present, menu := s.ovl.menu, selfCheck := s.conv.selfCheck,
    warnings := s.ovl.warnings.kinds, linkError := s.port.linkError, noticesLost := s.port.noticesLost,
    requests := s.port.queue.length, notices := s.port.notices.length }

/-- STATUS_GET's decision (R200): the reply clears the two latches. -/
def statusGetOwner (s : State) : Answer :=
  okWith (.status s.status) { s with port.linkError := false, port.noticesLost := false }

/-- STATUS_GET (R200). -/
def execStatusGet (tag : Byte) (s : State) : Host.Outcome State Fault Refusal := request .statusGet tag statusGetOwner s

/-- BEEP's decision (R201). -/
def beepOwner (a : Args Pattern) (s : State) : Answer :=
  withArgs a s fun p =>
    if s.controls.beepEnable = false then refuse .none s
    else if s.controls.beeper.isSome then refuse .inProgress s
    else ok (s.beep p)

/-- BEEP (R201). -/
def execBeep (tag : Byte) (a : Args Pattern) (s : State) : Host.Outcome State Fault Refusal := request .beep tag (beepOwner a) s

end Sys2Proof.Machine
end

