-- ==== Sys2Proof/Machine/Dispatch.lean ====
section
/-! DEFINITION. One arm for each command, each one direct call of its meaning. -/

namespace Sys2Proof.Machine

/-- The effect of a command on everything but the queue of commands that wait. -/
def exec (i : Instr) (s : State) : Host.Outcome State Fault Refusal :=
  match i with
  | .powerOnReset => Sys2Proof.Machine.execPowerOnReset s
  | .warmReset => Sys2Proof.Machine.execWarmReset s
  | .lineBreak => Sys2Proof.Machine.execLineBreak s
  | .frameReceived chars => Sys2Proof.Machine.execFrameReceived chars s
  | .interByteTimeout => Sys2Proof.Machine.execInterByteTimeout s
  | .txFrameEnd => Sys2Proof.Machine.execTxFrameEnd s
  | .unknownKind tag kind => Sys2Proof.Machine.execUnknownKind tag kind s
  | .statusGet tag => Sys2Proof.Machine.execStatusGet tag s
  | .beep tag args => Sys2Proof.Machine.execBeep tag args s
  | .inputConfig tag args => Sys2Proof.Machine.execInputConfig tag args s
  | .keymapSet tag args => Sys2Proof.Machine.execKeymapSet tag args s
  | .keymapGet tag args => Sys2Proof.Machine.execKeymapGet tag args s
  | .rockerSet tag args => Sys2Proof.Machine.execRockerSet tag args s
  | .tokensRead tag => Sys2Proof.Machine.execTokensRead tag s
  | .beeperSet tag args => Sys2Proof.Machine.execBeeperSet tag args s
  | .controlsGet tag => Sys2Proof.Machine.execControlsGet tag s
  | .adcEnable tag args => Sys2Proof.Machine.execAdcEnable tag args s
  | .adcCalibrate tag => Sys2Proof.Machine.execAdcCalibrate tag s
  | .adcGet tag => Sys2Proof.Machine.execAdcGet tag s
  | .lensHome tag args => Sys2Proof.Machine.execLensHome tag args s
  | .lensStop tag args => Sys2Proof.Machine.execLensStop tag args s
  | .zoomGoto tag args => Sys2Proof.Machine.execZoomGoto tag args s
  | .zoomDrive tag args => Sys2Proof.Machine.execZoomDrive tag args s
  | .presetRecall tag args => Sys2Proof.Machine.execPresetRecall tag args s
  | .presetSet tag args => Sys2Proof.Machine.execPresetSet tag args s
  | .focusGoto tag args => Sys2Proof.Machine.execFocusGoto tag args s
  | .focusModeSet tag args => Sys2Proof.Machine.execFocusModeSet tag args s
  | .lensConfig tag args => Sys2Proof.Machine.execLensConfig tag args s
  | .lensGet tag => Sys2Proof.Machine.execLensGet tag s
  | .stabModeSet tag args => Sys2Proof.Machine.execStabModeSet tag args s
  | .stabGainTableSet tag args => Sys2Proof.Machine.execStabGainTableSet tag args s
  | .stabOffsetSet tag args => Sys2Proof.Machine.execStabOffsetSet tag args s
  | .stabGet tag => Sys2Proof.Machine.execStabGet tag s
  | .tcSet tag args => Sys2Proof.Machine.execTcSet tag args s
  | .tcModeSet tag args => Sys2Proof.Machine.execTcModeSet tag args s
  | .userbitsSet tag args => Sys2Proof.Machine.execUserbitsSet tag args s
  | .tcGet tag => Sys2Proof.Machine.execTcGet tag s
  | .recConfig tag args => Sys2Proof.Machine.execRecConfig tag args s
  | .clipNumberSet tag args => Sys2Proof.Machine.execClipNumberSet tag args s
  | .recStart tag => Sys2Proof.Machine.execRecStart tag s
  | .recConfirm tag args => Sys2Proof.Machine.execRecConfirm tag args s
  | .recStop tag => Sys2Proof.Machine.execRecStop tag s
  | .clipClosed tag args => Sys2Proof.Machine.execClipClosed tag args s
  | .cardReport tag args => Sys2Proof.Machine.execCardReport tag args s
  | .mediaUpdate tag args => Sys2Proof.Machine.execMediaUpdate tag args s
  | .mediaFault tag args => Sys2Proof.Machine.execMediaFault tag args s
  | .tallySet tag args => Sys2Proof.Machine.execTallySet tag args s
  | .recGet tag => Sys2Proof.Machine.execRecGet tag s
  | .clipRead tag args => Sys2Proof.Machine.execClipRead tag args s
  | .clipMark tag args => Sys2Proof.Machine.execClipMark tag args s
  | .clipLogClear tag => Sys2Proof.Machine.execClipLogClear tag s
  | .audioConfig tag args => Sys2Proof.Machine.execAudioConfig tag args s
  | .audioGainSet tag args => Sys2Proof.Machine.execAudioGainSet tag args s
  | .audioGet tag => Sys2Proof.Machine.execAudioGet tag s
  | .ovlWrite tag args => Sys2Proof.Machine.execOvlWrite tag args s
  | .ovlFill tag args => Sys2Proof.Machine.execOvlFill tag args s
  | .ovlScroll tag args => Sys2Proof.Machine.execOvlScroll tag args s
  | .ovlClear tag args => Sys2Proof.Machine.execOvlClear tag args s
  | .ovlCursor tag args => Sys2Proof.Machine.execOvlCursor tag args s
  | .ovlPageSelect tag args => Sys2Proof.Machine.execOvlPageSelect tag args s
  | .ovlMenuSet tag args => Sys2Proof.Machine.execOvlMenuSet tag args s
  | .ovlFieldSet tag args => Sys2Proof.Machine.execOvlFieldSet tag args s
  | .ovlGet tag args => Sys2Proof.Machine.execOvlGet tag args s
  | .supplySet tag args => Sys2Proof.Machine.execSupplySet tag args s
  | .supplyGet tag => Sys2Proof.Machine.execSupplyGet tag s
  | .standbyEnter tag args => Sys2Proof.Machine.execStandbyEnter tag args s
  | .standbyExit tag args => Sys2Proof.Machine.execStandbyExit tag args s
  | .shutdown tag args => Sys2Proof.Machine.execShutdown tag args s
  | .resetPart tag args => Sys2Proof.Machine.execResetPart tag args s
  | .scan levels => Sys2Proof.Machine.execScan levels s
  | .longPressTimerExpiry input => Sys2Proof.Machine.execLongPressTimerExpiry input s
  | .encoderTransition encoder a b time => Sys2Proof.Machine.execEncoderTransition encoder a b time s
  | .beepPatternEnd => Sys2Proof.Machine.execBeepPatternEnd s
  | .rockerRequestTimer => Sys2Proof.Machine.execRockerRequestTimer s
  | .supplyRequestTimer => Sys2Proof.Machine.execSupplyRequestTimer s
  | .conversionEnd raw => Sys2Proof.Machine.execConversionEnd raw s
  | .calibrationEnd reference => Sys2Proof.Machine.execCalibrationEnd reference s
  | .controlEvent axis => Sys2Proof.Machine.execControlEvent axis s
  | .stallPauseEnd axis => Sys2Proof.Machine.execStallPauseEnd axis s
  | .stallSuspectExpiry axis => Sys2Proof.Machine.execStallSuspectExpiry axis s
  | .directionGapEnd axis => Sys2Proof.Machine.execDirectionGapEnd axis s
  | .motorEncoderEdge axis line time => Sys2Proof.Machine.execMotorEncoderEdge axis line time s
  | .speedTimeout axis => Sys2Proof.Machine.execSpeedTimeout axis s
  | .seekEnd axis => Sys2Proof.Machine.execSeekEnd axis s
  | .homingTimeout axis => Sys2Proof.Machine.execHomingTimeout axis s
  | .driveTimerExpiry => Sys2Proof.Machine.execDriveTimerExpiry s
  | .overrideWindowExpiry => Sys2Proof.Machine.execOverrideWindowExpiry s
  | .sampleEvent => Sys2Proof.Machine.execSampleEvent s
  | .fsyncEdge => Sys2Proof.Machine.execFsyncEdge s
  | .fsyncWatchExpiry => Sys2Proof.Machine.execFsyncWatchExpiry s
  | .internalFrameTimerExpiry => Sys2Proof.Machine.execInternalFrameTimerExpiry s
  | .rowMessageEnd => Sys2Proof.Machine.execRowMessageEnd s
  | .vfPresentChange level => Sys2Proof.Machine.execVfPresentChange level s
  | .warningExpiry kind => Sys2Proof.Machine.execWarningExpiry kind s
  | .cardLineEdge slot line level => Sys2Proof.Machine.execCardLineEdge slot line level s
  | .cardLineAccepted slot line => Sys2Proof.Machine.execCardLineAccepted slot line s
  | .mountTimeout slot => Sys2Proof.Machine.execMountTimeout slot s
  | .confirmationTimeout => Sys2Proof.Machine.execConfirmationTimeout s
  | .closeTimeout => Sys2Proof.Machine.execCloseTimeout s
  | .accountingEvent => Sys2Proof.Machine.execAccountingEvent s
  | .toggleInhibitExpiry => Sys2Proof.Machine.execToggleInhibitExpiry s
  | .tallyBlinkToggle => Sys2Proof.Machine.execTallyBlinkToggle s
  | .levelEvent => Sys2Proof.Machine.execLevelEvent s
  | .settlingExpiry channel => Sys2Proof.Machine.execSettlingExpiry channel s
  | .shutdownLensStop => Sys2Proof.Machine.execShutdownLensStop s
  | .pwrHoldRelease => Sys2Proof.Machine.execPwrHoldRelease s
  | .characterError cause => Sys2Proof.Machine.execCharacterError cause s

end Sys2Proof.Machine
end

