-- ==== Sys2Proof/Safety.lean ====
section
/-! DEFINITION. What claims are stated with: when the port passes a request, what an answered request leaves in the port, and the
invariants of the part. -/

namespace Sys2Proof.Machine

/-! ## Requests -/

/-- The port passes the request to its owner, and the power state is not SHUTDOWN (R189, R196). -/
abbrev Passed (k : Kind) (tag : Byte) (s : State) : Prop := s.port.takes (kindCode k) tag = true ∧ s.supply.power ≠ .shutdown

/-- The part after a request that leaves its blocks as `u` and is answered: the request in hand is taken, its reply waits behind
those made before it, and the step ends (R196, R197). -/
def answered (k : Kind) (tag : Byte) (result : Result) (reason : Reason) (body : Body) (u : State) : State :=
  settle { u with port := u.port.answer (kindCode k) tag result reason body }

/-- The part with the request brought to the queue of the port, where it did not wait there already (R195). -/
def State.brought (k : Kind) (tag : Byte) (s : State) : State := { s with port := s.port.bring (kindCode k) tag }

/-- The request kind and the TAG that a request command carries; none for an event. -/
def requestOf : Instr → Option (Kind × Byte)
  | .statusGet tag => some (.statusGet, tag)
  | .beep tag _ => some (.beep, tag)
  | .inputConfig tag _ => some (.inputConfig, tag)
  | .keymapSet tag _ => some (.keymapSet, tag)
  | .keymapGet tag _ => some (.keymapGet, tag)
  | .rockerSet tag _ => some (.rockerSet, tag)
  | .tokensRead tag => some (.tokensRead, tag)
  | .beeperSet tag _ => some (.beeperSet, tag)
  | .controlsGet tag => some (.controlsGet, tag)
  | .adcEnable tag _ => some (.adcEnable, tag)
  | .adcCalibrate tag => some (.adcCalibrate, tag)
  | .adcGet tag => some (.adcGet, tag)
  | .lensHome tag _ => some (.lensHome, tag)
  | .lensStop tag _ => some (.lensStop, tag)
  | .zoomGoto tag _ => some (.zoomGoto, tag)
  | .zoomDrive tag _ => some (.zoomDrive, tag)
  | .presetRecall tag _ => some (.presetRecall, tag)
  | .presetSet tag _ => some (.presetSet, tag)
  | .focusGoto tag _ => some (.focusGoto, tag)
  | .focusModeSet tag _ => some (.focusModeSet, tag)
  | .lensConfig tag _ => some (.lensConfig, tag)
  | .lensGet tag => some (.lensGet, tag)
  | .stabModeSet tag _ => some (.stabModeSet, tag)
  | .stabGainTableSet tag _ => some (.stabGainTableSet, tag)
  | .stabOffsetSet tag _ => some (.stabOffsetSet, tag)
  | .stabGet tag => some (.stabGet, tag)
  | .tcSet tag _ => some (.tcSet, tag)
  | .tcModeSet tag _ => some (.tcModeSet, tag)
  | .userbitsSet tag _ => some (.userbitsSet, tag)
  | .tcGet tag => some (.tcGet, tag)
  | .recConfig tag _ => some (.recConfig, tag)
  | .clipNumberSet tag _ => some (.clipNumberSet, tag)
  | .recStart tag => some (.recStart, tag)
  | .recConfirm tag _ => some (.recConfirm, tag)
  | .recStop tag => some (.recStop, tag)
  | .clipClosed tag _ => some (.clipClosed, tag)
  | .cardReport tag _ => some (.cardReport, tag)
  | .mediaUpdate tag _ => some (.mediaUpdate, tag)
  | .mediaFault tag _ => some (.mediaFault, tag)
  | .tallySet tag _ => some (.tallySet, tag)
  | .recGet tag => some (.recGet, tag)
  | .clipRead tag _ => some (.clipRead, tag)
  | .clipMark tag _ => some (.clipMark, tag)
  | .clipLogClear tag => some (.clipLogClear, tag)
  | .audioConfig tag _ => some (.audioConfig, tag)
  | .audioGainSet tag _ => some (.audioGainSet, tag)
  | .audioGet tag => some (.audioGet, tag)
  | .ovlWrite tag _ => some (.ovlWrite, tag)
  | .ovlFill tag _ => some (.ovlFill, tag)
  | .ovlScroll tag _ => some (.ovlScroll, tag)
  | .ovlClear tag _ => some (.ovlClear, tag)
  | .ovlCursor tag _ => some (.ovlCursor, tag)
  | .ovlPageSelect tag _ => some (.ovlPageSelect, tag)
  | .ovlMenuSet tag _ => some (.ovlMenuSet, tag)
  | .ovlFieldSet tag _ => some (.ovlFieldSet, tag)
  | .ovlGet tag _ => some (.ovlGet, tag)
  | .supplySet tag _ => some (.supplySet, tag)
  | .supplyGet tag => some (.supplyGet, tag)
  | .standbyEnter tag _ => some (.standbyEnter, tag)
  | .standbyExit tag _ => some (.standbyExit, tag)
  | .shutdown tag _ => some (.shutdown, tag)
  | .resetPart tag _ => some (.resetPart, tag)
  | .powerOnReset | .warmReset | .lineBreak | .frameReceived _ | .interByteTimeout | .txFrameEnd | .unknownKind _ _
  | .scan _ | .longPressTimerExpiry _ | .encoderTransition _ _ _ _ | .beepPatternEnd | .rockerRequestTimer
  | .supplyRequestTimer | .conversionEnd _ | .calibrationEnd _ | .controlEvent _ | .stallPauseEnd _
  | .stallSuspectExpiry _ | .directionGapEnd _ | .motorEncoderEdge _ _ _ | .speedTimeout _ | .seekEnd _
  | .homingTimeout _ | .driveTimerExpiry | .overrideWindowExpiry | .sampleEvent | .fsyncEdge | .fsyncWatchExpiry
  | .internalFrameTimerExpiry | .rowMessageEnd | .vfPresentChange _ | .warningExpiry _ | .cardLineEdge _ _ _
  | .cardLineAccepted _ _ | .mountTimeout _ | .confirmationTimeout | .closeTimeout | .accountingEvent
  | .toggleInhibitExpiry | .tallyBlinkToggle | .levelEvent | .settlingExpiry _ | .shutdownLensStop | .pwrHoldRelease
  | .characterError _ => none

/-- The frame in hand, if one waits in the queue, has an empty payload. -/
def emptyPayload (s : State) : Bool :=
  match s.port.inHand with
  | some e => e.payload.getD [] = []
  | none => true

/-! ## What a request leaves, in the words of its rule -/

/-- A channel of the audio level unit that takes a configuration at the time `now` (R146, R151, R152, R156, R157): each field that
differs is changed with its effect, and the set gain and the meter stand. -/
def configuredChannel (c : ChannelRec) (a : ChannelConfig) (now : Nat) : ChannelRec :=
  let toAuto : Bool := a.source = .auto ∧ c.source ≠ .auto
  let limiterOff : Bool := a.limiter = false ∧ c.limiter = true
  let settles : Bool := a.input ≠ c.input ∧ (a.input = .mic48 ∨ c.input = .mic48 ∨ c.settling.isSome = true)
  let settling := if settles then some (now + 500000) else c.settling
  let reduction := if toAuto || limiterOff then 0 else c.reduction
  { c with
    input := a.input, source := a.source, limiter := a.limiter, agcMax := a.agcMax, settling := settling, reduction := reduction
    applied := if settling.isSome then 0 else c.setGain - reduction
    attack := if toAuto then 0 else c.attack, quiet := if toAuto then 0 else c.quiet, rise := if toAuto then 0 else c.rise
    release := if toAuto || limiterOff then 0 else c.release, fall := if toAuto || limiterOff then 0 else c.fall }

/-- The host layer of a page becomes `cells`, nothing else of the overlay changes but dirty marks of that page, and a row is dirty
after where it was dirty before or one of its displayed cells changed (R162, R176). -/
def LayerBecomes (o o' : Overlay) (page : Fin 4) (cells : Fin 16 → Fin 40 → Cell) : Prop :=
  o' = { o with pages := o'.pages } ∧ (∀ p, p ≠ page → o'.pages.get p = o.pages.get p) ∧
    (o'.pages.get page).cursor = (o.pages.get page).cursor ∧ (∀ r c, o'.hostCell page r c = cells r c) ∧
    ∀ r, (o'.pages.get page).dirty.get r = true ↔
      ((o.pages.get page).dirty.get r = true ∨ ∃ c, o'.displayedCell page r c ≠ o.displayedCell page r c)

/-- The two slot warnings as R110 tests them in a recorder: CARD_ERROR is in the set exactly while a slot is in ERROR, MEDIA_FULL
exactly while a slot is FULL and none is usable (log entry 26). Every other kind stands. -/
def SlotWarned (r : Recorder) (before after : Warnings) : Prop :=
  after = { before with cardError := after.cardError, mediaFull := after.mediaFull } ∧
    (after.cardError = .placed ∨ after.cardError = .absent) ∧ (after.mediaFull = .placed ∨ after.mediaFull = .absent) ∧
    (after.cardError = .placed ↔ ∃ sl e, (r.slot sl).state = .error e) ∧
    (after.mediaFull = .placed ↔ (∃ sl, (r.slot sl).state = .full) ∧
      ∀ sl, (r.slot sl).state = .ready → (r.slot sl).remaining < 2 * rateOf r.bitrate)

/-- A recorder after a test of the time left at the time `now` that finds it `low` or not (R124, R127): where the media-low flag
changes, the tally blinks from a lit lamp or stays lit. -/
def Recorder.lowTested (r : Recorder) (low : Bool) (now : Nat) : Recorder :=
  if low = r.mediaLow then r
  else { r with
    mediaLow := low, tally := if low then .blink4 else .lit, lampOn := low, blinkTimer := if low then some (now + 125000) else none }

/-- The MEDIA_LOW warning after that test in a recorder whose flag was `flag` (R124). -/
def lowWarned (flag low : Bool) (w : Warned) : Warned := if low = flag then w else if low then .placed else .absent

/-- The over flag of a channel joins the OPEN clip record (R138). -/
def ClipRec.withOver (r : ClipRec) (over1 over2 : Bool) : ClipRec :=
  if r.state = .opened then { r with over1 := r.over1 || over1, over2 := r.over2 || over2 } else r

/-- A channel after the meter and the over test at a level, by the table of R149 and R150. -/
def MeterAt (c m : ChannelRec) (level : Int) : Prop :=
  m = { c with
      level := level, peak := m.peak, hold := m.hold, isOver := decide (-10 ≤ level)
      overFlag := c.overFlag || decide (-10 ≤ level) } ∧
    (c.peak ≤ level → m.peak = level ∧ m.hold = 1000) ∧
    (level < c.peak → 0 < c.hold → m.peak = c.peak ∧ m.hold = c.hold - 1) ∧
    (level < c.peak → c.hold = 0 → m.peak = max level (c.peak - 2) ∧ m.hold = 0)

/-- A channel after the AGC's step from its peak, by the table of R151. -/
def AgcStep (c m : ChannelRec) : Prop :=
  m = { c with attack := m.attack, quiet := m.quiet, rise := m.rise, setGain := m.setGain, applied := m.applied } ∧
    (-120 < c.peak → m.quiet = 0 ∧ m.rise = 0 ∧
      (c.attack = 0 → m.attack = 1 ∧ m.setGain = c.setGain ∧ m.applied = c.applied) ∧
      (1 ≤ c.attack → m.attack = 0 ∧ m.setGain = c.setGain - 1 ∧ m.applied = c.setGain - 1 - c.reduction)) ∧
    (-260 ≤ c.peak → c.peak ≤ -120 →
      m.attack = 0 ∧ m.quiet = 0 ∧ m.rise = 0 ∧ m.setGain = c.setGain ∧ m.applied = c.applied) ∧
    (c.peak < -260 → m.attack = 0 ∧
      (c.quiet < 2000 → m.quiet = c.quiet + 1 ∧ m.rise = c.rise ∧ m.setGain = c.setGain ∧ m.applied = c.applied) ∧
      (2000 ≤ c.quiet → c.rise < 99 →
        m.quiet = c.quiet ∧ m.rise = c.rise + 1 ∧ m.setGain = c.setGain ∧ m.applied = c.applied) ∧
      (2000 ≤ c.quiet → 99 ≤ c.rise → m.quiet = c.quiet ∧ m.rise = 0 ∧
        m.setGain = (if c.setGain < c.agcMax then c.setGain + 1 else c.setGain) ∧ m.applied = m.setGain - c.reduction))

/-- A channel after the limiter's step from its level, by the table of R152. -/
def LimiterStep (c m : ChannelRec) : Prop :=
  m = { c with release := m.release, fall := m.fall, reduction := m.reduction, applied := m.applied } ∧
    (-40 < c.level → m.release = 0 ∧ m.fall = 0 ∧ m.reduction = min 12 (c.reduction + 1) ∧
      m.applied = c.setGain - m.reduction) ∧
    (-80 ≤ c.level → c.level ≤ -40 → m.release = 0 ∧ m.fall = 0 ∧ m.reduction = c.reduction ∧ m.applied = c.applied) ∧
    (c.level < -80 →
      (c.release < 300 → m.release = c.release + 1 ∧ m.fall = c.fall ∧ m.reduction = c.reduction ∧ m.applied = c.applied) ∧
      (300 ≤ c.release → c.fall < 49 →
        m.release = c.release ∧ m.fall = c.fall + 1 ∧ m.reduction = c.reduction ∧ m.applied = c.applied) ∧
      (300 ≤ c.release → 49 ≤ c.fall →
        m.release = c.release ∧ m.fall = 0 ∧ m.reduction = c.reduction - 1 ∧ m.applied = c.setGain - m.reduction))

/-- A channel's work on a result record at a level event (R147 to R152): an INVALID record freezes it; from any other the level, the
meter and the over test, and after these the AGC or the limiter where it is neither settling nor `linked` to the other channel. -/
def ChannelWorked (c m : ChannelRec) (r : ResultRec) (linked : Bool) : Prop :=
  (r.status = .invalid → m = { c with level := -600, peak := -600, hold := 0, isOver := false }) ∧
    (r.status ≠ .invalid → ∃ x, MeterAt c x ((r.value * 600 / 4095 : Nat) - 600) ∧
      (c.settling.isSome = true ∨ linked = true → m = x) ∧
      (c.settling = none → linked = false →
        (c.source = .auto → AgcStep x m) ∧
        (c.source ≠ .auto → c.limiter = true → LimiterStep x m) ∧
        (c.source ≠ .auto → c.limiter = false → m = x)))

/-- The demand of a rocker code, by the four steps of R8. -/
def DemandOf (p : RockerArgs) (code : Nat) (v : Int) : Prop :=
  ∀ (d : Int) (m : Nat), d = (code : Int) - p.centre → m = min 1000 ((d.natAbs - p.deadZone) * 1000 / (p.fullScale - p.deadZone)) →
    (d.natAbs ≤ p.deadZone → v = 0) ∧
    (p.deadZone < d.natAbs → v.natAbs = m * m / 1000 ∧ (0 < d → 0 ≤ v) ∧ (d < 0 → v ≤ 0))

/-- The rocker `k` after a result, `k'` (R8, R9). -/
def RockerTook (k k' : Rocker) (r : ResultRec) : Prop :=
  k'.params = k.params ∧ k'.misses = k.misses ∧
    k'.invalidRun = (if r.status = .invalid then k.invalidRun + 1 else 0) ∧
    k'.railRun = (if r.status = .rail then k.railRun + 1 else 0) ∧
    (r.status = .invalid →
      k'.state = k.state ∧ k'.cleanRun = 0 ∧ k'.demand = if k.invalidRun < 3 then k.demand else 0) ∧
    (r.status = .rail → k'.cleanRun = 0 ∧ (k.railRun < 2 → k'.state = k.state ∧ k'.demand = k.demand) ∧
      (2 ≤ k.railRun → k'.state = .fault ∧ k'.demand = 0)) ∧
    (r.status = .ok → k.state = .ok → k'.state = .ok ∧ k'.cleanRun = k.cleanRun ∧ DemandOf k.params r.value k'.demand) ∧
    (r.status = .ok → k.state = .fault →
      (k.cleanRun < 9 → k'.state = .fault ∧ k'.cleanRun = k.cleanRun + 1 ∧ k'.demand = k.demand) ∧
      (9 ≤ k.cleanRun → k'.state = .ok ∧ k'.cleanRun = 0 ∧ DemandOf k.params r.value k'.demand))

/-- A threshold's flag and run count after a sample of `mV` (R183). -/
def Judged (c c' : Confirm) (threshold mV : Nat) : Prop :=
  (c.flag = false → mV < threshold → c' = if c.run < 19 then ⟨false, c.run + 1⟩ else ⟨true, 0⟩) ∧
    (c.flag = false → threshold ≤ mV → c' = ⟨false, 0⟩) ∧
    (c.flag = true → threshold + 300 ≤ mV → c' = if c.run < 49 then ⟨true, c.run + 1⟩ else ⟨false, 0⟩) ∧
    (c.flag = true → mV < threshold + 300 → c' = ⟨true, 0⟩)

/-- The supply monitor after a sample of two codes that is not discarded, but for the supply state and what follows from its change
(R181, R183). -/
def Sampled (p p' : Supply) (battery dcin : Nat) : Prop :=
  p' = { p with
      battery := battery * 18000 / 4095, dcin := dcin * 18000 / 4095, dcPresent := decide (10000 ≤ dcin * 18000 / 4095)
      effective := if 10000 ≤ dcin * 18000 / 4095 then dcin * 18000 / 4095 else battery * 18000 / 4095
      warn := p'.warn, low := p'.low, cutoff := p'.cutoff } ∧
    Judged p.warn p'.warn p.thresholds.warn p'.effective ∧ Judged p.low p'.low p.thresholds.low p'.effective ∧
    Judged p.cutoff p'.cutoff p.thresholds.cutoff p'.effective

/-- The supply state by the flags: the deepest level whose flag is SET (R184). -/
def Deepest (p : Supply) (st : SupplyState) : Prop :=
  (st = .cutoff ↔ p.cutoff.flag = true) ∧ (st = .low ↔ p.cutoff.flag = false ∧ p.low.flag = true) ∧
    (st = .warn ↔ p.cutoff.flag = false ∧ p.low.flag = false ∧ p.warn.flag = true)

/-- What a frame event does to the overlay (R177): where one of the four conditions fails, nothing; where they hold, a batch of the
lowest dirty rows of the displayed page begins, at most four, of which the first leaves the set and is sent. -/
def BatchStarts (o o' : Overlay) : Prop :=
  (o.power ≠ .run ∨ o.vfPresent = false ∨ o.batch ≠ none ∨ (∀ r, (o.pages.get o.displayed).dirty.get r = false) → o' = o) ∧
    (o.power = .run → o.vfPresent = true → o.batch = none → (∃ r, (o.pages.get o.displayed).dirty.get r = true) →
      ∃ (first : Fin 16) (rest : List (Fin 16)), rest.length ≤ 3 ∧ (first :: rest).Pairwise (· < ·) ∧
        (∀ r ∈ first :: rest, (o.pages.get o.displayed).dirty.get r = true) ∧
        (∀ r, (o.pages.get o.displayed).dirty.get r = true → r ∉ first :: rest →
          rest.length = 3 ∧ ∀ x ∈ first :: rest, x < r) ∧
        o' = { o with
          batch := some ⟨rowMessage o.displayed first (o.displayedRow o.displayed first) (o.pages.get o.displayed).cursor, rest⟩
          pages := o.pages.set o.displayed { o.pages.get o.displayed with
            dirty := (o.pages.get o.displayed).dirty.set first false } })

/-- What a frame event leaves (R86, R88, R94, R137, R177): the label moved on, the day-roll flag of an OPEN record set where the label
passes midnight, the live fields rendered, and a batch of rows begun where one can. -/
def FrameEvent (s t : State) : Prop :=
  ∃ u o, u = publish { s with
      tc := s.tc.advance
      log := if (s.tc.runMode = .freeRun ∨ s.tc.recState = .recording) ∧ 23 ≤ s.tc.label.hours ∧ 59 ≤ s.tc.label.minutes ∧
          59 ≤ s.tc.label.seconds ∧ countedRate s.tc.rate ≤ s.tc.label.frames + 1
        then { s.log with records := s.log.records.map fun r => if r.state = .opened then { r with dayRoll := true } else r }
        else s.log } ∧
    BatchStarts u.ovl o ∧ t = { u with ovl := o }

/-- Rows join the dirty-row set of a page; nothing else of the overlay changes (R176). -/
def MarksRows (o o' : Overlay) (page : Fin 4) (rows : Fin 16 → Bool) : Prop :=
  o' = { o with pages := o'.pages } ∧ (∀ p, p ≠ page → o'.pages.get p = o.pages.get p) ∧
    (o'.pages.get page).cells = (o.pages.get page).cells ∧ (o'.pages.get page).cursor = (o.pages.get page).cursor ∧
    ∀ r, (o'.pages.get page).dirty.get r = ((o.pages.get page).dirty.get r || rows r)

/-! ## What a press, a detent and a panel action do, in the words of their rules -/

/-- The beeper after a beep request at the time `now` (R21). -/
def Controls.beeped (c : Controls) (p : Pattern) (now : Nat) : Option Sounding :=
  if c.beepEnable = true ∧ c.beeper = none then some ⟨p, now + patternTime p⟩ else c.beeper

/-- The part after a REJECT beep request and nothing else (R15, R21). -/
def rejected (s : State) : State := { s with controls.beeper := s.controls.beeped .reject s.clock }

/-- A token is made (R18): it joins the queue, with TOKENS_READY on an empty one, or is discarded where the queue holds 16. -/
def TokenMade (w : BitVec 16) (s t : State) : Prop :=
  (s.controls.tokens.length < 16 → t = { s with
    controls.tokens := s.controls.tokens ++ [w]
    port := if s.controls.tokens = [] then s.port.post .tokensReady else s.port }) ∧
  (16 ≤ s.controls.tokens.length → t = { rejected s with ovl.warnings.tokensFull := .timed (s.clock + 2000000) })

/-- A token is made where `made` says so. -/
def TokenMadeIf (made : Prop) (w : BitVec 16) (s t : State) : Prop := (made → TokenMade w s t) ∧ (¬made → t = s)

/-- The layer in which an accepted press resolves (R12); a press that the lock holds off resolves in none. -/
def ResolvesIn (s : State) (i : Fin 24) (layer : Layer) : Prop :=
  (s.controls.lock = true ∧ layer = .plain ∧ ((s.controls.keymap.plain.get i).action = .recToggle ∨
      (s.controls.keymap.plain.get i).action = .lock ∨ (s.controls.keymap.plain.get i).action = .power)) ∨
    (s.controls.lock = false ∧ s.ovl.menu = true ∧ layer = .menu) ∨
    (s.controls.lock = false ∧ s.ovl.menu = false ∧ (∃ j, s.controls.assign.get j = true) ∧ layer = .assign) ∨
    (s.controls.lock = false ∧ s.ovl.menu = false ∧ (∀ j, s.controls.assign.get j = false) ∧ layer = .plain)

/-- An axis whose hold ends: no owner, no move and no target; a stall pause ends with it (R45, R52; log entry 19). -/
def unheld (a : AxisRec) : AxisRec :=
  { a with owner := .none, move := none, target := none, gotoSpeed := none, driveSpeed := 0, pause := none }

/-- The port after the MOTION_DONE of the end of an axis's hold (R52); without a hold that posts one, the port itself. -/
def heldEnds (p : Port) (ax : Axis) (o : MotionOutcome) (a : AxisRec) : Port :=
  match a.owner with
  | .operator | .preset | .remote => p.post (.motionDone ax o a.owner a.position)
  | .none | .homing => p

/-- A panel recall of a preset (R58). -/
def RecallTaken (n : Fin 8) (s t : State) : Prop :=
  (s.lens.zoom.homing ≠ .homed ∨ s.lens.zoom.fault = true ∨ s.lens.zoom.owner = .homing ∨ s.lens.zoom.owner = .operator →
    t = rejected s) ∧
  (s.lens.zoom.homing = .homed → s.lens.zoom.fault = false →
    s.lens.zoom.owner = .none ∨ s.lens.zoom.owner = .preset ∨ s.lens.zoom.owner = .remote → t = { s with
      lens.zoom := { unheld s.lens.zoom with
        owner := .preset, move := some .goto, target := some (clampInt 0 s.lens.zoom.span (s.lens.presets.get n))
        gotoSpeed := some (min s.lens.presetSpeed s.lens.zoomVmax) }
      lens.driveTimer := none
      port := heldEnds s.port .zoom .preempted s.lens.zoom })

/-- A panel store of a preset (R57). -/
def StoreTaken (n : Fin 8) (s t : State) : Prop :=
  (s.lens.zoom.homing ≠ .homed ∨ s.lens.zoom.owner = .homing → t = rejected s) ∧
  (s.lens.zoom.homing = .homed → s.lens.zoom.owner ≠ .homing → t = { s with
    lens.presets := s.lens.presets.set n (clampInt 0 s.lens.zoom.span s.lens.zoom.position)
    controls.beeper := s.controls.beeped .short s.clock })

/-- The focus mode inverted from the panel (R59). -/
def FocusModeToggled (s t : State) : Prop :=
  (s.lens.mode = .manual → t = { s with lens.mode := .auto, lens.override := none }) ∧
  (s.lens.mode = .auto → s.lens.focus.owner ≠ .remote → t = { s with lens.mode := .manual, lens.override := none }) ∧
  (s.lens.mode = .auto → s.lens.focus.owner = .remote → t = { s with
    lens.mode := .manual, lens.override := none, lens.focus := unheld s.lens.focus
    port := heldEnds s.port .focus .preempted s.lens.focus })

/-- A detent of the focus ring, up or down (R60). -/
def RingTaken (up : Bool) (s t : State) : Prop :=
  ∃ (step target : Int) (r : State), r = { s with lens.detents := s.clock :: s.lens.detents.take 1 } ∧
    ((∃ a b, s.lens.detents = [a, b] ∧ s.clock ≤ a + 10000 ∧ s.clock ≤ b + 10000) → step.natAbs = 32) ∧
    (¬(∃ a b, s.lens.detents = [a, b] ∧ s.clock ≤ a + 10000 ∧ s.clock ≤ b + 10000) → step.natAbs = 8) ∧
    (up = true ↔ 0 < step) ∧
    target = (if s.lens.focus.owner = .operator then s.lens.focus.target.getD s.lens.focus.position else s.lens.focus.position) + step ∧
    (s.lens.focus.fault = true ∨ s.lens.focus.owner = .homing → t = r) ∧
    (s.lens.focus.fault = false → s.lens.focus.owner ≠ .homing → t = { r with
      lens.focus := { (if s.lens.focus.owner = .operator then s.lens.focus else unheld s.lens.focus) with
        owner := .operator, move := some .goto, gotoSpeed := some 12000
        target := some (if s.lens.focus.homing = .homed then clampInt 0 s.lens.focus.span target else target) }
      lens.override := if s.lens.mode = .auto then some (s.clock + 2000000) else s.lens.override
      port := if s.lens.focus.owner = .operator then s.port else heldEnds s.port .focus .preempted s.lens.focus })

/-- A channel of the audio level unit changes; while the link is ON a change of CH1 is copied to CH2 (R146, R155). -/
def channelSet (ch : Channel) (c : ChannelRec) (t : Audio) : Audio :=
  match ch with
  | .ch1 => { t with
      ch1 := c
      ch2 := if t.link then { t.ch2 with
          source := c.source, setGain := c.setGain, reduction := c.reduction
          applied := if t.ch2.settling.isSome then 0 else c.setGain - c.reduction } else t.ch2 }
  | .ch2 => { t with ch2 := c }

/-- A detent of an audio knob (R153; a detent at a gain limit of a channel in AUTO or HOST: log entry 28). -/
def KnobTaken (ch : Channel) (up : Bool) (s t : State) : Prop :=
  ((ch = .ch2 ∧ s.audio.link = true) ∨ s.audio.power ≠ .run → t = rejected s) ∧
  (ch = .ch1 ∨ s.audio.link = false → s.audio.power = .run → ∀ gain,
    gain = (if up then min 63 ((s.audio.channel ch).setGain + 1) else (s.audio.channel ch).setGain - 1) → t = { s with
      audio := channelSet ch { s.audio.channel ch with
        source := .panel, setGain := gain
        applied := if (s.audio.channel ch).settling.isSome then 0 else gain - (s.audio.channel ch).reduction } s.audio
      port := if (s.audio.channel ch).source = .panel then s.port else s.port.post (.audioSource ch .panel gain) })

/-- AUDIO_AUTO from the panel toggles the gain source of a channel (R151, R152, R154). -/
def AudioToggled (ch : Channel) (s t : State) : Prop :=
  (ch = .ch2 ∧ s.audio.link = true → t = rejected s) ∧
  (ch = .ch1 ∨ s.audio.link = false →
    ((s.audio.channel ch).source = .auto → t = { s with
      audio := channelSet ch { s.audio.channel ch with
        source := .panel
        applied := if (s.audio.channel ch).settling.isSome then 0
          else (s.audio.channel ch).setGain - (s.audio.channel ch).reduction } s.audio
      port := s.port.post (.audioSource ch .panel (s.audio.channel ch).setGain) }) ∧
    ((s.audio.channel ch).source ≠ .auto → t = { s with
      audio := channelSet ch { s.audio.channel ch with
        source := .auto, reduction := 0, attack := 0, quiet := 0, rise := 0, release := 0, fall := 0
        applied := if (s.audio.channel ch).settling.isSome then 0 else (s.audio.channel ch).setGain } s.audio
      port := s.port.post (.audioSource ch .auto (s.audio.channel ch).setGain) }))

/-- The menu mode inverted from the panel, with MENU_STATE (R174 to R177). -/
def MenuToggled (s t : State) : Prop :=
  (s.ovl.menu = false → ∃ o, t = { s with ovl := o, port := s.port.post (.menuState true) } ∧
    MarksRows { s.ovl with
        menu := true, saved := some s.ovl.displayed, displayed := 3
        batch := if s.ovl.displayed = 3 then s.ovl.batch else s.ovl.batch.map fun b => { b with waiting := [] } } o 3
      fun _ => decide (s.ovl.displayed ≠ 3)) ∧
  (∀ page, s.ovl.menu = true → s.ovl.displayed = 3 → s.ovl.saved = some page → ∃ o,
    t = { s with ovl := o, port := s.port.post (.menuState false) } ∧
    MarksRows { s.ovl with
        menu := false, saved := none, displayed := page
        batch := if page = 3 then s.ovl.batch else s.ovl.batch.map fun b => { b with waiting := [] } } o page
      fun _ => decide (page ≠ 3))

/-! ## The stabiliser, in the words of its rules -/

/-- A stabiliser axis out of ACTIVE: the coil centred, the offset and the last gyro value kept (R68; the last T_raw: log entry 24). -/
def centredAxis (x : GyroAxis) : GyroAxis :=
  { x with acc := 0, rem := 0, traw := 0, target := 0, duty := 512, satRun := 0, learnRun := 0 }

/-- A stabiliser that leaves ACTIVE for a state (R68). -/
def leftActive (t : Stabiliser) (st : StabState) : Stabiliser :=
  { t with
    state := st, yaw := centredAxis t.yaw, pitch := centredAxis t.pitch, panExit := 0, railRun := 0, missedRun := 0 }

/-- All the conditions for ACTIVE but the setting hold (R67). -/
def Conditions.allHold (c : Conditions) : Prop :=
  c.run = true ∧ c.zoomHomed = true ∧ c.gyroEnabled = true ∧ c.gyroValid = true

/-- The blocking set of the conditions (R67). -/
def blockedBy (c : Conditions) : Blocking := ⟨!c.run, !c.zoomHomed, !c.gyroEnabled, !c.gyroValid⟩

/-- The stabiliser takes a setting and its copies of the conditions, and its state follows from them (R66 to R68, R70): in FAULT
none; ACTIVE keeps its sub-state; every change of state posts STAB_STATE. -/
def StabFollows (on : Bool) (c : Conditions) (s t : State) : Prop :=
  ∃ v : State, v = { s with stab.setting := on, stab.cond := c } ∧
    (∀ r, s.stab.state = .fault r → t = v) ∧
    ((∀ r, s.stab.state ≠ .fault r) →
      (on = true → c.allHold →
        (∀ sub, s.stab.state = .active sub → t = v) ∧
        ((∀ sub, s.stab.state ≠ .active sub) → t = { v with
          stab.state := .active .normal, port := s.port.post (.stabState (.active .normal) none) })) ∧
      (∀ (st : StabState) (b : Option Blocking), (on = true ∧ ¬c.allHold ∧ st = .standby ∧ b = some (blockedBy c)) ∨
          (on = false ∧ st = .off ∧ b = none) →
        (s.stab.state = st → t = v) ∧
        (∀ sub, s.stab.state = .active sub → t = { v with stab := leftActive v.stab st, port := s.port.post (.stabState st b) }) ∧
        (s.stab.state ≠ st → (∀ sub, s.stab.state ≠ .active sub) → t = { v with
          stab.state := st, port := s.port.post (.stabState st b) })))

/-- A setting is given to the stabiliser (R66, R69, R80): ON ends a FAULT, with STAB_FAULT out of the warning set. -/
def StabSettingTaken (on : Bool) (s t : State) : Prop :=
  ((∀ r, s.stab.state ≠ .fault r) → StabFollows on s.stab.cond s t) ∧
  (∀ r, s.stab.state = .fault r →
    (on = false → t = { s with stab.setting := false }) ∧
    (on = true → s.stab.cond.allHold → t = { s with
      stab.setting := true, stab.state := .active .normal, ovl.warnings.stabFault := .absent
      port := s.port.post (.stabState (.active .normal) none) }) ∧
    (on = true → ¬s.stab.cond.allHold → t = { s with
      stab.setting := true, stab.state := .standby, ovl.warnings.stabFault := .absent
      port := s.port.post (.stabState .standby (some (blockedBy s.stab.cond))) }))

/-- The gain of a sample (R76): interpolated over the gain table by the zoom position clamped to 0..span. -/
def GainOf (g : Vector Nat 17) (position span gain : Int) : Prop :=
  0 < span → ∀ zoom : Int, zoom = max 0 (min span position) →
    (zoom = span → gain = g.get 16) ∧
    ∀ (i : Fin 16) (f : Int), 16 * zoom = i.val * span + f → 0 ≤ f → f < span →
      gain = (g.get i.castSucc : Int) + (((g.get i.succ : Int) - g.get i.castSucc) * f).tdiv span

/-- A stabiliser axis after the computation of a sample with a record and a gain, in a sub-state (R71, R74, R75, R77). -/
def AxisComputed (sub : SubState) (gain : Int) (r : ResultRec) (x x' : GyroAxis) : Prop :=
  x' = { x with
      value := r.value, status := r.status, acc := x'.acc, traw := x'.traw, target := x'.target, duty := x'.duty
      satRun := x'.satRun } ∧
    x'.acc = max (-8388608) (min 8388608
      (x.acc + (16 * (r.value : Int) - x.z) - x.acc.tdiv (match sub with | .normal => 1024 | .pan => 64))) ∧
    x'.traw = -((x'.acc * gain).tdiv 1048576) ∧ x'.target = max (-2000) (min 2000 x'.traw) ∧
    x'.duty = 512 + x'.target.tdiv 4 ∧
    (x'.traw.natAbs ≤ 2000 → x'.satRun = 0) ∧
    (2000 < x'.traw.natAbs → x'.satRun = match sub with | .normal => x.satRun + 1 | .pan => 0)

/-- A stabiliser axis after a step of offset learning at a rate (R79). -/
def AxisLearned (r : Int) (x x' : GyroAxis) : Prop :=
  (64 ≤ r.natAbs → x' = { x with learnRun := 0, rem := 0 }) ∧
    (r.natAbs < 64 → x.learnRun < 500 → x' = { x with learnRun := x.learnRun + 1 }) ∧
    (r.natAbs < 64 → 500 ≤ x.learnRun → x' = { x with
      z := max 16384 (min 49152 (x.z + (x.rem + r).tdiv 256)), rem := x.rem + r - 256 * (x.rem + r).tdiv 256 })

/-- The pan test and the learning after both axes are computed as `y` and `p`, at the rates of this event (R70, R78, R79); `s` is
the part with all else of the event's sample done, `sub` the sub-state at its start. -/
def PanTestedAndLearned (sub : SubState) (ry rp : Int) (y p : GyroAxis) (s t : State) : Prop :=
  ∃ (y' p' : GyroAxis) (exit : Nat), AxisLearned ry y y' ∧ AxisLearned rp p p' ∧
    exit = (if ry.natAbs < 400 ∧ rp.natAbs < 400 then s.stab.panExit + 1 else 0) ∧
    (sub = .normal → 40 ≤ y.satRun ∨ 40 ≤ p.satRun → t = { s with
      stab.state := .active .pan, stab.panExit := 0
      stab.yaw := { y with satRun := 0, learnRun := 0, rem := 0 }, stab.pitch := { p with satRun := 0, learnRun := 0, rem := 0 }
      port := s.port.post (.stabState (.active .pan) none) }) ∧
    (sub = .normal → y.satRun < 40 → p.satRun < 40 → t = { s with stab.yaw := y', stab.pitch := p' }) ∧
    (sub = .pan → 200 ≤ exit → t = { s with
      stab.state := .active .normal, stab.panExit := 0, stab.yaw := y', stab.pitch := p'
      port := s.port.post (.stabState (.active .normal) none) }) ∧
    (sub = .pan → exit < 200 → t = { s with stab.panExit := exit, stab.yaw := y, stab.pitch := p })

/-! ## Starts, stops and slots, in the words of their rules -/

/-- A start with a start set and a current slot (R112, R114, R127). -/
def startAccepted (set : SlotSet) (cur : Slot) (s : State) : State :=
  { s with
    recorder := { s.recorder with
      state := .starting, startSet := set, clip := some s.recorder.nextClip, current := cur
      confirmTimer := some (s.clock + 500000), tally := .blink2, lampOn := true, blinkTimer := some (s.clock + 250000) }
    tc.recState := .starting, supply.recState := .starting
    port := s.port.post (.recBegin s.recorder.nextClip set) }

/-- The start of clip `n` fails (R117). -/
def startFailed (n : Nat) (reason : FailReason) (s : State) : State :=
  { s with
    recorder := { s.recorder with
      state := .standby, confirmTimer := none, startSet := ⟨false, false⟩, clip := none, tally := .off, lampOn := false
      blinkTimer := none }
    tc.recState := .standby, supply.recState := .standby, ovl.warnings.recFailed := .timed (s.clock + 3000000)
    controls.beeper := s.controls.beeped .reject s.clock
    port := s.port.post (.recFailed n reason) }

/-- The recording of clip `n` stops (R119). -/
def stopMade (n : Nat) (reason : EndReason) (s : State) : State :=
  { s with
    recorder := { s.recorder with
      state := .stopping, accountTimer := none, mediaLow := false, endLabel := some s.tc.stamp
      closeTimer := some (s.clock + 3000000), tally := .off, lampOn := false, blinkTimer := none }
    tc.recState := .stopping, supply.recState := .stopping, ovl.warnings.mediaLow := .absent
    controls.beeper := s.controls.beeped .double s.clock
    port := s.port.post (.recEnd n reason s.tc.stamp) }

/-- The start set that a start forms, with the slot that is the current one then (R113). -/
def StartSetFormed (r : Recorder) (set : SlotSet) (cur : Slot) : Prop :=
  (r.mode ≠ .simul ∧ r.usable r.current = true ∧ set = SlotSet.only r.current ∧ cur = r.current) ∨
    (r.mode = .relay ∧ r.usable r.current = false ∧ r.usable (otherSlot r.current) = true ∧
      set = SlotSet.only (otherSlot r.current) ∧ cur = otherSlot r.current) ∨
    (r.mode = .simul ∧ (r.usable .a = true ∨ r.usable .b = true) ∧ set = ⟨r.usable .a, r.usable .b⟩ ∧ cur = r.current)

/-- No start set can be formed (R113): in SINGLE the current slot is not usable, in RELAY and SIMUL neither is. -/
def NoStartSet (r : Recorder) : Prop :=
  (r.mode = .single ∧ r.usable r.current = false) ∨ (r.usable .a = false ∧ r.usable .b = false)

/-- REC_TOGGLE from the panel in RUN (R113, R118). -/
def ToggleTaken (s t : State) : Prop :=
  (s.recorder.inhibit.isSome = true → t = s) ∧
  (s.recorder.inhibit = none →
    (s.recorder.state = .starting ∨ s.recorder.state = .stopping → t = rejected s) ∧
    (∀ n, s.recorder.state = .recording → s.recorder.clip = some n →
      t = { stopMade n .operator s with recorder.inhibit := some (s.clock + 300000) }) ∧
    (s.recorder.state = .standby → s.recorder.power = .run →
      (s.recorder.supplyState = .low ∨ s.recorder.supplyState = .cutoff ∨ NoStartSet s.recorder →
        t = { rejected s with ovl.warnings.recFailed := .timed (s.clock + 3000000) }) ∧
      (s.recorder.supplyState = .normal ∨ s.recorder.supplyState = .warn → ∀ set cur, StartSetFormed s.recorder set cur →
        t = { startAccepted set cur s with recorder.inhibit := some (s.clock + 300000) })))

/-- MARK from the panel (R139). -/
def MarkTaken (s t : State) : Prop :=
  (s.recorder.state ≠ .recording → t = rejected s) ∧
  (∀ r, s.recorder.state = .recording → s.log.openRec = some r →
    (8 ≤ r.marks.length → t = rejected s) ∧
    (r.marks.length < 8 → t = { s with
      log.records := s.log.records.map fun x => if x.state = .opened then { x with marks := x.marks ++ [s.tc.stamp] } else x
      port := s.port.post (.clipChanged r.number (.mark (r.marks.length + 1) s.tc.stamp)) }))

/-- GOOD_SHOT from the panel (R140). -/
def GoodShotTaken (s t : State) : Prop :=
  (s.recorder.state ≠ .standby ∨ s.log.records = [] → t = rejected s) ∧
  (∀ r rest, s.recorder.state = .standby → s.log.records = r :: rest → t = { s with
    log.records := { r with goodShot := !r.goodShot } :: rest
    port := s.port.post (.clipChanged r.number (.goodShot (!r.goodShot))) })

/-- The time left T of a recording (R124); open where no slot is ACTIVE (log entry 6). -/
def TimeLeftIs (r : Recorder) (log : ClipLog) (left : Nat) : Prop :=
  (r.slotA.state = .active → r.slotB.state = .active → left = max r.slotA.remaining r.slotB.remaining) ∧
    ∀ sl, (r.slot sl).state = .active → (r.slot (otherSlot sl)).state ≠ .active →
      (r.mode = .relay → (r.slot (otherSlot sl)).state = .ready → 30 * rateOf r.bitrate < (r.slot (otherSlot sl)).remaining →
        log.openSegments < 4 →
        left = ((r.slot sl).remaining - 30 * rateOf r.bitrate) + (r.slot (otherSlot sl)).remaining) ∧
      (r.mode ≠ .relay ∨ (r.slot (otherSlot sl)).state ≠ .ready ∨
        (r.slot (otherSlot sl)).remaining ≤ 30 * rateOf r.bitrate ∨ 4 ≤ log.openSegments → left = (r.slot sl).remaining)

/-- The tests at a change of a slot (R110, R124): the two slot warnings, and in RECORDING the time left. -/
def SlotsTested (s t : State) : Prop :=
  ∃ w, (s.recorder.state ≠ .recording → t = { s with ovl.warnings := w } ∧ SlotWarned s.recorder s.ovl.warnings w) ∧
    (s.recorder.state = .recording → ∃ left low, TimeLeftIs s.recorder s.log left ∧
      low = decide (left ≤ 60 * rateOf s.recorder.bitrate) ∧
      t = { s with recorder := s.recorder.lowTested low s.clock, ovl.warnings := w } ∧
      SlotWarned s.recorder { s.ovl.warnings with
        mediaLow := lowWarned s.recorder.mediaLow low s.ovl.warnings.mediaLow } w)

/-- In STARTING a slot that stops being usable leaves the start set; in RELAY an empty one passes to the other slot if that is
usable; left empty it fails the start (R116). -/
def StartReformed (reason : FailReason) (s t : State) : Prop :=
  (s.recorder.state ≠ .starting → t = s) ∧
    (∀ (n : Nat) (left : SlotSet), s.recorder.state = .starting → s.recorder.clip = some n →
      left = ⟨s.recorder.startSet.a && s.recorder.usable .a, s.recorder.startSet.b && s.recorder.usable .b⟩ →
      (left ≠ ⟨false, false⟩ → t = { s with recorder.startSet := left }) ∧
      (left = ⟨false, false⟩ → s.recorder.mode = .relay → s.recorder.usable (otherSlot s.recorder.current) = true → t = { s with
        recorder.startSet := SlotSet.only (otherSlot s.recorder.current), recorder.current := otherSlot s.recorder.current }) ∧
      (left = ⟨false, false⟩ → s.recorder.mode ≠ .relay ∨ s.recorder.usable (otherSlot s.recorder.current) = false →
        t = startFailed n reason s))

/-- An ACTIVE slot is lost, in the part `s` in which it is not ACTIVE any more (R125): its segment ends with an outcome, and a
recording with no ACTIVE slot left stops. -/
def SlotLost (sl : Slot) (outcome : SegOutcome) (reason : EndReason) (s t : State) : Prop :=
  ∃ v : State, v = { s with log.records := s.log.records.map fun c => if c.state = .opened then
      { c with segments := c.segments.map fun g =>
          if g.slot = sl ∧ g.outcome = .inProgress then { g with outcome := outcome } else g } else c } ∧
    (s.recorder.state ≠ .recording ∨ s.recorder.slotA.state = .active ∨ s.recorder.slotB.state = .active → t = v) ∧
    (∀ n, s.recorder.state = .recording → s.recorder.clip = some n → s.recorder.slotA.state ≠ .active →
      s.recorder.slotB.state ≠ .active → t = stopMade n reason v)

/-! ## A press taken in full -/

/-- The FLUSH action (R20). -/
def flushed (s : State) : State :=
  { s with controls.tokens := [0], port := if s.controls.tokens = [] then s.port.post .tokensReady else s.port }

/-- The action of a held record at its press, in RUN (R15, R16, R20). -/
def PressActed (h : Held) (s t : State) : Prop :=
  match h.entry.action with
  | .none | .token | .assign | .lock | .power => t = s
  | .recToggle => ToggleTaken s t
  | .mark => MarkTaken s t
  | .goodShot => GoodShotTaken s t
  | .stabToggle => StabSettingTaken (!s.stab.setting) s t
  | .focusModeToggle => FocusModeToggled s t
  | .preset n => (h.kind = .latching → RecallTaken n s t) ∧ (h.kind = .momentary → t = s)
  | .audioAuto ch => AudioToggled ch s t
  | .menuToggle => MenuToggled s t
  | .flush => t = flushed s

/-- A held record made silent, its long-press timer cancelled (R4, R5). -/
def silencedHeld (h : Held) : Held :=
  { h with silent := true, timer := none, long := match h.long with
      | .fired => .fired
      | .idle | .running => .idle }

/-- A shutdown begins in RUN or STANDBY (R188, step 1): the scanner's records are made silent and its demand is 0 (R4, R10), the
stabiliser leaves ACTIVE (R67), in STANDBY a difference of the reference is reported (R93), a start fails and a recording stops (R126),
the rows of a batch that wait are dropped (R177), and POWER_DOWN is posted. The order of the blocks: log entry 13. -/
def ShutdownBegun (r : ShutdownReason) (s t : State) : Prop :=
  ∃ a b c d : State,
    a = { s with
      supply.power := .shutdown, supply.exit := none, supply.shutdown := some ⟨r, .waiting⟩
      controls.switches := .ofFn fun i => { s.controls.switches.get i with
        polls := 0, held := (s.controls.switches.get i).held.map silencedHeld }
      controls.rocker := { s.controls.rocker with demand := 0, invalidRun := 0, railRun := 0, cleanRun := 0 }
      lens.demand := if s.controls.rocker.demand = 0 then s.lens.demand else 0
      lens.blocked := if s.controls.rocker.demand = 0 then s.lens.blocked else false } ∧
    StabFollows s.stab.setting { s.stab.cond with run := false, gyroValid := false } a b ∧
    c = (if s.supply.power = .standby ∧ s.tc.present ≠ s.tc.reported then { b with
        tc.reported := s.tc.present, ovl.warnings.fsyncLost := if s.tc.present then .absent else .placed
        port := b.port.post (.fsyncState s.tc.present s.tc.stamp) } else b) ∧
    (∀ n, s.recorder.state = .starting → s.recorder.clip = some n →
      d = startFailed n .shutdown { c with recorder.power := .shutdown }) ∧
    (∀ n, s.recorder.state = .recording → s.recorder.clip = some n →
      d = stopMade n .shutdown { c with recorder.power := .shutdown }) ∧
    (s.recorder.state = .standby ∨ s.recorder.state = .stopping → d = { c with recorder.power := .shutdown }) ∧
    t = { d with
      audio.power := .shutdown, ovl.power := .shutdown, ovl.batch := d.ovl.batch.map fun b => { b with waiting := [] }
      port := d.port.post (.powerDown r) }

/-- The action of a held record at its release, and of one that is silent (R14 to R16). -/
def ReleaseActed (h : Held) (s t : State) : Prop :=
  (h.lockedOut = true → t = s) ∧
  (h.lockedOut = false →
    (h.entry.action = .power → h.kind = .latching → ShutdownBegun .operator s t) ∧
    (∀ n, h.silent = false → h.entry.action = .preset n → h.kind = .momentary → h.long = .running → RecallTaken n s t) ∧
    ((h.entry.action ≠ .power ∨ h.kind = .momentary) →
      (h.silent = true ∨ (∀ n, h.entry.action ≠ .preset n) ∨ h.kind = .latching ∨ h.long ≠ .running) → t = s))

/-- The modifiers at a press with a record (R13). -/
def Controls.withPress (c : Controls) (i : Fin 24) (h : Held) : Controls :=
  { c with
    lock := if h.entry.action = .lock then decide (h.kind = .latching) || !c.lock else c.lock
    assign := if h.entry.action = .assign then c.assign.set i true else c.assign }

/-- The modifiers at a release with a record, or where the record is discarded (R13). -/
def Controls.withRelease (c : Controls) (i : Fin 24) (h : Held) : Controls :=
  { c with
    lock := if h.lockedOut = false ∧ h.entry.action = .lock ∧ h.kind = .latching then false else c.lock
    assign := if h.lockedOut = false ∧ h.entry.action = .assign then c.assign.set i false else c.assign }

/-- The modifiers where an input's held record, if it has one, is discarded (R3, R5, R13). -/
def Controls.withoutHeld (c : Controls) (i : Fin 24) (held : Option Held) : Controls :=
  match held with
  | some h => c.withRelease i h
  | none => c

/-- A calibration is called for (R31 to R33): an IDLE converter begins it, and an ADC_CALIBRATE accepted in hand is answered OK; a
converting one owes it, and a running one serves. -/
def CalibrationCalled (s t : State) : Prop :=
  (s.conv.activity = .idle → ∃ p : Port,
    t = { s with conv.activity := .calibrating (s.clock + 2000), conv.owed := false, port := p } ∧
    (∀ e, s.port.inHand = some e → e.state = .accepted → p = s.port.answer e.kind e.tag .ok .none .none) ∧
    ((∀ e, s.port.inHand = some e → e.state ≠ .accepted) → p = s.port)) ∧
  (∀ v, s.conv.activity = .converting v → t = { s with conv.owed := true }) ∧
  (∀ e, s.conv.activity = .calibrating e → t = s)

/-- A wake of an input in STANDBY (R187): the exit begins with its calibration, where none is under way. -/
def WakeTaken (i : Fin 24) (s t : State) : Prop :=
  (s.supply.exit.isSome = true → t = s) ∧
    (s.supply.exit = none →
      CalibrationCalled { s with supply.exit := some (.input i), conv.parties.exit := true } t)

/-- A detent is routed by the layer in force (R7, R12, R17). -/
def DetentRouted (e : Encoder) (up : Bool) (s t : State) : Prop :=
  ∀ kind, kind = (if up then TokenKind.detentUp else .detentDown) →
    (s.controls.lock = true → (e = .focusRing → RingTaken up s t) ∧ (e ≠ .focusRing → t = s)) ∧
    (s.controls.lock = false → s.ovl.menu = true → TokenMade (tokenWord (encoderCode e) kind .menu) s t) ∧
    (s.controls.lock = false → s.ovl.menu = false →
      (e = .focusRing → RingTaken up s t) ∧
      (e = .dial → (∀ j, s.controls.assign.get j = false) → TokenMade (tokenWord (encoderCode .dial) kind .plain) s t) ∧
      (e = .dial → (∃ j, s.controls.assign.get j = true) → TokenMade (tokenWord (encoderCode .dial) kind .assign) s t) ∧
      (e = .audio1 → KnobTaken .ch1 up s t) ∧ (e = .audio2 → KnobTaken .ch2 up s t))

/-! ## The control event, in the words of its rules -/

/-- The target speed of an axis from its owner (R41). -/
def TargetSpeed (l : Lens) (ax : Axis) (v : Int) : Prop :=
  ((l.axis ax).owner = .none → v = 0) ∧
  ((l.axis ax).owner = .operator → ax = .zoom → v = (l.demand * l.zoomVmax).tdiv 1000) ∧
  ((l.axis ax).owner = .homing → (l.axis ax).homing = .homing .seekNear → v = -2000) ∧
  ((l.axis ax).owner = .homing → (l.axis ax).homing = .homing .seekFar → v = 2000) ∧
  ((l.axis ax).owner = .remote → (l.axis ax).move = some .drive → v = (l.axis ax).driveSpeed) ∧
  (∀ (t : Int) (speed : Nat), (l.axis ax).target = some t → (l.axis ax).gotoSpeed = some speed →
    ((l.axis ax).owner = .operator ∧ ax = .focus) ∨ (l.axis ax).owner = .preset ∨
      ((l.axis ax).owner = .remote ∧ (l.axis ax).move = some .goto) ∨
      ((l.axis ax).owner = .homing ∧ (l.axis ax).homing = .homing .park) →
    ((l.axis ax).position < t → v = speed) ∧ (t < (l.axis ax).position → v = -(speed : Int)))

/-- The limited target speed (R42): the speed limit and, on a HOMED axis and in PARK, 40 times the distance to the target of a goto or
to the end of travel. -/
def LimitedSpeed (l : Lens) (ax : Axis) (goal v : Int) : Prop :=
  ∃ limit whole distance cap : Nat,
    whole = (if (l.axis ax).homing ≠ .homed ∧ (l.axis ax).owner ≠ .homing then l.vmax ax / 4 else l.vmax ax) ∧
    limit = (if l.halving then whole / 2 else whole) ∧
    (∀ t, (l.axis ax).target = some t → distance = (t - (l.axis ax).position).natAbs) ∧
    ((l.axis ax).target = none → 0 < goal → distance = ((l.axis ax).span - (l.axis ax).position).toNat) ∧
    ((l.axis ax).target = none → goal ≤ 0 → distance = (l.axis ax).position.toNat) ∧
    cap = (if (l.axis ax).homing = .homed ∨ (l.axis ax).homing = .homing .park then min limit (40 * distance) else limit) ∧
    (goal.natAbs ≤ cap → v = goal) ∧ (cap < goal.natAbs → v = if 0 < goal then (cap : Int) else -(cap : Int))

/-- The gap, the ramp and the duty of a control event at a limited target speed (R43 to R45): `a` before, `b` after, but for the stall
watch. A zoom whose rocker is centred has no owner once v_cmd is 0. -/
def Ramped (l : Lens) (ax : Axis) (limited : Int) (b : AxisRec) : Prop :=
  ∃ (a : AxisRec) (vcmd : Int) (gap : Nat), a = l.axis ax ∧
    (0 < a.gap → gap = a.gap - 1 ∧ vcmd = 0) ∧
    (a.gap = 0 → a.pause.isSome = true → gap = 0 ∧ vcmd = 0) ∧
    (a.gap = 0 → a.pause = none →
      ((0 < a.vcmd ∧ limited < 0) ∨ (a.vcmd < 0 ∧ 0 < limited) → gap = l.gap ax - 1 ∧ vcmd = 0) ∧
      (¬((0 < a.vcmd ∧ limited < 0) ∨ (a.vcmd < 0 ∧ 0 < limited)) → gap = 0 ∧
        (limited.natAbs ≤ a.vcmd.natAbs → vcmd = limited) ∧
        (a.vcmd.natAbs < limited.natAbs → vcmd = max (a.vcmd - 400) (min (a.vcmd + 400) limited)))) ∧
    b = { (if ax = .zoom ∧ a.owner = .operator ∧ l.demand = 0 ∧ vcmd = 0 then unheld a else a) with
      gap := gap, vcmd := vcmd, forward := decide (0 < vcmd)
      duty := if a.pause.isSome = true ∨ vcmd = 0 then 0 else 96 + vcmd.natAbs * 927 / l.vmax ax }

/-- The stall watch of a control event that leaves the axis as `b` (R45, R46). -/
def StallWatched (ax : Axis) (b : AxisRec) (s t : State) : Prop :=
  (b.owner = .homing ∨ b.duty < 300 → t = { s with lens := s.lens.setAxis { b with dutyRun := none } ax }) ∧
  (∀ start, b.owner ≠ .homing → 300 ≤ b.duty → start = b.dutyRun.getD s.clock →
    (s.clock < max start (b.lastEdge.getD 0) + 50000 →
      t = { s with lens := s.lens.setAxis { b with dutyRun := some start } ax }) ∧
    (max start (b.lastEdge.getD 0) + 50000 ≤ s.clock →
      ((∀ t₁, b.suspect = some t₁ → t₁ + 500000 ≤ s.clock) → t = { s with
        lens := s.lens.setAxis { b with
          vcmd := 0, duty := 0, dutyRun := none, suspect := some s.clock, pause := some (s.clock + 20000) } ax }) ∧
      (∀ t₁, b.suspect = some t₁ → s.clock < t₁ + 500000 → t = { s with
        lens := (s.lens.setAxis { unheld b with
          vcmd := 0, duty := 0, fault := true, dutyRun := none, suspect := none } ax).stopDrive ax
        ovl.warnings.lensFault := .placed
        port := heldEnds s.port ax .stalled b })))

/-- A control event from its target speed on (R42 to R46). -/
def SpeedTaken (ax : Axis) (goal : Int) (s t : State) : Prop :=
  ∃ limited b, LimitedSpeed s.lens ax goal limited ∧ Ramped s.lens ax limited b ∧ StallWatched ax b s t

/-- The rocker claims the zoom at its control event where the four conditions of R53 hold; otherwise nothing happens. -/
def RockerClaims (ax : Axis) (s t : State) : Prop :=
  (ax = .zoom → s.lens.demand ≠ 0 → s.lens.blocked = false → s.lens.zoom.fault = false →
    s.lens.zoom.owner = .none ∨ s.lens.zoom.owner = .preset ∨ s.lens.zoom.owner = .remote → t = { s with
      lens.zoom := { unheld s.lens.zoom with owner := .operator }, lens.driveTimer := none
      port := heldEnds s.port .zoom .preempted s.lens.zoom }) ∧
  (ax = .focus ∨ s.lens.demand = 0 ∨ s.lens.blocked = true ∨ s.lens.zoom.fault = true ∨ s.lens.zoom.owner = .operator ∨
    s.lens.zoom.owner = .homing → t = s)

/-- The arrival of a goto other than PARK (R41): ARRIVED for a PRESET or REMOTE hold, no notice for the focus ring's. -/
def GotoArrives (ax : Axis) (s t : State) : Prop :=
  ((s.axis ax).owner = .preset ∨ (s.axis ax).owner = .remote → t = { s with
    lens := (s.lens.setAxis { unheld (s.axis ax) with vcmd := 0 } ax).stopDrive ax
    port := s.port.post (.motionDone ax .arrived (s.axis ax).owner (s.axis ax).position) }) ∧
  ((s.axis ax).owner = .operator ∨ (s.axis ax).owner = .none → t = { s with
    lens := s.lens.setAxis { unheld (s.axis ax) with vcmd := 0 } ax })

/-- The arrival of the PARK goto, which completes the homing run (R46, R49). -/
def HomingCompletes (ax : Axis) (s t : State) : Prop :=
  ∃ (v : State) (a : AxisRec), a = { unheld (s.axis ax) with
      homing := .homed, spanBefore := none, vcmd := 0, homingTimer := none, fault := false } ∧
    v = { s with
      lens := s.lens.setAxis a ax
      ovl.warnings.lensFault := if (match ax with | .zoom => s.lens.focus.fault | .focus => s.lens.zoom.fault) then .placed else .absent
      port := s.port.post (.homeDone ax (.homed (s.axis ax).span)) } ∧
    (ax = .focus → t = v) ∧
    (ax = .zoom → ∃ presets : Vector Int 8,
      (∀ n, presets.get n = if s.lens.zoom.span < s.lens.presets.get n then s.lens.zoom.span else s.lens.presets.get n) ∧
      StabFollows s.stab.setting { s.stab.cond with zoomHomed := true } { v with lens.presets := presets } t)

/-! ## The converter, in the words of its rules -/

/-- The highest group of the pending set (R28). -/
def HighestPending (p : GroupSet) (g : Group) : Prop :=
  (g = .gyro ∧ p.gyro = true) ∨ (g = .level ∧ p.gyro = false ∧ p.level = true) ∨
    (g = .rocker ∧ p.gyro = false ∧ p.level = false ∧ p.rocker = true) ∨
    (g = .supply ∧ p.gyro = false ∧ p.level = false ∧ p.rocker = false ∧ p.supply = true)

/-- The inputs of a group in the order of conversion (R24). -/
def InputsOf (g : Group) (inputs : List (Fin 7)) : Prop :=
  (g = .gyro ∧ inputs = [0, 1]) ∨ (g = .level ∧ inputs = [3, 4]) ∨ (g = .rocker ∧ inputs = [2]) ∨ (g = .supply ∧ inputs = [5, 6])

/-- A group whose every input gave a record is delivered to its requester, but for the supply monitor's work on a sample (R8, R9, R29,
R35, R71, R147): the pair goes to the mailbox, the rocker takes its result, its demand 0 outside RUN. -/
def Delivered (g : Group) (made : List ResultRec) (s t : State) : Prop :=
  ∃ v : State, v = { s with conv.last := made.foldl (fun l r => l.set r.input r) s.conv.last } ∧
    (∀ a b, g = .gyro → made = [a, b] → t = { v with stab.mailbox := some (a, b) }) ∧
    (∀ a b, g = .level → made = [a, b] → t = { v with audio.mailbox := some (a, b) }) ∧
    (∀ r, g = .rocker → made = [r] → ∃ m k : Rocker, RockerTook s.controls.rocker m r ∧
      k = (if s.supply.power = .run then m else { m with demand := 0 }) ∧ t = { v with
        controls.rocker := k
        lens.demand := if k.demand = s.controls.rocker.demand then s.lens.demand else k.demand
        lens.blocked := if k.demand = s.controls.rocker.demand then s.lens.blocked
          else s.lens.blocked && decide (k.demand ≠ 0) }) ∧
    (∀ a b, g = .supply → made = [a, b] → a.status = .invalid ∨ b.status = .invalid → t = v)

/-- The converter becomes free (R28, R29): an owed calibration begins, and an ADC_CALIBRATE that waits for it is answered OK (R33);
else the highest pending group is taken into service; with none it is IDLE. A group with no input to convert is delivered at once with
INVALID records, and the converter is free again. -/
inductive Freed : State → State → Prop
  | calibration (s : State) (p : Port) (owed : s.conv.owed = true)
      (waits : ∀ e, s.port.inHand = some e → e.state = .accepted → p = s.port.answer e.kind e.tag .ok .none .none)
      (none : (∀ e, s.port.inHand = some e → e.state ≠ .accepted) → p = s.port) :
      Freed s { s with conv.activity := .calibrating (s.clock + 2000), conv.owed := false, port := p }
  | idle (s : State) (owed : s.conv.owed = false) (pending : s.conv.pending = ⟨false, false, false, false⟩) :
      Freed s { s with conv.activity := .idle }
  | service (s : State) (g : Group) (before rest : List (Fin 7)) (i : Fin 7) (owed : s.conv.owed = false)
      (highest : HighestPending s.conv.pending g) (inputs : InputsOf g (before ++ i :: rest)) (check : s.conv.selfCheck = true)
      (disabled : ∀ j ∈ before, s.conv.enables.get j = false) (enabled : s.conv.enables.get i = true) :
      Freed s { s with
        conv.pending := s.conv.pending.put false g
        conv.activity := .converting ⟨g, before.map fun j => ⟨j, 0, .invalid⟩, (i, true) :: rest.map fun j => (j, s.conv.enables.get j),
          s.clock + 8⟩ }
  | passed (s d t : State) (g : Group) (inputs : List (Fin 7)) (owed : s.conv.owed = false)
      (highest : HighestPending s.conv.pending g) (all : InputsOf g inputs)
      (nothing : s.conv.selfCheck = false ∨ ∀ j ∈ inputs, s.conv.enables.get j = false)
      (delivered : Delivered g (inputs.map fun j => ⟨j, 0, .invalid⟩) { s with conv.pending := s.conv.pending.put false g } d)
      (free : Freed d t) : Freed s t

/-- A requester asks for its group. At an IDLE converter that owes no calibration the group is taken into service at once and does not
enter the pending set (R26), or with no input to convert is delivered at once with INVALID records, after which the converter is free
(R29). At any other the group joins the pending set, and one that is pending already is replaced: its requester counts a miss (R27). -/
def Asked (g : Group) (s t : State) : Prop :=
  (s.conv.activity = .idle → s.conv.owed = false →
    (∀ (before rest : List (Fin 7)) (i : Fin 7), InputsOf g (before ++ i :: rest) → s.conv.selfCheck = true →
      (∀ j ∈ before, s.conv.enables.get j = false) → s.conv.enables.get i = true → t = { s with
        conv.activity := .converting ⟨g, before.map fun j => ⟨j, 0, .invalid⟩, (i, true) :: rest.map fun j => (j, s.conv.enables.get j),
          s.clock + 8⟩ }) ∧
    (∀ inputs : List (Fin 7), InputsOf g inputs → s.conv.selfCheck = false ∨ (∀ j ∈ inputs, s.conv.enables.get j = false) →
      ∃ d, Delivered g (inputs.map fun j => ⟨j, 0, .invalid⟩) s d ∧ Freed d t)) ∧
  (s.conv.activity ≠ .idle ∨ s.conv.owed = true → t = { s with
    conv.pending := s.conv.pending.put true g
    stab.replacements := if g = .gyro ∧ s.conv.pending.gyro = true then countUp 255 s.stab.replacements else s.stab.replacements
    audio.replacements := if g = .level ∧ s.conv.pending.level = true then countUp 255 s.audio.replacements
      else s.audio.replacements
    controls.rocker.misses := if g = .rocker ∧ s.conv.pending.rocker = true then countUp 255 s.controls.rocker.misses
      else s.controls.rocker.misses
    supply.missed := if g = .supply ∧ s.conv.pending.supply = true then countUp 255 s.supply.missed else s.supply.missed })

/-! ## Changes of the power state and of the supply state -/

/-- An axis that a standby entry or the lens stop halts (R50, R64). The stall suspect that a stall pause goes with is kept (R45, last
sentence; log entry 33). -/
def haltedAxis (a : AxisRec) (r : AbandonReason) : AxisRec :=
  { unheld a with
    vcmd := 0, gap := 0, duty := 0, dutyRun := none
    suspect := if a.pause.isSome then a.suspect else none
    homing := if a.owner = .homing then .abandoned r else a.homing
    span := if a.owner = .homing then a.spanBefore.getD a.span else a.span
    spanBefore := if a.owner = .homing then none else a.spanBefore
    homingTimer := if a.owner = .homing then none else a.homingTimer }

/-- The port after an axis is halted: HOME_DONE of a homing run, MOTION_DONE(STOPPED) of any other hold (R50, R64). -/
def haltedPort (p : Port) (ax : Axis) (r : AbandonReason) (a : AxisRec) : Port :=
  if a.owner = .homing then p.post (.homeDone ax (.abandoned r)) else heldEnds p ax .stopped a

/-- Both axes are halted, the zoom first, the override window ends and the bridges float (R64). A homing run of the zoom that is
abandoned hands its homing status to the stabiliser (R67). The order of the notices: log entry 12. -/
def LensHalted (r : AbandonReason) (s t : State) : Prop :=
  ∃ a b : State,
    a = { s with
      lens.zoom := haltedAxis s.lens.zoom r
      lens.driveTimer := if s.lens.zoom.owner = .homing then s.lens.driveTimer else none
      port := haltedPort s.port .zoom r s.lens.zoom } ∧
    (s.lens.zoom.owner ≠ .homing → b = a) ∧
    (s.lens.zoom.owner = .homing → StabFollows s.stab.setting { s.stab.cond with zoomHomed := false } a b) ∧
    t = { b with
      lens.focus := haltedAxis s.lens.focus r, lens.override := none, lens.floating := true
      port := haltedPort b.port .focus r s.lens.focus }

/-- A channel at entry to STANDBY (R160). -/
def restedChannel (c : ChannelRec) : ChannelRec :=
  { c with level := -600, peak := -600, hold := 0, isOver := false, attack := 0, quiet := 0, rise := 0, release := 0, fall := 0 }

/-- Entry to STANDBY (R186): the scanner's records are made silent and its demand is 0 (R5, R10), both axes are halted (R64), the
stabiliser follows (R67), the channels rest and their over conditions end (R160, R138), and the rows of a batch that wait are dropped
(R177). The order of the blocks: log entry 13. -/
def StandbyEntered (s t : State) : Prop :=
  ∃ a b c : State,
    a = { s with
      supply.power := .standby
      controls.switches := .ofFn fun i => { s.controls.switches.get i with
        polls := 0, held := (s.controls.switches.get i).held.map silencedHeld }
      controls.rocker := { s.controls.rocker with demand := 0, invalidRun := 0, railRun := 0, cleanRun := 0 }
      lens.demand := if s.controls.rocker.demand = 0 then s.lens.demand else 0
      lens.blocked := if s.controls.rocker.demand = 0 then s.lens.blocked else false } ∧
    LensHalted .standby a b ∧
    StabFollows b.stab.setting { b.stab.cond with run := false, gyroValid := false } b c ∧
    t = { c with
      recorder.power := .standby
      audio := { c.audio with power := .standby, ch1 := restedChannel c.audio.ch1, ch2 := restedChannel c.audio.ch2 }
      log.over1 := if c.audio.ch1.isOver then false else c.log.over1
      log.over2 := if c.audio.ch2.isOver then false else c.log.over2
      ovl.power := .standby, ovl.batch := c.ovl.batch.map fun b => { b with waiting := [] } }

/-- A homing run begins on an axis (R47), which hands the zoom's homing status to the stabiliser (R67). -/
def HomingBegun (ax : Axis) (s t : State) : Prop :=
  ∃ a : State,
    a = { s with
      lens := (match ax with | .zoom => { s.lens with driveTimer := none } | .focus => s.lens).setAxis { unheld (s.axis ax) with
        owner := .homing, homing := .homing .seekNear, suspect := none, dutyRun := none, phaseStart := s.clock
        homingTimer := some (s.clock + 25000000), spanBefore := some (s.axis ax).span } ax
      port := heldEnds s.port ax .preempted (s.axis ax) } ∧
    (ax = .focus → t = a) ∧
    (ax = .zoom → StabFollows s.stab.setting { s.stab.cond with zoomHomed := false } a t)

/-- The reference is reported where it differs from the state reported last (R93). -/
def ReferenceReported (s t : State) : Prop :=
  (s.tc.present = s.tc.reported → t = s) ∧
    (s.tc.present ≠ s.tc.reported → t = { s with
      tc.reported := s.tc.present, ovl.warnings.fsyncLost := if s.tc.present then .absent else .placed
      port := s.port.post (.fsyncState s.tc.present s.tc.stamp) })

/-- The scanner at an entry to RUN: each decoder takes the lines' levels (R6). From INIT each input at ACTIVE gets a silent record
resolved in the PLAIN layer, from which the two modifiers are set (R4); from STANDBY every disagreement count is 0 (R5). -/
def ScannerResumed (fromInit : Prop) (p : Pins) (c c' : Controls) : Prop :=
  c'.focusRing = ⟨p.focusRing, 0⟩ ∧ c'.dial = ⟨p.dial, 0⟩ ∧ c'.audio1 = ⟨p.audio1, 0⟩ ∧ c'.audio2 = ⟨p.audio2, 0⟩ ∧
    c' = { c with
      focusRing := c'.focusRing, dial := c'.dial, audio1 := c'.audio1, audio2 := c'.audio2, switches := c'.switches
      lock := c'.lock, assign := c'.assign } ∧
    (fromInit →
      (∀ i, c'.switches.get i = { c.switches.get i with
        held := if (c.switches.get i).accepted then
            some ⟨.plain, c.keymap.plain.get i, (c.switches.get i).config.kind, false, true, .idle, none⟩ else none }) ∧
      (c'.lock = true ↔ ∃ i, (c.switches.get i).accepted = true ∧ (c.keymap.plain.get i).action = .lock ∧
        (c.switches.get i).config.kind = .latching) ∧
      ∀ i, c'.assign.get i = true ↔ (c.switches.get i).accepted = true ∧ (c.keymap.plain.get i).action = .assign) ∧
    (¬fromInit →
      (∀ i, c'.switches.get i = { c.switches.get i with count := 0, polls := 0 }) ∧ c'.lock = c.lock ∧ c'.assign = c.assign)

/-- Entry to RUN (R185): the scanner resumes, the bridges leave the float state with duty 0 (R39), from INIT both axes home (R47), the
stabiliser follows (R67), a difference of the reference is reported (R93), and at the return from STANDBY all 16 rows of the displayed
page are marked (R178). The order of the blocks: log entry 13. -/
def RunEntered (s t : State) : Prop :=
  ∃ (k : Controls) (a b c d : State), ScannerResumed (s.supply.power = .init) s.pins s.controls k ∧
    a = { s with
      supply.power := .run, controls := k, lens.floating := false, lens.zoom.duty := 0, lens.focus.duty := 0 } ∧
    (s.supply.power = .init → ∃ z, HomingBegun .zoom a z ∧ HomingBegun .focus z b) ∧
    (s.supply.power ≠ .init → b = a) ∧
    StabFollows b.stab.setting { b.stab.cond with run := true } b c ∧ ReferenceReported c d ∧
    t = { d with recorder.power := .run, audio.power := .run, ovl := t.ovl } ∧
    (s.ovl.power ≠ .standby → t.ovl = { d.ovl with power := .run }) ∧
    (s.ovl.power = .standby → MarksRows { d.ovl with power := .run } t.ovl d.ovl.displayed fun _ => true)

/-- The supply state changes to `new` at a sample that leaves the supply monitor as `p` (R184): SUPPLY_STATE is posted, the three
warnings and the halving follow, NORMAL to WARN sounds LONG; in LOW and CUTOFF a start fails and a recording stops (R126), and CUTOFF
begins a shutdown (R188). The order of the notices: log entry 12. -/
def SupplyStateTaken (p : Supply) (new : SupplyState) (s t : State) : Prop :=
  ∃ a b : State,
    a = { s with
      supply := { p with state := new }, recorder.supplyState := new, lens.halving := decide (new = .low ∨ new = .cutoff)
      ovl.warnings := { s.ovl.warnings with
        supplyWarn := if new = .warn then .placed else .absent
        supplyLow := if new = .low then .placed else .absent
        supplyCutoff := if new = .cutoff then .placed else .absent }
      controls.beeper := if s.supply.state = .normal ∧ new = .warn then s.controls.beeped .long s.clock else s.controls.beeper
      port := s.port.post (.supplyState new p.effective p.dcPresent) } ∧
    (new = .normal ∨ new = .warn ∨ s.recorder.state = .standby ∨ s.recorder.state = .stopping → b = a) ∧
    (∀ n, new = .low ∨ new = .cutoff → s.recorder.state = .starting → s.recorder.clip = some n → b = startFailed n .supply a) ∧
    (∀ n, new = .low ∨ new = .cutoff → s.recorder.state = .recording → s.recorder.clip = some n → b = stopMade n .supply a) ∧
    (new = .cutoff → s.supply.power = .run ∨ s.supply.power = .standby → ShutdownBegun .supply b t) ∧
    (new ≠ .cutoff ∨ s.supply.power = .init ∨ s.supply.power = .shutdown → t = b)

/-! ## What the resets leave -/

/-- The default keymap (R11). -/
def DefaultKeymap (k : Keymap) : Prop :=
  (∀ i, k.plain.get i = ⟨([.recToggle, .recToggle, .assign, .menuToggle, .lock, .power, .stabToggle, .focusModeToggle, .preset 0,
      .preset 1, .preset 2, .preset 3, .mark, .audioAuto .ch1, .audioAuto .ch2, .goodShot] : List Action).getD i.val .token,
      false, false, false⟩) ∧
    (∀ i, i.val < 8 ∨ 11 < i.val → k.assign.get i = k.plain.get i) ∧
    (∀ (i : Fin 24) (n : Fin 8), 8 ≤ i.val → i.val ≤ 11 → n.val + 4 = i.val → k.assign.get i = ⟨.preset n, false, false, false⟩) ∧
    ∀ i, (i.val = 0 ∨ i.val = 1 ∨ i.val = 4 ∨ i.val = 5 → k.menu.get i = k.plain.get i) ∧
      (i.val ≠ 0 → i.val ≠ 1 → i.val ≠ 4 → i.val ≠ 5 → k.menu.get i = ⟨.token, false, false, false⟩)

/-- The scanner after either reset: the rows of R23 that are the same at both. Lock latch and assign set follow the inputs at the entry
into RUN (R4); CLEAR and empty until then: log entry 7. -/
def ScannerReset (c : Controls) : Prop :=
  c.firstScan = true ∧ c.lock = false ∧ (∀ i, c.assign.get i = false) ∧ c.tokens = [] ∧ c.beeper = none ∧ c.rocker.state = .ok ∧
    c.rocker.demand = 0 ∧ c.rocker.invalidRun = 0 ∧ c.rocker.railRun = 0 ∧ c.rocker.cleanRun = 0 ∧ c.rocker.misses = 0 ∧
    ∀ i, (c.switches.get i).count = 0 ∧ (c.switches.get i).held = none

/-- The converter after either reset, at the time `now`: the rows of R36 that are the same at both. -/
def ConverterReset (c : Converter) (now : Nat) : Prop :=
  c.activity = .calibrating (now + 2000) ∧ c.parties = ⟨true, false, false⟩ ∧ c.owed = false ∧
    c.pending = ⟨false, false, false, false⟩ ∧ c.selfCheck = false ∧ ∀ i, c.last.get i = ⟨i, 0, .invalid⟩

/-- The lens drive after either reset: the rows of R65 that are the same at both. -/
def LensReset (l : Lens) : Prop :=
  l.halving = false ∧ l.detents = [] ∧ l.floating = true ∧ l.override = none ∧ l.demand = 0 ∧ l.blocked = false ∧
    l.driveTimer = none ∧ ∀ ax, (l.axis ax).homing = .unhomed ∧ (l.axis ax).owner = .none ∧ (l.axis ax).move = none ∧
      (l.axis ax).target = none ∧ (l.axis ax).vcmd = 0 ∧ (l.axis ax).gap = 0 ∧ (l.axis ax).duty = 0 ∧
      (l.axis ax).fault = false ∧ (l.axis ax).suspect = none ∧ (l.axis ax).pause = none ∧ (l.axis ax).measured = 0 ∧
      (l.axis ax).capture = none ∧ (l.axis ax).homingTimer = none

/-- The stabiliser after either reset: the rows of R84 that are the same at both. -/
def StabReset (t : Stabiliser) : Prop :=
  t.panExit = 0 ∧ t.railRun = 0 ∧ t.missedRun = 0 ∧ t.missed = 0 ∧ t.replacements = 0 ∧ t.cond.run = false ∧
    t.cond.zoomHomed = false ∧ t.cond.gyroValid = false ∧
    ∀ x, x = t.yaw ∨ x = t.pitch → x.acc = 0 ∧ x.rem = 0 ∧ x.traw = 0 ∧ x.duty = 512 ∧ x.satRun = 0 ∧ x.learnRun = 0 ∧
      x.value = 0 ∧ x.status = .invalid

/-- The record supervisor after either reset, with the lines as they stand: the rows of R130 that are the same at both. -/
def RecorderReset (p : Pins) (r : Recorder) : Prop :=
  r.state = .standby ∧ r.clip = none ∧ r.confirmTimer = none ∧ r.closeTimer = none ∧ r.accountTimer = none ∧ r.inhibit = none ∧
    r.mediaLow = false ∧ r.tally = .off ∧ r.supplyState = .normal ∧ r.power = .init ∧
    r.slotA.protect = p.protectA ∧ r.slotB.protect = p.protectB ∧
    ∀ sl, (r.slot sl).state = .empty ∧ (r.slot sl).remaining = 0 ∧ (r.slot sl).present = false ∧ (r.slot sl).lapsed = false ∧
      (r.slot sl).mountTimer = none

/-- A channel after either reset: the rows of R161 that are the same at both. -/
def ChannelReset (c : ChannelRec) : Prop :=
  c.reduction = 0 ∧ c.level = -600 ∧ c.peak = -600 ∧ c.hold = 0 ∧ c.isOver = false ∧ c.overFlag = false ∧ c.attack = 0 ∧
    c.quiet = 0 ∧ c.rise = 0 ∧ c.release = 0 ∧ c.fall = 0

/-- The overlay generator after either reset: the rows of R180 that are the same at both. -/
def OverlayReset (o : Overlay) : Prop :=
  o.menu = false ∧ o.saved = none ∧ o.batch = none ∧ ∀ (page : Fin 4) (row : Fin 16), (o.pages.get page).dirty.get row = true

/-- The supply monitor after either reset: the rows of R192 that are the same at both. -/
def SupplyReset (p : Supply) : Prop :=
  p.warn = ⟨false, 0⟩ ∧ p.low = ⟨false, 0⟩ ∧ p.cutoff = ⟨false, 0⟩ ∧ p.state = .normal ∧ p.battery = 0 ∧ p.dcin = 0 ∧
    p.dcPresent = false ∧ p.effective = 0 ∧ p.power = .init ∧ p.exit = none ∧ p.shutdown = none ∧ p.recState = .standby ∧
    p.missed = 0

/-- The command port after either reset (R202). -/
def PortReset (p : Port) : Prop :=
  p.assembler = .hunting ∧ p.queue = [] ∧ p.replies = [] ∧ p.notices = [] ∧ p.tx = none ∧ p.linkError = false ∧
    p.noticesLost = false

/-! ## What the live fields show -/

/-- The cells of character codes in one style (R165). -/
def cellsIn (style : Style) (codes : List Nat) : List Cell := codes.map fun n => ⟨BitVec.ofNat 8 n, style⟩

/-- The character codes of a text (R165). -/
def charCodes (text : String) : List Nat := text.toList.map Char.toNat

/-- The codes of the last two decimal digits of a number (R165). -/
def twoDigits (n : Nat) : List Nat := [0x30 + n / 10 % 10, 0x30 + n % 10]

/-- The codes of a number up to 999, right-aligned in three cells (R166). -/
def threeCells (n : Nat) : List Nat :=
  if n < 10 then [0x20, 0x20, 0x30 + n]
  else if n < 100 then [0x20, 0x30 + n / 10, 0x30 + n % 10]
  else [0x30 + n / 100, 0x30 + n / 10 % 10, 0x30 + n % 10]

/-- MEDIA_A and MEDIA_B of a slot at a bitrate class (R166). -/
def MediaShows (letter : Nat) (b : Bitrate) (r : SlotRec) (cells : List Cell) : Prop :=
  cells = cellsIn .normal (letter :: match r.state with
    | .ready => [0x20, 0x20] ++ threeCells (min 999 (r.remaining / rateOf b / 60)) ++ charCodes "m"
    | .active => [0x2A, 0x20] ++ threeCells (min 999 (r.remaining / rateOf b / 60)) ++ charCodes "m"
    | .empty => charCodes " EMPTY"
    | .mounting => charCodes " MOUNT"
    | .full => charCodes " FULL "
    | .writeProtected => charCodes " PROT "
    | .error _ => charCodes " ERROR")

/-- AUDIO_1 and AUDIO_2 of a channel: `k` bars of ten by the segment count of the peak, and the over flag (R149, R166). -/
def AudioShows (number : Nat) (c : ChannelRec) (cells : List Cell) : Prop :=
  ∀ k : Nat, (k : Int) = max 0 (min 10 ((c.peak + 600).tdiv 60)) →
    cells = cellsIn .normal ([number] ++ List.replicate k 0x7C ++ List.replicate (10 - k) 0x2E ++ [if c.overFlag then 0x21 else 0x20])

/-- The priority and the text of a warning kind (R167). -/
def warningRow : WarnKind → Nat × String
  | .supplyCutoff => (1, "SUPPLY CUTOFF")
  | .supplyLow => (2, "SUPPLY LOW")
  | .recFailed => (3, "REC FAILED")
  | .mediaFull => (4, "MEDIA FULL")
  | .cardError => (5, "CARD ERROR")
  | .stabFault => (6, "OIS FAULT")
  | .lensFault => (7, "LENS FAULT")
  | .fsyncLost => (8, "NO SYNC")
  | .mediaLow => (9, "MEDIA LOW")
  | .supplyWarn => (10, "SUPPLY WARN")
  | .audioOver => (11, "AUDIO OVER")
  | .keysLocked => (12, "KEYS LOCKED")
  | .tokensFull => (13, "TOKEN QUEUE FULL")

/-- The kind shown in the WARNING field: that of the highest priority in the set, 1 being highest (R167, R168). -/
def ShownWarning (w : Warnings) (shown : Option WarnKind) : Prop :=
  (shown = none → ∀ k, w.entry k = .absent) ∧
    ∀ k, shown = some k → w.entry k ≠ .absent ∧ ∀ k', w.entry k' ≠ .absent → (warningRow k).1 ≤ (warningRow k').1

/-- What a live field of a kind shows: its text and its style, from the state of the block it is drawn from (R165, R166, R168). -/
def FieldShows (s : State) (k : FieldKind) (cells : List Cell) : Prop :=
  match k with
  | .timecode => cells = cellsIn .normal (twoDigits s.tc.label.hours ++ [0x3A] ++ twoDigits s.tc.label.minutes ++ [0x3A] ++
      twoDigits s.tc.label.seconds ++ [if s.tc.rate = .r30df then 0x3B else 0x3A] ++ twoDigits s.tc.label.frames)
  | .recState => cells = match s.recorder.state with
      | .standby => cellsIn .normal (charCodes "STBY")
      | .starting => cellsIn .blink (charCodes "WAIT")
      | .recording => cellsIn .inverse (charCodes "REC ")
      | .stopping => cellsIn .normal (charCodes "STOP")
  | .clipNo => ∀ n, (s.recorder.state = .standby ∧ n = s.recorder.nextClip) ∨
        (s.recorder.state ≠ .standby ∧ s.recorder.clip = some n) →
      cells = cellsIn .normal ([0x23] ++ twoDigits (n / 100) ++ twoDigits n)
  | .supply => ∀ t source, t = s.supply.effective / 100 → source = (if s.supply.dcPresent then 0x44 else 0x42) →
      (t < 100 → cells = cellsIn .normal [source, 0x20, 0x30 + t / 10, 0x2E, 0x30 + t % 10, 0x56]) ∧
      (100 ≤ t → t < 1000 →
        cells = cellsIn .normal [source, 0x30 + t / 100, 0x30 + t / 10 % 10, 0x2E, 0x30 + t % 10, 0x56])
  | .mediaA => MediaShows 0x41 s.recorder.bitrate s.recorder.slotA cells
  | .mediaB => MediaShows 0x42 s.recorder.bitrate s.recorder.slotB cells
  | .zoomBar =>
      (s.lens.zoom.homing ≠ .homed → cells = cellsIn .normal (charCodes "W----------T")) ∧
      (∀ n : Nat, s.lens.zoom.homing = .homed → 0 < s.lens.zoom.span →
        (n : Int) = (10 * max 0 (min s.lens.zoom.span s.lens.zoom.position)).tdiv s.lens.zoom.span →
        cells = cellsIn .normal ([0x57] ++ List.replicate n 0x3D ++ List.replicate (10 - n) 0x20 ++ [0x54]))
  | .focus => cells = cellsIn .normal (charCodes (match s.lens.mode, s.lens.override with
      | .manual, _ => "MF  "
      | .auto, none => "AF  "
      | .auto, some _ => "AF* "))
  | .stab => cells = cellsIn .normal (charCodes (match s.stab.state with
      | .active .normal => "OIS"
      | .active .pan => "PAN"
      | .standby | .off => "---"
      | .fault _ => "ERR"))
  | .audio1 => AudioShows 0x31 s.audio.ch1 cells
  | .audio2 => AudioShows 0x32 s.audio.ch2 cells
  | .warning => (ShownWarning s.ovl.warnings none → cells = cellsIn .normal (List.replicate 16 0x20)) ∧
      ∀ w, ShownWarning s.ovl.warnings (some w) → cells = cellsIn (if (warningRow w).1 ≤ 3 then .blink else .inverse)
        (charCodes (warningRow w).2 ++ List.replicate (16 - (warningRow w).2.length) 0x20)

/-! ## What the reports carry -/

/-- The whole ms left at the time `now` until `t`, a started ms counted whole (log entry 1). -/
def wholeMs (now t : Nat) : Nat := (t - now + 999) / 1000

/-- The motion state of an axis (R38). -/
def MotionIs (a : AxisRec) (m : Motion) : Prop :=
  (a.fault = true → a.owner ≠ .homing → m = .fault) ∧
    (a.fault = false ∨ a.owner = .homing →
      (0 < a.gap → m = .gap) ∧
      (a.gap = 0 → (a.owner ≠ .none ∨ a.vcmd ≠ 0 → m = .moving) ∧ (a.owner = .none → a.vcmd = 0 → m = .idle)))

/-- CONTROLS_GET (R22). -/
def ControlsReported (c : Controls) (r : ControlsReport) : Prop :=
  r = { accepted := r.accepted, held := r.held, lock := c.lock, assign := c.assign, rocker := c.rocker.state
        demand := c.rocker.demand, misses := c.rocker.misses, tokens := c.tokens.length, beepEnable := c.beepEnable } ∧
    ∀ i, r.accepted.get i = (c.switches.get i).accepted ∧
      ((c.switches.get i).held = none → r.held.get i = none) ∧
      ∀ h, (c.switches.get i).held = some h → r.held.get i = some (h.layer, h.entry.action)

/-- ADC_GET (R35). -/
def AdcReported (c : Converter) (r : AdcReport) : Prop :=
  r = { enables := c.enables, offset := c.offset, selfCheck := c.selfCheck, activity := r.activity, owed := c.owed
        pending := c.pending, last := c.last } ∧
    (c.activity = .idle → r.activity = .idle) ∧ (∀ v, c.activity = .converting v → r.activity = .converting) ∧
    ∀ t, c.activity = .calibrating t → r.activity = .calibrating

/-- One axis in LENS_GET (R63). -/
def AxisReported (now : Nat) (a : AxisRec) (r : AxisReport) : Prop :=
  r = { position := a.position, span := a.span, homing := a.homing, motion := r.motion, owner := a.owner, move := a.move
        target := a.target, gotoSpeed := a.gotoSpeed, vcmd := a.vcmd, measured := a.measured, duty := a.duty, fault := a.fault
        suspect := r.suspect } ∧
    MotionIs a r.motion ∧ (r.suspect = true ↔ ∃ t, a.suspect = some t ∧ now < t + 500000)

/-- LENS_GET (R63). -/
def LensReported (now : Nat) (l : Lens) (r : LensReport) : Prop :=
  r = { zoom := r.zoom, focus := r.focus, zoomVmax := l.zoomVmax, presetSpeed := l.presetSpeed, zoomGap := l.zoomGap
        focusGap := l.focusGap, presets := l.presets, mode := l.mode, override := l.override.isSome, demand := l.demand
        blocked := l.blocked } ∧
    AxisReported now l.zoom r.zoom ∧ AxisReported now l.focus r.focus

/-- STAB_GET (R83). -/
def StabReported (t : Stabiliser) (r : StabReport) : Prop :=
  r = { setting := t.setting, state := t.state, blocking := if t.state = .standby then some (blockedBy t.cond) else none
        cond := t.cond, gains := t.gains, yaw := t.yaw, pitch := t.pitch, panExit := t.panExit, railRun := t.railRun
        missedRun := t.missedRun, missed := t.missed, replacements := t.replacements }

/-- TC_GET (R98). -/
def TcReported (t : Timecode) (r : TcReport) : Prop :=
  r = { label := ⟨t.label, t.rate = .r30df⟩, rate := t.rate, runMode := t.runMode, userBits := t.userBits, dayRoll := t.dayRoll
        present := t.present, advances := t.runMode = .freeRun ∨ t.recState = .recording }

/-- One slot in REC_GET (R129). -/
def SlotReported (now : Nat) (x : SlotRec) (r : SlotReport) : Prop :=
  r = { state := x.state, remaining := x.remaining, present := x.present, protect := x.protect, lapsed := x.lapsed
        mountLeft := x.mountTimer.map (wholeMs now) }

/-- REC_GET (R129). -/
def RecReported (s : State) (r : RecReport) : Prop :=
  r = { state := s.recorder.state, startSet := if s.recorder.state = .starting then some s.recorder.startSet else none
        clip := if s.recorder.state = .standby then none else s.recorder.clip
        endLabel := if s.recorder.state = .stopping then s.recorder.endLabel else none
        mode := s.recorder.mode, current := s.recorder.current, bitrate := s.recorder.bitrate, nextClip := s.recorder.nextClip
        confirmLeft := s.recorder.confirmTimer.map (wholeMs s.clock), closeLeft := s.recorder.closeTimer.map (wholeMs s.clock)
        inhibit := s.recorder.inhibit.isSome, mediaLow := s.recorder.mediaLow, timeLeft := r.timeLeft, tally := s.recorder.tally
        frontEnable := s.recorder.frontEnable, slotA := r.slotA, slotB := r.slotB } ∧
    TimeLeftIs s.recorder s.log r.timeLeft ∧ SlotReported s.clock s.recorder.slotA r.slotA ∧
    SlotReported s.clock s.recorder.slotB r.slotB

/-- One channel in AUDIO_GET (R159). -/
def ChannelReported (now : Nat) (c : ChannelRec) (r : ChannelReport) : Prop :=
  r = { config := ⟨c.input, c.source, c.limiter, c.agcMax⟩, setGain := c.setGain, reduction := c.reduction, applied := c.applied
        settlingLeft := c.settling.map (wholeMs now), level := c.level, peak := c.peak, segments := r.segments, isOver := c.isOver
        overFlag := c.overFlag } ∧
    (r.segments : Int) = max 0 (min 10 ((c.peak + 600).tdiv 60))

/-- AUDIO_GET (R159). -/
def AudioReported (now : Nat) (t : Audio) (r : AudioReport) : Prop :=
  r = { link := t.link, ch1 := r.ch1, ch2 := r.ch2, missed := t.missed, replacements := t.replacements } ∧
    ChannelReported now t.ch1 r.ch1 ∧ ChannelReported now t.ch2 r.ch2

/-- OVL_GET of a page and row (R179). -/
def OvlReported (s : State) (page : Fin 4) (row : Fin 16) (r : OvlReport) : Prop :=
  r = { displayed := s.ovl.displayed, menu := s.ovl.menu, saved := s.ovl.saved, fields := s.ovl.fields, warnings := r.warnings
        shown := r.shown, cursors := [0, 1, 2, 3].map fun p : Fin 4 => (s.ovl.pages.get p).cursor
        dirty := [0, 1, 2, 3].map fun p : Fin 4 => (s.ovl.pages.get p).dirty
        vfPresent := s.ovl.vfPresent, sending := s.ovl.batch.isSome, hostCells := r.hostCells
        displayedCells := r.displayedCells } ∧
    ShownWarning s.ovl.warnings r.shown ∧
    (∀ k left, ⟨k, left⟩ ∈ r.warnings ↔ (s.ovl.warnings.entry k = .placed ∧ left = none) ∨
      ∃ t, s.ovl.warnings.entry k = .timed t ∧ left = some (wholeMs s.clock t)) ∧
    ∀ c, r.hostCells.get c = s.ovl.hostCell page row c ∧ r.displayedCells.get c = s.ovl.displayedCell page row c

/-- SUPPLY_GET (R191). -/
def SupplyReported (p : Supply) (r : SupplyReport) : Prop :=
  r = { battery := p.battery, dcin := p.dcin, dcPresent := p.dcPresent, effective := p.effective, thresholds := p.thresholds
        warn := p.warn, low := p.low, cutoff := p.cutoff, state := p.state, power := p.power, exit := p.exit
        pwrHold := p.pwrHold, missed := p.missed }

/-- STATUS_GET (R200). -/
def StatusReported (s : State) (r : StatusReport) : Prop :=
  r = { power := s.supply.power, supply := s.supply.state, recState := s.recorder.state, slotA := s.recorder.slotA.state
        slotB := s.recorder.slotB.state, stab := s.stab.state, zoomHoming := s.lens.zoom.homing, zoomMotion := r.zoomMotion
        focusHoming := s.lens.focus.homing, focusMotion := r.focusMotion, rocker := s.controls.rocker.state
        tokens := s.controls.tokens.length, present := s.tc.present, menu := s.ovl.menu, selfCheck := s.conv.selfCheck
        warnings := r.warnings, linkError := s.port.linkError, noticesLost := s.port.noticesLost
        requests := s.port.queue.length, notices := s.port.notices.length } ∧
    MotionIs s.lens.zoom r.zoomMotion ∧ MotionIs s.lens.focus r.focusMotion ∧ r.warnings.Nodup ∧
    ∀ k, k ∈ r.warnings ↔ s.ovl.warnings.entry k ≠ .absent

/-! ## Invariants -/

/-- The label is a valid label of the rate (R85). -/
def LabelInv (s : State) : Prop := validLabel s.tc.rate s.tc.label = true

/-- The queues of the port and the token queue keep their capacities (R193, R195, R198, R18). -/
def QueueInv (s : State) : Prop :=
  s.port.queue.length ≤ 4 ∧ s.port.overruns ≤ 4 ∧ s.port.notices.length ≤ 32 ∧ s.controls.tokens.length ≤ 16

/-- A clip record holds 1..4 segments, 0..8 marks, a number 1..9999, and an end label exactly when it is not OPEN (R131, R132). -/
def ClipRec.wf (r : ClipRec) : Bool :=
  1 ≤ r.segments.length ∧ r.segments.length ≤ 4 ∧ r.marks.length ≤ 8 ∧ clipNumberLegal r.number = true ∧
    (r.endLabel.isSome = true ↔ r.state ≠ .opened)

/-- A clip is in hand: the record state is RECORDING or STOPPING (R133). -/
def clipInHand : RecState → Bool
  | .recording | .stopping => true
  | .standby | .starting => false

/-- The clip log: at most 64 records with distinct numbers, each as R132 says; none behind the head is OPEN, and the head is OPEN
exactly when a clip is in hand (R131 to R133). -/
def LogInv (s : State) : Prop :=
  s.log.records.length ≤ 64 ∧ (s.log.records.map (·.number)).Nodup ∧ s.log.records.all ClipRec.wf = true ∧
    s.log.records.tail.all (fun r => decide (r.state ≠ .opened)) = true ∧
    (s.log.records.head?.any fun r => decide (r.state = .opened)) = clipInHand s.recorder.state

/-- The record supervisor: the other blocks' copies of the record state and its own copies agree; each window runs exactly in its
record state; a start in hand has a start set, a stop in hand an end label (R89, R114, R116, R119, R126). -/
def RecorderInv (s : State) : Prop :=
  s.tc.recState = s.recorder.state ∧ s.supply.recState = s.recorder.state ∧ s.recorder.supplyState = s.supply.state ∧
    s.recorder.power = s.supply.power ∧ (s.recorder.confirmTimer.isSome = true ↔ s.recorder.state = .starting) ∧
    (s.recorder.accountTimer.isSome = true ↔ s.recorder.state = .recording) ∧
    (s.recorder.closeTimer.isSome = true ↔ s.recorder.state = .stopping) ∧
    (s.recorder.state = .starting → s.recorder.startSet.isEmpty = false) ∧
    (s.recorder.state = .stopping → s.recorder.endLabel.isSome = true)

/-- Whenever the supply state is LOW or CUTOFF, the record state is STANDBY or STOPPING (R184). -/
def SupplyInv (s : State) : Prop :=
  s.supply.state = .low ∨ s.supply.state = .cutoff → s.recorder.state = .standby ∨ s.recorder.state = .stopping

/-- The clip log, the record supervisor and the supply monitor agree (R131 to R133, R184). -/
def ClipInv (s : State) : Prop := LogInv s ∧ RecorderInv s ∧ SupplyInv s

/-- A channel's gains: the applied gain is set gain less reduction outside settling and 0 throughout it, and every gain lies in its
range (R145, R146). -/
def ChannelRec.wf (c : ChannelRec) : Bool :=
  c.applied = (if c.settling.isSome then 0 else c.setGain - c.reduction) ∧ c.setGain ≤ 63 ∧ c.reduction ≤ 12 ∧ c.agcMax ≤ 63

/-- Both channels' gains (R146), and CH2 following CH1 while the link is ON (R155). -/
def GainInv (s : State) : Prop :=
  s.audio.ch1.wf = true ∧ s.audio.ch2.wf = true ∧
    (s.audio.link = true → s.audio.ch2.source = s.audio.ch1.source ∧ s.audio.ch2.setGain = s.audio.ch1.setGain ∧
      s.audio.ch2.reduction = s.audio.ch1.reduction)

/-- No two enabled live fields overlap, and an enabled field lies within its row (R163, R164). -/
def FieldsInv (s : State) : Prop :=
  (∀ k k', k ≠ k' → (s.ovl.fields.entry k).enable = true → (s.ovl.fields.entry k').enable = true →
      overlaps k (s.ovl.fields.entry k) k' (s.ovl.fields.entry k') = false) ∧
    ∀ k, (s.ovl.fields.entry k).enable = true → (s.ovl.fields.entry k).column.val + fieldWidth k ≤ 40

/-- The copies of the stabiliser agree with the blocks they are copied from (R67). -/
def CopiesInv (s : State) : Prop :=
  s.stab.cond.run = decide (s.supply.power = .run) ∧ s.stab.cond.zoomHomed = decide (s.lens.zoom.homing = .homed) ∧
    s.stab.cond.gyroEnabled = (s.conv.enables.get 0 && s.conv.enables.get 1)

/-- An axis of a stabiliser out of ACTIVE: accumulator, remainder and runs 0, the coil centred (R68). -/
def GyroAxis.idle (x : GyroAxis) : Bool :=
  x.acc = 0 ∧ x.rem = 0 ∧ x.target = 0 ∧ x.duty = 512 ∧ x.satRun = 0 ∧ x.learnRun = 0

/-- The stabiliser: its copies agree; it is ACTIVE only while all five conditions hold; out of ACTIVE its coils are centred (R67,
R68). -/
def StabInv (s : State) : Prop :=
  CopiesInv s ∧
    (s.stab.isActive = true → s.stab.setting = true ∧ s.stab.cond.run = true ∧ s.stab.cond.zoomHomed = true ∧
      s.stab.cond.gyroEnabled = true ∧ s.stab.cond.gyroValid = true) ∧
    (s.stab.isActive = false → s.stab.yaw.idle = true ∧ s.stab.pitch.idle = true ∧ s.stab.missedRun = 0 ∧
      s.stab.railRun = 0 ∧ s.stab.panExit = 0)

/-- While the menu mode is ON the displayed page is 3 and the saved page is kept; while it is OFF there is none (R175). -/
def MenuInv (s : State) : Prop :=
  (s.ovl.menu = true → s.ovl.displayed = 3 ∧ s.ovl.saved.isSome = true) ∧ (s.ovl.menu = false → s.ovl.saved = none)

/-- Every preset is at least 0, and while the zoom is HOMED none is above its span; neither the span nor the one held before
a homing run in hand is negative (R50, R57). -/
def PresetInv (s : State) : Prop :=
  0 ≤ s.lens.zoom.span ∧ (∀ v, s.lens.zoom.spanBefore = some v → 0 ≤ v) ∧ (∀ n : Fin 8, 0 ≤ s.lens.presets.get n) ∧
    (s.lens.zoom.homing = .homed → ∀ n : Fin 8, s.lens.presets.get n ≤ s.lens.zoom.span)

/-- The duty of each axis is a duty of 0..1023 (R38, R44). -/
def DutyInv (s : State) : Prop := s.lens.zoom.duty ≤ 1023 ∧ s.lens.focus.duty ≤ 1023

/-- The bridges float in INIT and STANDBY, and drive or brake in RUN (R39). -/
def FloatInv (s : State) : Prop :=
  (s.supply.power = .run → s.lens.floating = false) ∧
    (s.supply.power = .init ∨ s.supply.power = .standby → s.lens.floating = true)

/-- The lens drive: presets, duties and bridges (R39, R44, R57). -/
def LensInv (s : State) : Prop := PresetInv s ∧ DutyInv s ∧ FloatInv s

/-- An IDLE converter has nothing to do: no group is pending and no calibration is owed (R26, R28). -/
def ConverterInv (s : State) : Prop :=
  s.conv.activity = .idle → s.conv.pending = ⟨false, false, false, false⟩ ∧ s.conv.owed = false

/-- The power state is the one every block was handed; an exit is under way in STANDBY only, a shutdown exactly in SHUTDOWN, and
a shutdown that released PWR_HOLD left it released (R185, R187, R188). -/
def PowerInv (s : State) : Prop :=
  s.recorder.power = s.supply.power ∧ s.audio.power = s.supply.power ∧ s.ovl.power = s.supply.power ∧
    (s.supply.exit.isSome = true → s.supply.power = .standby) ∧
    (s.supply.shutdown.isSome = true ↔ s.supply.power = .shutdown) ∧
    (∀ r, s.supply.shutdown = some ⟨r, .released⟩ → s.supply.pwrHold = false)

/-- The FSYNC watch runs exactly while the reference is PRESENT and the internal frame timer exactly while it is LOST; in RUN and
SHUTDOWN the reported reference state is the present one (R90 to R93). -/
def ReferenceInv (s : State) : Prop :=
  s.tc.watch.isSome = s.tc.present ∧ s.tc.frameTimer.isSome = !s.tc.present ∧
    (s.supply.power = .run ∨ s.supply.power = .shutdown → s.tc.reported = s.tc.present)

end Sys2Proof.Machine
end

