-- ==== Sys2Proof/WellFormed.lean ====
section
/-! DEFINITION. Which commands the lines of the part can carry: values that fit their widths, arguments that fit a payload of 128
bytes, and no KIND of the catalogue in an unknown frame. The meanings are total and answer ill-formed commands too. -/

namespace Sys2Proof

/-- A number of at most 32 bits (00_scope, 7.3). -/
def fits32 (n : Nat) : Bool := n < 4294967296

/-- A signed number of 32 bits (R38, R54). -/
def fitsSigned (x : Int) : Bool := -2147483648 ≤ x ∧ x ≤ 2147483647

/-- Whether a KIND byte is a request kind of the catalogue, 01h..3Eh (section 11.5.2). -/
def catalogued (kind : Byte) : Bool := 1 ≤ kind.toNat ∧ kind.toNat ≤ 0x3E

/-- The arguments of a request meet a check; a malformed payload meets every check. -/
def Args.meets (f : α → Bool) : Args α → Bool
  | .malformed => true
  | .given a => f a

/-- A label's fields fit their bytes (section 11.5.4). -/
def Label.fits (l : Label) : Bool := l.hours < 256 ∧ l.minutes < 256 ∧ l.seconds < 256 ∧ l.frames < 128

/-- Whether the lines can carry a command. -/
def Instr.wf : Instr → Bool
  | .frameReceived chars => !chars.isEmpty
  | .unknownKind _ kind => !catalogued kind
  | .inputConfig _ a => a.meets fun a => fits32 a.input
  | .keymapSet _ a => a.meets fun a => fits32 a.input
  | .keymapGet _ a => a.meets fun a => fits32 a.input
  | .rockerSet _ a => a.meets fun a => fits32 a.centre && fits32 a.deadZone && fits32 a.fullScale
  | .adcEnable _ a => a.meets fun a => decide (a.length ≤ 128) && a.all fits32
  | .zoomGoto _ a => a.meets fun a => fitsSigned a.position && fits32 a.speed
  | .focusGoto _ a => a.meets fun a => fitsSigned a.position && fits32 a.speed
  | .zoomDrive _ a => a.meets fun a => fitsSigned a.speed && fits32 a.duration
  | .presetRecall _ a => a.meets fits32
  | .presetSet _ a => a.meets fun a => fits32 a.preset && a.position.all fitsSigned
  | .lensConfig _ a => a.meets fun a => fits32 a.zoomVmax && fits32 a.presetSpeed && fits32 a.zoomGap && fits32 a.focusGap
  | .stabGainTableSet _ a => a.meets fun a => decide (a.length ≤ 64) && a.all fun g => decide (g ≤ 65535)
  | .stabOffsetSet _ a => a.meets fun a => fits32 a.offset
  | .tcSet _ a => a.meets Label.fits
  | .clipNumberSet _ a => a.meets fits32
  | .recConfirm _ a => a.meets fits32
  | .clipClosed _ a => a.meets fun a => fits32 a.number
  | .cardReport _ a => a.meets fun a => fits32 a.remaining
  | .mediaUpdate _ a => a.meets fun a => fits32 a.remaining
  | .clipRead _ a => a.meets fun
    | .byIndex i => fits32 i
    | .byNumber n => fits32 n
  | .audioConfig _ a => a.meets fun a => fits32 a.ch1.agcMax && fits32 a.ch2.agcMax
  | .audioGainSet _ a => a.meets fun a => fits32 a.channel && fits32 a.gain
  | .ovlWrite _ a => a.meets fun a =>
    fits32 a.page && fits32 a.row && fits32 a.column && decide (a.text.length ≤ 128)
  | .ovlFill _ a => a.meets fun a => fits32 a.page && fits32 a.row && fits32 a.column && fits32 a.count
  | .ovlScroll _ a => a.meets fun a =>
    fits32 a.page && fits32 a.top && fits32 a.bottom && fits32 a.left && fits32 a.right && fits32 a.lines
  | .ovlClear _ a => a.meets fits32
  | .ovlCursor _ a => a.meets fun a => fits32 a.page && fits32 a.row && fits32 a.column
  | .ovlPageSelect _ a => a.meets fits32
  | .ovlFieldSet _ a => a.meets fun a => fits32 a.page && fits32 a.row && fits32 a.column
  | .ovlGet _ a => a.meets fun a => fits32 a.page && fits32 a.row
  | .supplySet _ a => a.meets fun a => fits32 a.warn && fits32 a.low && fits32 a.cutoff
  | .powerOnReset | .warmReset | .lineBreak | .interByteTimeout | .txFrameEnd | .statusGet _ | .beep _ _ | .tokensRead _
  | .beeperSet _ _ | .controlsGet _ | .adcCalibrate _ | .adcGet _ | .lensHome _ _ | .lensStop _ _ | .focusModeSet _ _
  | .lensGet _ | .stabModeSet _ _ | .stabGet _ | .tcModeSet _ _ | .userbitsSet _ _ | .tcGet _ | .recConfig _ _ | .recStart _
  | .recStop _ | .mediaFault _ _ | .tallySet _ _ | .recGet _ | .clipMark _ _ | .clipLogClear _ | .audioGet _
  | .ovlMenuSet _ _ | .supplyGet _ | .standbyEnter _ _ | .standbyExit _ _ | .shutdown _ _ | .resetPart _ _ | .scan _
  | .longPressTimerExpiry _ | .encoderTransition _ _ _ _ | .beepPatternEnd | .rockerRequestTimer | .supplyRequestTimer
  | .conversionEnd _ | .calibrationEnd _ | .controlEvent _ | .stallPauseEnd _ | .stallSuspectExpiry _ | .directionGapEnd _
  | .motorEncoderEdge _ _ _ | .speedTimeout _ | .seekEnd _ | .homingTimeout _ | .driveTimerExpiry | .overrideWindowExpiry
  | .sampleEvent | .fsyncEdge | .fsyncWatchExpiry | .internalFrameTimerExpiry | .rowMessageEnd | .vfPresentChange _
  | .warningExpiry _ | .cardLineEdge _ _ _ | .cardLineAccepted _ _ | .mountTimeout _ | .confirmationTimeout | .closeTimeout
  | .accountingEvent | .toggleInhibitExpiry | .tallyBlinkToggle | .levelEvent | .settlingExpiry _ | .shutdownLensStop
  | .pwrHoldRelease | .characterError _ => true

end Sys2Proof
end

