-- ==== Sys2Proof/Certificates/Slice0/Obligations.lean ====
section
/-! DEFINITION. The statements for the provers, one `Obligations.<Name>` each; OBLIGATIONS.json lists them. Where a title says so, a
clause is the model's own choice and the log entry is named. -/

open Sys2Proof Sys2Proof.Machine

/-! ## The part as a whole -/

/-- Section 5.1 of the introduction, and the model's queue of commands (log entry 2): the command at the front is carried out on the
rest of the queue, and the part idles on an empty queue. -/
def Obligations.StepRunsTheFrontCommand : Prop :=
  (∀ (c : Instr) (rest : List Instr) (s : State),
    step { s with pending := c :: rest } = exec c { s with pending := rest }) ∧
  ∀ s : State, s.pending = [] → step s = .next s

/-- Every command answers a next state, also an event that the part's state makes impossible and any command after PWR_HOLD is
released: the model's reading (log entry 8). A command leaves the commands that wait alone, and only a power-on reset takes the model's
clock back (log entries 1 and 2). What is the model's choice or reading in it: log entries 1, 2 and 8. -/
def Obligations.EveryCommandCompletes : Prop :=
  ∀ (i : Instr) (s : State), ∃ t, exec i s = .next t ∧ t.pending = s.pending ∧ (i ≠ .powerOnReset → s.clock ≤ t.clock)

/-- R165, R166, R168: after every command each live field's text is the rendering of the state that its block then holds, with the
characters and the style that the row of its kind gives. What is the model's choice or reading in it: log entry 29. -/
def Obligations.LiveFieldsFollowTheBlocks : Prop :=
  ∀ (i : Instr) (s t : State), exec i s = .next t → ∀ k,
    (t.ovl.fields.entry k).text = render t k ∧ FieldShows t k (t.ovl.fields.entry k).text

/-- R197: an idle transmitter has nothing to send; a command leaves it idle only where no reply and no notice waits. What is the
model's choice or reading in it: log entry 16. -/
def Obligations.IdleTransmitterLeavesNothingWaiting : Prop :=
  ∀ (i : Instr) (s t : State), exec i s = .next t → t.port.tx = none → t.port.replies = [] ∧ t.port.notices = []

/-- R165, R176, R197, R198: what the end of every command changes: the texts of live fields, dirty marks of rows that an enabled
field with a new text lies on, and what the transmitter takes: while it is idle the oldest waiting reply, else the oldest notice, which
leaves the notice queue. Everything else stands. What is the model's choice or reading in it: log entries 16 and 29. -/
def Obligations.EndOfStepFrame : Prop :=
  ∀ s : State,
    settle s = { s with ovl := (settle s).ovl, port := (settle s).port } ∧
    (settle s).ovl = { s.ovl with fields := (settle s).ovl.fields, pages := (settle s).ovl.pages } ∧
    (settle s).port = { s.port with replies := (settle s).port.replies, notices := (settle s).port.notices,
                                    tx := (settle s).port.tx } ∧
    (s.port.tx.isSome = true → (settle s).port = s.port) ∧
    (s.port.tx = none →
      (∀ r rest, s.port.replies = r :: rest → (settle s).port = { s.port with tx := some (.reply r 0), replies := rest }) ∧
      (∀ n rest, s.port.replies = [] → s.port.notices = n :: rest →
        (settle s).port = { s.port with tx := some (.notice n), notices := rest }) ∧
      (s.port.replies = [] → s.port.notices = [] → (settle s).port = s.port)) ∧
    (∀ k, (settle s).ovl.fields.entry k = { s.ovl.fields.entry k with text := render s k } ∧ FieldShows s k (render s k)) ∧
    ∀ page : Fin 4,
      ((settle s).ovl.pages.get page).cells = (s.ovl.pages.get page).cells ∧
      ((settle s).ovl.pages.get page).cursor = (s.ovl.pages.get page).cursor ∧
      ∀ row : Fin 16, ((settle s).ovl.pages.get page).dirty.get row = true ↔
        ((s.ovl.pages.get page).dirty.get row = true ∨
          ∃ k, (s.ovl.fields.entry k).enable = true ∧ (s.ovl.fields.entry k).page = page ∧
            (s.ovl.fields.entry k).row = row ∧ (s.ovl.fields.entry k).text ≠ render s k)

/-- R164: in a part whose enabled fields do not overlap, a displayed cell is the live cell where an enabled field covers the position
and the host cell elsewhere. -/
def Obligations.DisplayedCellsComeFromTheTwoLayers : Prop :=
  ∀ (s : State) (page : Fin 4) (row : Fin 16) (column : Fin 40), FieldsInv s →
    (∀ k cell, covers k (s.ovl.fields.entry k) page row column = true →
      (s.ovl.fields.entry k).text[column.val - (s.ovl.fields.entry k).column.val]? = some cell →
      s.ovl.displayedCell page row column = cell) ∧
    ((∀ k, covers k (s.ovl.fields.entry k) page row column = false) →
      s.ovl.displayedCell page row column = s.ovl.hostCell page row column)

/-! ## Invariants that every step keeps -/

/-- R85, R90 to R93: the timecode label is at every moment a valid label of the selected rate; the watch runs exactly while the reference
is PRESENT, the internal frame timer exactly while it is LOST, and in RUN and SHUTDOWN the reported reference state is the present one. -/
def Obligations.StepKeepsTheLabelAndTheReference : Prop :=
  ∀ s t : State, step s = .next t → (LabelInv s → LabelInv t) ∧ (ReferenceInv s → ReferenceInv t)

/-- R18, R193, R195, R198: no queue of the part outgrows its capacity. -/
def Obligations.StepKeepsTheQueueCapacities : Prop := ∀ s t : State, QueueInv s → step s = .next t → QueueInv t

/-- R131 to R133, R184: the clip log, the record supervisor and the supply monitor agree; exactly one record is OPEN while a clip is in
hand and none otherwise; in LOW and CUTOFF nothing is recorded or started. -/
def Obligations.StepKeepsTheClipsAndTheSupplyInStep : Prop := ∀ s t : State, ClipInv s → step s = .next t → ClipInv t

/-- R145, R146, R155: the applied gain is set gain less reduction outside settling and 0 throughout it, and CH2 follows CH1 while the
link is ON. -/
def Obligations.StepKeepsTheGains : Prop := ∀ s t : State, GainInv s → step s = .next t → GainInv t

/-- R163, R164, R175: enabled live fields never overlap and lie within their rows; the menu mode and the saved page agree. -/
def Obligations.StepKeepsTheOverlay : Prop :=
  ∀ s t : State, FieldsInv s ∧ MenuInv s → step s = .next t → FieldsInv t ∧ MenuInv t

/-- R67, R68: the stabiliser is ACTIVE only while its five conditions hold, and out of ACTIVE its coils are centred. -/
def Obligations.StepKeepsTheStabiliser : Prop := ∀ s t : State, StabInv s → step s = .next t → StabInv t

/-- R39, R44, R57, in a part whose power state the blocks agree on: the presets lie in the span of a HOMED zoom, no duty leaves
0..1023, and the bridges float in INIT and STANDBY and not in RUN. -/
def Obligations.StepKeepsTheLens : Prop := ∀ s t : State, LensInv s ∧ PowerInv s → step s = .next t → LensInv t

/-- R26, R28: an IDLE converter has no group pending and no calibration owed. -/
def Obligations.StepKeepsTheConverterBusy : Prop := ∀ s t : State, ConverterInv s → step s = .next t → ConverterInv t

/-- R185, R187, R188: every block was handed the power state in force; an exit is under way in STANDBY only and a shutdown exactly in
SHUTDOWN. -/
def Obligations.StepKeepsThePowerState : Prop := ∀ s t : State, PowerInv s → step s = .next t → PowerInv t

/-- The part right after a power-on reset meets every invariant of this file. What is the model's choice or reading in it: log entry
7. -/
def Obligations.ResetMeetsEveryInvariant : Prop :=
  LabelInv State.reset ∧ QueueInv State.reset ∧ ClipInv State.reset ∧ GainInv State.reset ∧ FieldsInv State.reset ∧
    MenuInv State.reset ∧ StabInv State.reset ∧ LensInv State.reset ∧ ConverterInv State.reset ∧ PowerInv State.reset ∧
    ReferenceInv State.reset

/-- R85, first paragraph, R188, R190: the label changes at a frame event, by an accepted TC_SET or TC_MODE_SET and at a power-on reset
alone; PWR_HOLD is released by the last step of a shutdown alone and asserted again by a power-on reset alone. -/
def Obligations.OnlyNamedCommandsMoveTheLabelAndPwrHold : Prop :=
  ∀ (i : Instr) (s t : State), exec i s = .next t →
    (t.tc.label ≠ s.tc.label → i = .fsyncEdge ∨ i = .internalFrameTimerExpiry ∨ i = .powerOnReset ∨
      (∃ tag a, i = .tcSet tag a) ∨ ∃ tag a, i = .tcModeSet tag a) ∧
    (s.supply.pwrHold = true → t.supply.pwrHold = false → i = .pwrHoldRelease) ∧
    (s.supply.pwrHold = false → t.supply.pwrHold = true → i = .powerOnReset)

/-! ## The command port -/

/-- R189: in SHUTDOWN every request of the catalogue but STATUS_GET is refused without effect; STATUS_GET is answered; a
clip closes UNCONFIRMED at the end of its close window; and the RST pin resets the part. What is the model's choice or reading in it:
log entries 11 (the refusal of CLIP_READ carries the number of records held, as R141 says of every reply to it) and 14 (the RST pin as
the command WARM_RESET). -/
def Obligations.ShutdownRefusesEveryRequest : Prop :=
  (∀ (i : Instr) (k : Kind) (tag : Byte) (s : State), requestOf i = some (k, tag) → k ≠ .statusGet →
    s.supply.power = .shutdown → s.port.takes (kindCode k) tag = true →
    exec i s = .next (answered k tag .refused .shutdown
      (if k = .clipRead then .clip s.log.records.length none else .none) (s.brought k tag))) ∧
  (∀ (tag : Byte) (s : State), s.supply.power = .shutdown → s.port.takes (kindCode .statusGet) tag = true → ∃ r,
    StatusReported (s.brought .statusGet tag) r ∧ exec (.statusGet tag) s = .next (answered .statusGet tag .ok .none (.status r)
      { s.brought .statusGet tag with port.linkError := false, port.noticesLost := false })) ∧
  ∀ s : State, s.supply.power = .shutdown →
    (∀ t, s.recorder.closeTimer = some t → ∃ u, exec .closeTimeout s = .next u ∧ u.log.records = s.log.records.map fun r =>
      if r.state = .opened then { r with state := .unconfirmed, endLabel := s.recorder.endLabel } else r) ∧
    ∃ t, exec .warmReset s = .next t ∧ t.supply.power = .init

/-- R195, for a request command that finds another request in hand or four held: its frame joins the queue; at four held an OVERRUN
reply joins the overrun list; at four of those the link-error latch is set. R195, R196, for a frame of a KIND that is no request
kind: it arrives like any other, and in its turn the command port answers it UNKNOWN_KIND with KIND BFh; nothing else happens. R196,
R197, of every request: the port passes the oldest untaken one, or one that arrives with none untaken; an answered one becomes taken,
and its reply, with its KIND plus 80h and its TAG, joins the tail of the replies. What is the model's choice or reading in it: log
entry 3. -/
def Obligations.RequestsAreTakenInTheirTurn : Prop :=
  (∀ (k : Kind) (tag : Byte) (s : State),
     (s.port.takes (kindCode k) tag = true ↔
       (∃ before e rest, s.port.queue = before ++ e :: rest ∧ (∀ x ∈ before, x.state = .taken) ∧ e.state = .untaken ∧
         e.kind = kindCode k ∧ e.tag = tag) ∨ ((∀ x ∈ s.port.queue, x.state = .taken) ∧ s.port.queue.length < 4)) ∧
     ((∃ x ∈ s.port.queue, x.state ≠ .taken) → s.brought k tag = s) ∧
     ((∀ x ∈ s.port.queue, x.state = .taken) → s.port.queue.length < 4 →
       s.brought k tag = { s with port.queue := s.port.queue ++ [⟨kindCode k, tag, none, .untaken⟩] }) ∧
     (∀ (before rest : List Entry) (e : Entry), s.port.queue = before ++ e :: rest → (∀ x ∈ before, x.state = .taken) →
       e.state ≠ .taken →
       (∀ (result : Result) (reason : Reason) (body : Body), answered k tag result reason body s = settle { s with
         port.queue := before ++ { e with state := .taken } :: rest
         port.replies := s.port.replies ++ [⟨kindCode k + 0x80, tag, result, reason, body, false⟩] }) ∧
       ∀ st, setInHand st s.port.queue = before ++ { e with state := st } :: rest)) ∧
  (∀ (i : Instr) (k : Kind) (tag : Byte) (s : State), requestOf i = some (k, tag) →
     s.port.takes (kindCode k) tag = false →
     (s.port.queue.length < 4 →
       exec i s = .next (settle { s with port.queue := s.port.queue ++ [⟨kindCode k, tag, none, .untaken⟩] })) ∧
     (4 ≤ s.port.queue.length → s.port.overruns < 4 →
       exec i s = .next (settle { s with
         port.replies := s.port.replies ++ [⟨kindCode k + 0x80, tag, .overrun, .none, .none, true⟩] })) ∧
     (4 ≤ s.port.queue.length → 4 ≤ s.port.overruns → exec i s = .next (settle { s with port.linkError := true }))) ∧
  (∀ (tag kind : Byte) (s : State), catalogued kind = false →
     (s.port.takes kind tag = true →
       exec (.unknownKind tag kind) s = .next (settle { s with
         port.queue := setInHand .taken (s.port.bring kind tag).queue,
         port.replies := s.port.replies ++ [⟨0xBF, tag, .unknownKind, .none, .none, false⟩] })) ∧
     (s.port.takes kind tag = false → s.port.queue.length < 4 →
       exec (.unknownKind tag kind) s =
         .next (settle { s with port.queue := s.port.queue ++ [⟨kind, tag, none, .untaken⟩] })))

/-- R194, R195 on CMD_RX: the characters of a frame with a good CHECK, taken from hunting, bring one request; a wrong CHECK is a line
error; a LEN above 128 is one as soon as it arrives. -/
def Obligations.FramesArriveWhole : Prop :=
  ∀ (kind tag check : Byte) (payload : List Byte) (s : State), s.port.assembler = .hunting → payload.length ≤ 128 →
    (byteSum ([BitVec.ofNat 8 payload.length, kind, tag] ++ payload ++ [check]) = 0 →
      (s.port.queue.length < 4 →
        exec (.frameReceived ([0xA5, BitVec.ofNat 8 payload.length, kind, tag] ++ payload ++ [check])) s =
          .next (settle { s with port.queue := s.port.queue ++ [⟨kind, tag, some payload, .untaken⟩] })) ∧
      (4 ≤ s.port.queue.length → s.port.overruns < 4 →
        exec (.frameReceived ([0xA5, BitVec.ofNat 8 payload.length, kind, tag] ++ payload ++ [check])) s =
          .next (settle { s with port.replies := s.port.replies ++
            [⟨if catalogued kind then kind + 0x80 else 0xBF, tag, .overrun, .none, .none, true⟩] })) ∧
      (4 ≤ s.port.queue.length → 4 ≤ s.port.overruns →
        exec (.frameReceived ([0xA5, BitVec.ofNat 8 payload.length, kind, tag] ++ payload ++ [check])) s =
          .next (settle { s with port.linkError := true }))) ∧
    (byteSum ([BitVec.ofNat 8 payload.length, kind, tag] ++ payload ++ [check]) ≠ 0 →
      exec (.frameReceived ([0xA5, BitVec.ofNat 8 payload.length, kind, tag] ++ payload ++ [check])) s =
        .next (settle { s with port.linkError := true })) ∧
    ∀ len : Byte, 128 < len.toNat → exec (.frameReceived [0xA5, len]) s = .next (settle { s with port.linkError := true })

/-- R194 and section 11.5.6: LEN, KIND, TAG, payload and CHECK of a frame sum to 0 modulo 256, and so do the bytes of a row message after
its first. -/
def Obligations.FramesAndRowMessagesSumToZero : Prop :=
  (∀ (kind tag : Byte) (payload : List Byte), byteSum (frameBytes kind tag payload).tail = 0) ∧
  ∀ (page : Fin 4) (row : Fin 16) (cells : Vector Cell 40) (cursor : Cursor),
    byteSum (rowMessage page row cells cursor).tail = 0 ∧ (rowMessage page row cells cursor).length = 85

/-- R194, R199: a faulty character and an inter-byte timeout in a frame are line errors; a low line of 24 bit times sets nothing,
and the line break drops every untaken request but the one in hand. What is the model's choice or reading in it: log entry 17. -/
def Obligations.LineErrorsAndLineBreaks : Prop :=
  ∀ s : State,
    exec (.characterError .parity) s = .next (settle { s with port.assembler := .hunting, port.linkError := true }) ∧
    exec (.characterError .framing) s = .next (settle { s with port.assembler := .hunting, port.linkError := true }) ∧
    (∀ n, n < 24 →
      exec (.characterError (.lowLine n)) s = .next (settle { s with port.assembler := .hunting, port.linkError := true })) ∧
    (∀ n, 24 ≤ n → exec (.characterError (.lowLine n)) s = .next (settle s)) ∧
    (s.port.assembler = .inFrame [] →
      exec (.characterError .oversizeLength) s = .next (settle { s with port.assembler := .hunting, port.linkError := true })) ∧
    (∀ chars, s.port.assembler = .inFrame chars →
      exec .interByteTimeout s = .next (settle { s with port.assembler := .hunting, port.linkError := true })) ∧
    (∀ (taken rest : List Entry) (e : Entry), s.port.queue = taken ++ e :: rest → (∀ x ∈ taken, x.state = .taken) →
      e.state ≠ .taken →
      exec .lineBreak s = .next (settle { s with
        port.assembler := .hunting, port.queue := taken ++ e :: rest.filter fun x => x.state = .taken })) ∧
    ((∀ x ∈ s.port.queue, x.state = .taken) → exec .lineBreak s = .next (settle { s with port.assembler := .hunting }))

/-- R198: a notice joins the tail of its queue, or is lost with the notices-lost latch set while the queue holds 32; so at the end of
a settling period. R193, R195, R197, R190: at the end of a frame the transmitter becomes idle; the last frame of a reply releases the
oldest taken entry, that of an OVERRUN reply none; OVL_GET's reply takes four frames, each with its part byte and the contents of its
row in the table; and RESET_PART's OK resets the part. What is the model's choice or reading in it: log entries 9, 14 and 16. -/
def Obligations.FramesAreSentToTheirEnd : Prop :=
  (∀ (p : Port) (n : Notice),
    (p.notices.length < 32 → p.post n = { p with notices := p.notices ++ [n] }) ∧
    (32 ≤ p.notices.length → p.post n = { p with noticesLost := true })) ∧
  (∀ (s : State) (ch : Channel) (t : Nat), (s.audio.channel ch).settling = some t → s.port.tx.isSome = true → ∃ u,
    exec (.settlingExpiry ch) s = .next u ∧
    (s.port.notices.length < 32 →
      u.port = { s.port with notices := s.port.notices ++ [.audioSettled ch (s.audio.channel ch).input] }) ∧
    (32 ≤ s.port.notices.length → u.port = { s.port with noticesLost := true })) ∧
  (∀ s : State,
    (∀ n, s.port.tx = some (.notice n) → exec .txFrameEnd s = .next (settle { s with port.tx := none })) ∧
    (∀ r part, s.port.tx = some (.reply r part) → isResetReply r = false →
      (∀ rep, r.body = .overlay rep → part < 3 →
        exec .txFrameEnd s = .next (settle { s with port.tx := some (.reply r (part + 1)) })) ∧
      ((∀ rep, r.body ≠ .overlay rep) ∨ 3 ≤ part →
        (r.overrun = true → exec .txFrameEnd s = .next (settle { s with port.tx := none })) ∧
        (∀ (untaken rest : List Entry) (e : Entry), r.overrun = false → s.port.queue = untaken ++ e :: rest →
          (∀ x ∈ untaken, x.state ≠ .taken) → e.state = .taken →
          exec .txFrameEnd s = .next (settle { s with port.tx := none, port.queue := untaken ++ rest })))) ∧
    ∀ r part, s.port.tx = some (.reply r part) → isResetReply r = true →
      ∃ t, exec .txFrameEnd s = .next t ∧ exec .warmReset s = .next t) ∧
  ∀ (r : Reply) (o : OvlReport), r.body = .overlay o →
    partByte r 0 = 0x00 ∧ partByte r 1 = 0x01 ∧ partByte r 2 = 0x02 ∧ partByte r 3 = 0x83 ∧
    o.contents 0 = .settings
      { displayed := o.displayed, menu := o.menu, saved := o.saved
        placements := [.timecode, .recState, .clipNo, .supply, .mediaA, .mediaB, .zoomBar, .focus, .stab, .audio1, .audio2,
            .warning].map fun k =>
          ⟨(o.fields.entry k).enable, (o.fields.entry k).page, (o.fields.entry k).row, (o.fields.entry k).column⟩
        warnings := o.warnings, shown := o.shown, cursors := o.cursors, dirty := o.dirty, vfPresent := o.vfPresent
        sending := o.sending } ∧
    sendingBytes (.reply r 1) = some (frameBytes r.kind r.tag ([resultCode r.result, reasonCode r.reason, 0x01] ++
      (o.fields.timecode.text ++ o.fields.recState.text ++ o.fields.clipNo.text ++ o.fields.supply.text ++ o.fields.mediaA.text ++
        o.fields.mediaB.text ++ o.fields.zoomBar.text ++ o.fields.focus.text ++ o.fields.stab.text ++ o.fields.audio1.text ++
        o.fields.audio2.text ++ o.fields.warning.text).map (·.code))) ∧
    sendingBytes (.reply r 2) = some (frameBytes r.kind r.tag ([resultCode r.result, reasonCode r.reason, 0x02] ++
      (o.hostCells.toList.map fun c => [c.code, styleCode c.style]).flatten)) ∧
    sendingBytes (.reply r 3) = some (frameBytes r.kind r.tag ([resultCode r.result, reasonCode r.reason, 0x83] ++
      (o.displayedCells.toList.map fun c => [c.code, styleCode c.style]).flatten))

/-- R200, R22, R83, R98, R159, R191: each report is answered OK with the fields its rule names, and clears what the rule says it
clears, and nothing else; TOKENS_READ takes out the oldest tokens, at most eight (R19). What is the model's choice or reading in it: log
entry 1. -/
def Obligations.ReportsClearWhatTheyReport : Prop :=
  ∀ (tag : Byte) (s : State),
    (Passed .statusGet tag s → ∃ r, StatusReported (s.brought .statusGet tag) r ∧
      exec (.statusGet tag) s = .next (answered .statusGet tag .ok .none (.status r)
        { s.brought .statusGet tag with port.linkError := false, port.noticesLost := false })) ∧
    (Passed .controlsGet tag s → ∃ r, ControlsReported s.controls r ∧
      exec (.controlsGet tag) s = .next (answered .controlsGet tag .ok .none (.controls r)
        { s.brought .controlsGet tag with controls.rocker.misses := 0 })) ∧
    (Passed .stabGet tag s → ∃ r, StabReported s.stab r ∧
      exec (.stabGet tag) s = .next (answered .stabGet tag .ok .none (.stab r)
        { s.brought .stabGet tag with stab.missed := 0, stab.replacements := 0 })) ∧
    (Passed .tcGet tag s → ∃ r, TcReported s.tc r ∧
      exec (.tcGet tag) s = .next (answered .tcGet tag .ok .none (.timecode r)
        { s.brought .tcGet tag with tc.dayRoll := false })) ∧
    (Passed .audioGet tag s → ∃ r, AudioReported s.clock s.audio r ∧
      exec (.audioGet tag) s = .next (answered .audioGet tag .ok .none (.audio r)
        { s.brought .audioGet tag with
          audio.ch1.overFlag := s.audio.ch1.overFlag && s.audio.ch1.isOver,
          audio.ch2.overFlag := s.audio.ch2.overFlag && s.audio.ch2.isOver,
          audio.missed := 0, audio.replacements := 0 })) ∧
    (Passed .supplyGet tag s → ∃ r, SupplyReported s.supply r ∧
      exec (.supplyGet tag) s = .next (answered .supplyGet tag .ok .none (.supply r)
        { s.brought .supplyGet tag with supply.missed := 0 })) ∧
    (∀ read left : List (BitVec 16), Passed .tokensRead tag s → s.controls.tokens = read ++ left →
      read.length = min 8 s.controls.tokens.length →
      exec (.tokensRead tag) s = .next (answered .tokensRead tag .ok .none (.tokens read left.length)
        { s.brought .tokensRead tag with controls.tokens := left }))

/-- R11, R35, R63, R129, R141, R179: reports that change nothing, with the fields their rules name. CLIP_READ finds a record by its
index or its number and otherwise answers BAD_ARGUMENT, always with the number of records held; KEYMAP_GET of an input and OVL_GET of a
page or row out of range are BAD_ARGUMENT, and each of the three with a payload that does not hold its arguments. What is the model's
choice or reading in it: log entries 1 and 6. -/
def Obligations.ReportsThatChangeNothing : Prop :=
  ∀ (tag : Byte) (s : State),
    (∀ (a : KeymapGetArgs), Passed .keymapGet tag s → 24 ≤ a.input → exec (.keymapGet tag (.given a)) s =
      .next (answered .keymapGet tag .badArgument .none .none (s.brought .keymapGet tag))) ∧
    (Passed .keymapGet tag s → exec (.keymapGet tag .malformed) s =
      .next (answered .keymapGet tag .badArgument .none .none (s.brought .keymapGet tag))) ∧
    (∀ (a : OvlGetArgs), Passed .ovlGet tag s → 4 ≤ a.page ∨ 16 ≤ a.row → exec (.ovlGet tag (.given a)) s =
      .next (answered .ovlGet tag .badArgument .none .none (s.brought .ovlGet tag))) ∧
    (Passed .ovlGet tag s → exec (.ovlGet tag .malformed) s =
      .next (answered .ovlGet tag .badArgument .none .none (s.brought .ovlGet tag))) ∧
    (Passed .clipRead tag s → exec (.clipRead tag .malformed) s = .next (answered .clipRead tag .badArgument .none
      (.clip s.log.records.length none) (s.brought .clipRead tag))) ∧
    (∀ (a : KeymapGetArgs) (i : Fin 24), Passed .keymapGet tag s → a.input = i.val →
      exec (.keymapGet tag (.given a)) s = .next (answered .keymapGet tag .ok .none
        (.keyEntry ((s.controls.keymap.layer a.layer).get i)) (s.brought .keymapGet tag))) ∧
    (Passed .adcGet tag s → ∃ r, AdcReported s.conv r ∧
      exec (.adcGet tag) s = .next (answered .adcGet tag .ok .none (.adc r) (s.brought .adcGet tag))) ∧
    (Passed .lensGet tag s → ∃ r, LensReported s.clock s.lens r ∧
      exec (.lensGet tag) s = .next (answered .lensGet tag .ok .none (.lens r) (s.brought .lensGet tag))) ∧
    (Passed .recGet tag s → ∃ r, RecReported s r ∧
      exec (.recGet tag) s = .next (answered .recGet tag .ok .none (.recorder r) (s.brought .recGet tag))) ∧
    (∀ (a : OvlGetArgs) (page : Fin 4) (row : Fin 16), Passed .ovlGet tag s → a.page = page.val → a.row = row.val → ∃ r,
      OvlReported s page row r ∧
      exec (.ovlGet tag (.given a)) s = .next (answered .ovlGet tag .ok .none (.overlay r) (s.brought .ovlGet tag))) ∧
    (Passed .clipRead tag s →
      (∀ i r, s.log.records[i]? = some r → i ≤ 63 →
        exec (.clipRead tag (.given (.byIndex i))) s = .next (answered .clipRead tag .ok .none
          (.clip s.log.records.length (some (i, r))) (s.brought .clipRead tag))) ∧
      (∀ i r, s.log.records[i]? = some r → clipNumberLegal r.number = true →
        (∀ j x, j < i → s.log.records[j]? = some x → x.number ≠ r.number) →
        exec (.clipRead tag (.given (.byNumber r.number))) s = .next (answered .clipRead tag .ok .none
          (.clip s.log.records.length (some (i, r))) (s.brought .clipRead tag))) ∧
      (∀ sel, s.log.find sel = none →
        exec (.clipRead tag (.given sel)) s = .next (answered .clipRead tag .badArgument .none
          (.clip s.log.records.length none) (s.brought .clipRead tag))) ∧
      (∀ n, (∀ r ∈ s.log.records, r.number ≠ n) → s.log.find (.byNumber n) = none) ∧
      (∀ i, s.log.records.length ≤ i ∨ 63 < i → s.log.find (.byIndex i) = none))

/-- R201, R189 and R21: BEEP, decided in the order of its table; and the output of the beeper while a pattern sounds, by the columns
Sound and Duration of the patterns' table. What is the model's choice or reading in it: log entry 1 (the end time on the model's
clock). -/
def Obligations.BeepIsDecidedByItsTable : Prop :=
  (∀ (tag : Byte) (s : State), s.port.takes (kindCode .beep) tag = true →
    (s.supply.power = .shutdown → ∀ a, exec (.beep tag a) s =
      .next (answered .beep tag .refused .shutdown .none (s.brought .beep tag))) ∧
    (s.supply.power ≠ .shutdown →
      exec (.beep tag .malformed) s = .next (answered .beep tag .badArgument .none .none (s.brought .beep tag)) ∧
      ∀ p,
        (s.controls.beepEnable = false →
          exec (.beep tag (.given p)) s = .next (answered .beep tag .refused .none .none (s.brought .beep tag))) ∧
        (s.controls.beepEnable = true → s.controls.beeper.isSome = true →
          exec (.beep tag (.given p)) s = .next (answered .beep tag .refused .inProgress .none (s.brought .beep tag))) ∧
        (s.controls.beepEnable = true → s.controls.beeper = none →
          exec (.beep tag (.given p)) s = .next (answered .beep tag .ok .none .none
            { s.brought .beep tag with controls.beeper := some ⟨p, s.clock + patternTime p⟩ })))) ∧
  patternTime .short = 40000 ∧ patternTime .double = 140000 ∧ patternTime .long = 400000 ∧ patternTime .reject = 150000 ∧
  ∀ (c : Controls) (t : Nat),
    (c.beeper = none → c.beeperOn t = false) ∧
    (∀ (p : Pattern) (start d : Nat), c.beeper = some ⟨p, start + patternTime p⟩ → t = start + d →
      (c.beeperOn t = true ↔ match p with
        | .short => d < 40000
        | .double => d < 40000 ∨ (100000 ≤ d ∧ d < 140000)
        | .long => d < 400000
        | .reject => d < 30000 ∨ (60000 ≤ d ∧ d < 90000) ∨ (120000 ≤ d ∧ d < 150000)))

/-! ## Control scanner and converter -/

/-- R1, R3, R10, R11, R13, R21: settings of the scanner and the beeper: a legal argument is stored and the reply is OK; any other is
answered BAD_ARGUMENT without effect. Disabling beeps silences a sounding pattern. INPUT_CONFIG replaces an input's configuration: an
input that is disabled loses its held record silently, with the modifier changes of a release, and is held INACTIVE; an input that is
enabled starts INACTIVE. -/
def Obligations.ScannerSettingsAreStored : Prop :=
  (∀ (tag : Byte) (s : State),
     (Passed .keymapSet tag s → exec (.keymapSet tag .malformed) s =
       .next (answered .keymapSet tag .badArgument .none .none (s.brought .keymapSet tag))) ∧
     (Passed .rockerSet tag s → exec (.rockerSet tag .malformed) s =
       .next (answered .rockerSet tag .badArgument .none .none (s.brought .rockerSet tag))) ∧
     (Passed .beeperSet tag s → exec (.beeperSet tag .malformed) s =
       .next (answered .beeperSet tag .badArgument .none .none (s.brought .beeperSet tag))) ∧
     (Passed .inputConfig tag s → exec (.inputConfig tag .malformed) s =
       .next (answered .inputConfig tag .badArgument .none .none (s.brought .inputConfig tag))) ∧
     (Passed .keymapSet tag s → ∀ (layer : Layer) (input : Nat) (entry : KeyEntry),
       (∀ i : Fin 24, input = i.val →
         exec (.keymapSet tag (.given ⟨layer, input, entry⟩)) s = .next (answered .keymapSet tag .ok .none .none
           { s.brought .keymapSet tag with
             controls.keymap := s.controls.keymap.setLayer ((s.controls.keymap.layer layer).set i entry) layer })) ∧
       (24 ≤ input → exec (.keymapSet tag (.given ⟨layer, input, entry⟩)) s =
         .next (answered .keymapSet tag .badArgument .none .none (s.brought .keymapSet tag)))) ∧
     (Passed .rockerSet tag s → ∀ c d f : Nat,
       (c ≤ 4095 → d ≤ 4095 → f ≤ 4095 → d < f →
         exec (.rockerSet tag (.given ⟨c, d, f⟩)) s = .next (answered .rockerSet tag .ok .none .none
           { s.brought .rockerSet tag with controls.rocker.params := ⟨c, d, f⟩ })) ∧
       (4095 < c ∨ 4095 < d ∨ 4095 < f ∨ f ≤ d →
         exec (.rockerSet tag (.given ⟨c, d, f⟩)) s =
           .next (answered .rockerSet tag .badArgument .none .none (s.brought .rockerSet tag)))) ∧
     (Passed .beeperSet tag s →
       exec (.beeperSet tag (.given true)) s = .next (answered .beeperSet tag .ok .none .none
         { s.brought .beeperSet tag with controls.beepEnable := true }) ∧
       exec (.beeperSet tag (.given false)) s = .next (answered .beeperSet tag .ok .none .none
         { s.brought .beeperSet tag with controls.beepEnable := false, controls.beeper := none }))) ∧
  (∀ (tag : Byte) (s : State) (i : Fin 24) (e : Bool) (p : Polarity) (kind : InputKind) (w : Bool),
     Passed .inputConfig tag s →
     (e = (s.controls.switches.get i).config.enabled →
       exec (.inputConfig tag (.given ⟨i.val, e, p, kind, w⟩)) s = .next (answered .inputConfig tag .ok .none .none
         { s.brought .inputConfig tag with
           controls.switches := s.controls.switches.set i { s.controls.switches.get i with config := ⟨e, p, kind, w⟩ } })) ∧
     ((s.controls.switches.get i).config.enabled = false → e = true →
       exec (.inputConfig tag (.given ⟨i.val, e, p, kind, w⟩)) s = .next (answered .inputConfig tag .ok .none .none
         { s.brought .inputConfig tag with
           controls.switches := s.controls.switches.set i { s.controls.switches.get i with
             config := ⟨e, p, kind, w⟩, accepted := false, count := 0, polls := 0 } })) ∧
     ((s.controls.switches.get i).config.enabled = true → e = false →
       exec (.inputConfig tag (.given ⟨i.val, e, p, kind, w⟩)) s = .next (answered .inputConfig tag .ok .none .none
         { s.brought .inputConfig tag with
           controls.switches := s.controls.switches.set i ⟨⟨e, p, kind, w⟩, false, 0, 0, none⟩
           controls.assign := match (s.controls.switches.get i).held with
             | some h => if h.lockedOut = false ∧ h.entry.action = .assign then s.controls.assign.set i false else s.controls.assign
             | none => s.controls.assign
           controls.lock := match (s.controls.switches.get i).held with
             | some h => s.controls.lock &&
                 !decide (h.lockedOut = false ∧ h.entry.action = .lock ∧ h.kind = .latching)
             | none => s.controls.lock })) ∧
     ∀ n, 24 ≤ n → exec (.inputConfig tag (.given ⟨n, e, p, kind, w⟩)) s =
       .next (answered .inputConfig tag .badArgument .none .none (s.brought .inputConfig tag)))

/-- R25: ADC_ENABLE replaces the seven enables together. Where a gyro enable changes, the stabiliser's copy follows: one that is
ACTIVE goes to STANDBY with its coils centred and posts STAB_STATE, one in STANDBY that only waits for its gyros becomes ACTIVE, and
any other state stands (R67, R68, R70). R31 to R33: ADC_CALIBRATE by the rows of its table: begun at once on an IDLE converter, owed
and not yet answered behind a group in service, refused in STANDBY or while a calibration is in hand. What is the model's choice or
reading in it: log entries 1, 23 and 24. -/
def Obligations.ConverterRequestsAreDecided : Prop :=
  (∀ (tag : Byte) (s : State) (inputs : List Nat), Passed .adcEnable tag s →
     exec (.adcEnable tag .malformed) s = .next (answered .adcEnable tag .badArgument .none .none (s.brought .adcEnable tag)) ∧
     ((∃ n ∈ inputs, 7 ≤ n) → exec (.adcEnable tag (.given inputs)) s =
       .next (answered .adcEnable tag .badArgument .none .none (s.brought .adcEnable tag))) ∧
     ((∀ n ∈ inputs, n < 7) →
       (inputs.contains 0 = s.conv.enables.get 0 → inputs.contains 1 = s.conv.enables.get 1 →
         exec (.adcEnable tag (.given inputs)) s = .next (answered .adcEnable tag .ok .none .none
           { s.brought .adcEnable tag with conv.enables := .ofFn fun i => inputs.contains i.val })) ∧
       ((∃ r, s.stab.state = .fault r) ∨ (s.stab.state = .off ∧ s.stab.setting = false) ∨
           (s.stab.state = .standby ∧ s.stab.setting = true ∧
             (s.stab.cond.run = false ∨ s.stab.cond.zoomHomed = false ∨ s.stab.cond.gyroValid = false ∨
               inputs.contains 0 = false ∨ inputs.contains 1 = false)) →
         (inputs.contains 0 ≠ s.conv.enables.get 0 ∨ inputs.contains 1 ≠ s.conv.enables.get 1) →
         exec (.adcEnable tag (.given inputs)) s = .next (answered .adcEnable tag .ok .none .none
           { s.brought .adcEnable tag with
             conv.enables := .ofFn fun i => inputs.contains i.val
             stab.cond.gyroEnabled := inputs.contains 0 && inputs.contains 1 })) ∧
       (s.stab.state = .standby → s.stab.setting = true → s.stab.cond.run = true → s.stab.cond.zoomHomed = true →
         s.stab.cond.gyroValid = true → s.conv.enables.get 0 = false ∨ s.conv.enables.get 1 = false →
         inputs.contains 0 = true → inputs.contains 1 = true →
         exec (.adcEnable tag (.given inputs)) s = .next (answered .adcEnable tag .ok .none .none
           { s.brought .adcEnable tag with
             conv.enables := .ofFn fun i => inputs.contains i.val
             stab.state := .active .normal, stab.cond.gyroEnabled := true
             port := (s.brought .adcEnable tag).port.post (.stabState (.active .normal) none) })) ∧
       (∀ sub, s.stab.state = .active sub → s.stab.setting = true → s.conv.enables.get 0 = true → s.conv.enables.get 1 = true →
         inputs.contains 0 = false ∨ inputs.contains 1 = false →
         exec (.adcEnable tag (.given inputs)) s = .next (answered .adcEnable tag .ok .none .none
           { s.brought .adcEnable tag with
             conv.enables := .ofFn fun i => inputs.contains i.val
             stab := { s.stab with
               state := .standby, cond := { s.stab.cond with gyroEnabled := false }
               yaw := { s.stab.yaw with acc := 0, rem := 0, traw := 0, target := 0, duty := 512, satRun := 0, learnRun := 0 }
               pitch := { s.stab.pitch with acc := 0, rem := 0, traw := 0, target := 0, duty := 512, satRun := 0, learnRun := 0 }
               panExit := 0, railRun := 0, missedRun := 0 }
             port := (s.brought .adcEnable tag).port.post (.stabState .standby
               (some ⟨!s.stab.cond.run, !s.stab.cond.zoomHomed, true, !s.stab.cond.gyroValid⟩)) })))) ∧
  (∀ (tag : Byte) (s : State), Passed .adcCalibrate tag s →
     (s.supply.power = .standby → exec (.adcCalibrate tag) s =
       .next (answered .adcCalibrate tag .refused .standby .none (s.brought .adcCalibrate tag))) ∧
     (s.supply.power ≠ .standby →
       (s.conv.owed = true ∨ (∃ t, s.conv.activity = .calibrating t) → exec (.adcCalibrate tag) s =
         .next (answered .adcCalibrate tag .refused .inProgress .none (s.brought .adcCalibrate tag))) ∧
       (s.conv.owed = false → s.conv.activity = .idle → exec (.adcCalibrate tag) s =
         .next (answered .adcCalibrate tag .ok .none .none { s.brought .adcCalibrate tag with
           conv.activity := .calibrating (s.clock + 2000), conv.parties.host := true })) ∧
       (∀ v, s.conv.owed = false → s.conv.activity = .converting v → exec (.adcCalibrate tag) s =
         .next (settle { s.brought .adcCalibrate tag with
           conv.owed := true, conv.parties.host := true
           port.queue := setInHand .accepted (s.brought .adcCalibrate tag).port.queue }))))

/-! ## Lens drive -/

/-- R52, R54, R58, R61: an accepted goto of the host claims the axis as REMOTE with the clamped target and speed; a REMOTE hold in
force ends PREEMPTED; v_cmd stands. PRESET_RECALL goes to the entry at the preset speed. What is the model's choice or reading in
it: log entries 10 and 19. -/
def Obligations.HostGotosClaimTheAxis : Prop :=
  ∀ (tag : Byte) (s : State) (a : GotoArgs),
    (Passed .zoomGoto tag s → 1 ≤ a.speed → a.speed ≤ 65535 → s.supply.power ≠ .standby → s.lens.zoom.fault = false →
      s.lens.zoom.homing = .homed → s.lens.zoom.owner = .none ∨ s.lens.zoom.owner = .remote →
      exec (.zoomGoto tag (.given a)) s = .next (answered .zoomGoto tag
        (if clampInt 0 s.lens.zoom.span a.position ≠ a.position ∨ s.lens.zoomVmax < a.speed then .clamped else .ok) .none .none
        { s.brought .zoomGoto tag with
          lens.zoom := { s.lens.zoom with
            owner := .remote, move := some .goto, target := some (clampInt 0 s.lens.zoom.span a.position)
            gotoSpeed := some (min a.speed s.lens.zoomVmax), driveSpeed := 0, pause := none }
          lens.driveTimer := none
          port := if s.lens.zoom.owner = .remote then
              (s.brought .zoomGoto tag).port.post (.motionDone .zoom .preempted .remote s.lens.zoom.position)
            else (s.brought .zoomGoto tag).port })) ∧
    (Passed .focusGoto tag s → 1 ≤ a.speed → a.speed ≤ 65535 → s.supply.power ≠ .standby → s.lens.focus.fault = false →
      s.lens.focus.homing = .homed → s.lens.focus.owner = .none ∨ s.lens.focus.owner = .remote →
      s.lens.mode = .auto → s.lens.override = none →
      exec (.focusGoto tag (.given a)) s = .next (answered .focusGoto tag
        (if clampInt 0 s.lens.focus.span a.position ≠ a.position ∨ 12000 < a.speed then .clamped else .ok) .none .none
        { s.brought .focusGoto tag with
          lens.focus := { s.lens.focus with
            owner := .remote, move := some .goto, target := some (clampInt 0 s.lens.focus.span a.position)
            gotoSpeed := some (min a.speed 12000), driveSpeed := 0, pause := none }
          port := if s.lens.focus.owner = .remote then
              (s.brought .focusGoto tag).port.post (.motionDone .focus .preempted .remote s.lens.focus.position)
            else (s.brought .focusGoto tag).port })) ∧
    (∀ n : Fin 8, Passed .presetRecall tag s → s.supply.power ≠ .standby → s.lens.zoom.fault = false →
      s.lens.zoom.homing = .homed → s.lens.zoom.owner = .none ∨ s.lens.zoom.owner = .remote →
      exec (.presetRecall tag (.given (n.val + 1))) s = .next (answered .presetRecall tag .ok .none .none
        { s.brought .presetRecall tag with
          lens.zoom := { s.lens.zoom with
            owner := .remote, move := some .goto, target := some (clampInt 0 s.lens.zoom.span (s.lens.presets.get n))
            gotoSpeed := some (min s.lens.presetSpeed s.lens.zoomVmax), driveSpeed := 0, pause := none }
          lens.driveTimer := none
          port := if s.lens.zoom.owner = .remote then
              (s.brought .presetRecall tag).port.post (.motionDone .zoom .preempted .remote s.lens.zoom.position)
            else (s.brought .presetRecall tag).port }))

/-- R52, R54, R55, R58, R61: the order of the checks of a host move request: ZOOM_GOTO, ZOOM_DRIVE, PRESET_RECALL and, with its check
of the focus mode and the override window, FOCUS_GOTO. The first check that fails gives the reply, without effect. What is the
model's choice or reading in it: log entry 10. -/
def Obligations.HostMovesAreCheckedInOrder : Prop :=
  ∀ (tag : Byte) (s : State) (i : Instr) (k : Kind) (ax : Axis) (legal : Prop),
    (∃ a : GotoArgs, i = .zoomGoto tag (.given a) ∧ k = .zoomGoto ∧ ax = .zoom ∧ (legal ↔ 1 ≤ a.speed ∧ a.speed ≤ 65535)) ∨
      (∃ a : DriveArgs, i = .zoomDrive tag (.given a) ∧ k = .zoomDrive ∧ ax = .zoom ∧
        (legal ↔ a.speed ≠ 0 ∧ 1 ≤ a.duration ∧ a.duration ≤ 1000)) ∨
      (∃ n : Nat, i = .presetRecall tag (.given n) ∧ k = .presetRecall ∧ ax = .zoom ∧ (legal ↔ 1 ≤ n ∧ n ≤ 8)) ∨
      (∃ a : GotoArgs, i = .focusGoto tag (.given a) ∧ k = .focusGoto ∧ ax = .focus ∧ (legal ↔ 1 ≤ a.speed ∧ a.speed ≤ 65535)) ∨
      (((i = .zoomGoto tag .malformed ∧ k = .zoomGoto) ∨ (i = .zoomDrive tag .malformed ∧ k = .zoomDrive) ∨
        (i = .presetRecall tag .malformed ∧ k = .presetRecall) ∨ (i = .focusGoto tag .malformed ∧ k = .focusGoto)) ∧ ¬legal) →
    Passed k tag s →
    (¬legal → exec i s = .next (answered k tag .badArgument .none .none (s.brought k tag))) ∧
    (legal →
      (s.supply.power = .standby → exec i s = .next (answered k tag .refused .standby .none (s.brought k tag))) ∧
      (s.supply.power ≠ .standby → (s.axis ax).fault = true → (s.axis ax).owner ≠ .homing →
        exec i s = .next (answered k tag .refused .fault .none (s.brought k tag))) ∧
      (s.supply.power ≠ .standby → (s.axis ax).fault = false ∨ (s.axis ax).owner = .homing → (s.axis ax).homing ≠ .homed →
        exec i s = .next (answered k tag .refused .unhomed .none (s.brought k tag))) ∧
      (k = .focusGoto → s.supply.power ≠ .standby → (s.axis ax).fault = false ∨ (s.axis ax).owner = .homing →
        (s.axis ax).homing = .homed → s.lens.mode = .manual ∨ s.lens.override.isSome = true →
        exec i s = .next (answered k tag .refused .operator .none (s.brought k tag))) ∧
      (s.supply.power ≠ .standby → (s.axis ax).fault = false ∨ (s.axis ax).owner = .homing → (s.axis ax).homing = .homed →
        k ≠ .focusGoto ∨ (s.lens.mode = .auto ∧ s.lens.override = none) →
        (s.axis ax).owner = .preset ∨ (s.axis ax).owner = .operator ∨ (s.axis ax).owner = .homing →
        exec i s = .next (answered k tag .refused .busyOwner .none (s.brought k tag))))

/-- R55: an accepted ZOOM_DRIVE; a running REMOTE drive is extended without MOTION_DONE, a REMOTE goto ends PREEMPTED. What is the
model's choice or reading in it: log entries 1 and 19. -/
def Obligations.ZoomDrivesRunAndExtend : Prop :=
  ∀ (tag : Byte) (s : State) (a : DriveArgs), Passed .zoomDrive tag s → a.speed ≠ 0 → 1 ≤ a.duration → a.duration ≤ 1000 →
    s.supply.power ≠ .standby → s.lens.zoom.fault = false → s.lens.zoom.homing = .homed →
    (s.lens.zoom.owner = .none →
      exec (.zoomDrive tag (.given a)) s = .next (answered .zoomDrive tag
        (if s.lens.zoomVmax < a.speed.natAbs then .clamped else .ok) .none .none
        { s.brought .zoomDrive tag with
          lens.zoom := { s.lens.zoom with
            owner := .remote, move := some .drive, target := none, gotoSpeed := none, pause := none
            driveSpeed := clampInt (-(s.lens.zoomVmax : Int)) s.lens.zoomVmax a.speed }
          lens.driveTimer := some (s.clock + 1000 * a.duration) })) ∧
    (s.lens.zoom.owner = .remote → s.lens.zoom.move = some .goto →
      exec (.zoomDrive tag (.given a)) s = .next (answered .zoomDrive tag
        (if s.lens.zoomVmax < a.speed.natAbs then .clamped else .ok) .none .none
        { s.brought .zoomDrive tag with
          lens.zoom := { s.lens.zoom with
            owner := .remote, move := some .drive, target := none, gotoSpeed := none, pause := none
            driveSpeed := clampInt (-(s.lens.zoomVmax : Int)) s.lens.zoomVmax a.speed }
          lens.driveTimer := some (s.clock + 1000 * a.duration)
          port := (s.brought .zoomDrive tag).port.post (.motionDone .zoom .preempted .remote s.lens.zoom.position) })) ∧
    (s.lens.zoom.owner = .remote → s.lens.zoom.move = some .drive →
      exec (.zoomDrive tag (.given a)) s = .next (answered .zoomDrive tag
        (if s.lens.zoomVmax < a.speed.natAbs then .clamped else .ok) .none .none
        { s.brought .zoomDrive tag with
          lens.zoom := { s.lens.zoom with driveSpeed := clampInt (-(s.lens.zoomVmax : Int)) s.lens.zoomVmax a.speed }
          lens.driveTimer := some (s.clock + 1000 * a.duration) }))

/-- R47, R51, R67, R68: LENS_HOME begins a run from any owner but HOMING; a zoom hands its homing status to the stabiliser, which in
FAULT keeps its state, leaves ACTIVE where it was ACTIVE, and stands in STANDBY or OFF otherwise; in STANDBY, in INIT and while a run is
in hand it is refused. What is the model's choice or reading in it: log entries 1, 19 and 24. -/
def Obligations.LensHomeBeginsARun : Prop :=
  ∀ (tag : Byte) (s : State) (ax : Axis), Passed .lensHome tag s →
    exec (.lensHome tag .malformed) s = .next (answered .lensHome tag .badArgument .none .none (s.brought .lensHome tag)) ∧
    (s.supply.power = .standby → exec (.lensHome tag (.given ax)) s =
      .next (answered .lensHome tag .refused .standby .none (s.brought .lensHome tag))) ∧
    (s.supply.power = .init → exec (.lensHome tag (.given ax)) s =
      .next (answered .lensHome tag .refused .none .none (s.brought .lensHome tag))) ∧
    (s.supply.power = .run → ∀ p, (s.axis ax).homing = .homing p → exec (.lensHome tag (.given ax)) s =
      .next (answered .lensHome tag .refused .inProgress .none (s.brought .lensHome tag))) ∧
    (s.supply.power = .run → (∀ p, s.lens.focus.homing ≠ .homing p) →
      exec (.lensHome tag (.given .focus)) s = .next (answered .lensHome tag .ok .none .none
        { s.brought .lensHome tag with
          lens.focus := { s.lens.focus with
            owner := .homing, homing := .homing .seekNear, move := none, target := none, gotoSpeed := none, driveSpeed := 0
            pause := none, suspect := none, dutyRun := none, phaseStart := s.clock, homingTimer := some (s.clock + 25000000)
            spanBefore := some s.lens.focus.span }
          port := match s.lens.focus.owner with
            | .none | .homing => (s.brought .lensHome tag).port
            | o => (s.brought .lensHome tag).port.post (.motionDone .focus .preempted o s.lens.focus.position) })) ∧
    (s.supply.power = .run → (∀ p, s.lens.zoom.homing ≠ .homing p) → ∀ r, s.stab.state = .fault r →
      exec (.lensHome tag (.given .zoom)) s = .next (answered .lensHome tag .ok .none .none
        { s.brought .lensHome tag with
          lens.zoom := { s.lens.zoom with
            owner := .homing, homing := .homing .seekNear, move := none, target := none, gotoSpeed := none, driveSpeed := 0
            pause := none, suspect := none, dutyRun := none, phaseStart := s.clock, homingTimer := some (s.clock + 25000000)
            spanBefore := some s.lens.zoom.span }
          lens.driveTimer := none
          stab.cond.zoomHomed := false
          port := match s.lens.zoom.owner with
            | .none | .homing => (s.brought .lensHome tag).port
            | o => (s.brought .lensHome tag).port.post (.motionDone .zoom .preempted o s.lens.zoom.position) })) ∧
    (s.supply.power = .run → (∀ p, s.lens.zoom.homing ≠ .homing p) → ∃ u,
      StabFollows s.stab.setting { s.stab.cond with zoomHomed := false } { s.brought .lensHome tag with
        lens.zoom := { unheld s.lens.zoom with
          owner := .homing, homing := .homing .seekNear, suspect := none, dutyRun := none, phaseStart := s.clock
          homingTimer := some (s.clock + 25000000), spanBefore := some s.lens.zoom.span }
        lens.driveTimer := none
        port := heldEnds (s.brought .lensHome tag).port .zoom .preempted s.lens.zoom } u ∧
      exec (.lensHome tag (.given .zoom)) s = .next (answered .lensHome tag .ok .none .none u))

/-- R50, R56, R67: LENS_STOP: a hold ends STOPPED with v_cmd 0, a homing run is abandoned (that of the zoom hands its homing status to
the stabiliser), an axis without owner is left alone; on the zoom a held rocker demand is blocked. That the HOME_DONE of the zoom's run
is posted before the stabiliser's STAB_STATE is the model's choice (log entry 12). What is the model's choice or reading in it: log
entries 12, 19 and 24. -/
def Obligations.LensStopEndsTheHold : Prop :=
  ∀ (tag : Byte) (s : State), Passed .lensStop tag s →
    exec (.lensStop tag .malformed) s = .next (answered .lensStop tag .badArgument .none .none (s.brought .lensStop tag)) ∧
    (s.supply.power = .standby → ∀ ax, exec (.lensStop tag (.given ax)) s =
      .next (answered .lensStop tag .refused .standby .none (s.brought .lensStop tag))) ∧
    (s.supply.power ≠ .standby →
      (s.lens.focus.owner = .none → exec (.lensStop tag (.given .focus)) s =
        .next (answered .lensStop tag .ok .none .none (s.brought .lensStop tag))) ∧
      (s.lens.zoom.owner = .none → exec (.lensStop tag (.given .zoom)) s =
        .next (answered .lensStop tag .ok .none .none
          { s.brought .lensStop tag with lens.blocked := s.lens.blocked || decide (s.lens.demand ≠ 0) })) ∧
      (∀ o, s.lens.focus.owner = o → o = .operator ∨ o = .preset ∨ o = .remote →
        exec (.lensStop tag (.given .focus)) s = .next (answered .lensStop tag .ok .none .none
          { s.brought .lensStop tag with
            lens.focus := { s.lens.focus with
              owner := .none, move := none, target := none, gotoSpeed := none, driveSpeed := 0, pause := none, vcmd := 0 }
            port := (s.brought .lensStop tag).port.post (.motionDone .focus .stopped o s.lens.focus.position) })) ∧
      (∀ o, s.lens.zoom.owner = o → o = .operator ∨ o = .preset ∨ o = .remote →
        exec (.lensStop tag (.given .zoom)) s = .next (answered .lensStop tag .ok .none .none
          { s.brought .lensStop tag with
            lens.zoom := { s.lens.zoom with
              owner := .none, move := none, target := none, gotoSpeed := none, driveSpeed := 0, pause := none, vcmd := 0 }
            lens.driveTimer := none
            lens.blocked := s.lens.blocked || decide (s.lens.demand ≠ 0)
            port := (s.brought .lensStop tag).port.post (.motionDone .zoom .stopped o s.lens.zoom.position) })) ∧
      (s.lens.focus.owner = .homing → exec (.lensStop tag (.given .focus)) s = .next (answered .lensStop tag .ok .none .none
        { s.brought .lensStop tag with
          lens.focus := { s.lens.focus with
            owner := .none, move := none, target := none, gotoSpeed := none, driveSpeed := 0, pause := none, vcmd := 0
            homing := .abandoned .stopped, homingTimer := none
            span := s.lens.focus.spanBefore.getD s.lens.focus.span, spanBefore := none }
          port := (s.brought .lensStop tag).port.post (.homeDone .focus (.abandoned .stopped)) })) ∧
      (s.lens.zoom.owner = .homing → ∃ u,
        StabFollows s.stab.setting { s.stab.cond with zoomHomed := false } { s.brought .lensStop tag with
          lens.zoom := { unheld s.lens.zoom with
            vcmd := 0, homing := .abandoned .stopped, homingTimer := none
            span := s.lens.zoom.spanBefore.getD s.lens.zoom.span, spanBefore := none }
          lens.blocked := s.lens.blocked || decide (s.lens.demand ≠ 0)
          port := (s.brought .lensStop tag).port.post (.homeDone .zoom (.abandoned .stopped)) } u ∧
        exec (.lensStop tag (.given .zoom)) s = .next (answered .lensStop tag .ok .none .none u)))

/-- R57, R59, R62: the settings of the lens drive, with their clamps and refusals; a preset number outside 1..8 and a payload that does
not hold the arguments are BAD_ARGUMENT. What is the model's choice or reading in it: log entry 19. -/
def Obligations.LensSettingsAreClamped : Prop :=
  ∀ (tag : Byte) (s : State),
    (Passed .lensConfig tag s → exec (.lensConfig tag .malformed) s =
      .next (answered .lensConfig tag .badArgument .none .none (s.brought .lensConfig tag))) ∧
    (Passed .presetSet tag s →
      exec (.presetSet tag .malformed) s =
        .next (answered .presetSet tag .badArgument .none .none (s.brought .presetSet tag)) ∧
      ∀ (n : Nat) (p : Option Int), n = 0 ∨ 8 < n → exec (.presetSet tag (.given ⟨n, p⟩)) s =
        .next (answered .presetSet tag .badArgument .none .none (s.brought .presetSet tag))) ∧
    (Passed .focusModeSet tag s → exec (.focusModeSet tag .malformed) s =
      .next (answered .focusModeSet tag .badArgument .none .none (s.brought .focusModeSet tag))) ∧
    (Passed .lensConfig tag s → ∀ vmax speed zg fg : Nat,
      (zg ∉ [1, 4, 16] ∨ fg ∉ [1, 4, 16] → exec (.lensConfig tag (.given ⟨vmax, speed, zg, fg⟩)) s =
        .next (answered .lensConfig tag .badArgument .none .none (s.brought .lensConfig tag))) ∧
      (zg ∈ [1, 4, 16] → fg ∈ [1, 4, 16] →
        (s.supply.power = .standby → exec (.lensConfig tag (.given ⟨vmax, speed, zg, fg⟩)) s =
          .next (answered .lensConfig tag .refused .standby .none (s.brought .lensConfig tag))) ∧
        (s.supply.power ≠ .standby → exec (.lensConfig tag (.given ⟨vmax, speed, zg, fg⟩)) s =
          .next (answered .lensConfig tag
            (if vmax < 2000 ∨ 8000 < vmax ∨ speed < 100 ∨ min (max vmax 2000) 8000 < speed then .clamped else .ok) .none .none
            { s.brought .lensConfig tag with
              lens.zoomVmax := min (max vmax 2000) 8000
              lens.presetSpeed := min (max speed 100) (min (max vmax 2000) 8000)
              lens.zoomGap := zg, lens.focusGap := fg })))) ∧
    (Passed .presetSet tag s → ∀ (n : Fin 8) (p : Option Int),
      (s.supply.power = .standby → exec (.presetSet tag (.given ⟨n.val + 1, p⟩)) s =
        .next (answered .presetSet tag .refused .standby .none (s.brought .presetSet tag))) ∧
      (s.supply.power ≠ .standby → s.lens.zoom.homing ≠ .homed ∨ s.lens.zoom.owner = .homing →
        exec (.presetSet tag (.given ⟨n.val + 1, p⟩)) s =
          .next (answered .presetSet tag .refused .unhomed .none (s.brought .presetSet tag))) ∧
      (s.supply.power ≠ .standby → s.lens.zoom.homing = .homed → s.lens.zoom.owner ≠ .homing →
        exec (.presetSet tag (.given ⟨n.val + 1, p⟩)) s = .next (answered .presetSet tag
          (if clampInt 0 s.lens.zoom.span (p.getD s.lens.zoom.position) ≠ p.getD s.lens.zoom.position then .clamped else .ok)
          .none .none
          { s.brought .presetSet tag with
            lens.presets := s.lens.presets.set n (clampInt 0 s.lens.zoom.span (p.getD s.lens.zoom.position)) }))) ∧
    (Passed .focusModeSet tag s → ∀ m : FocusMode,
      (s.supply.power = .standby → exec (.focusModeSet tag (.given m)) s =
        .next (answered .focusModeSet tag .refused .standby .none (s.brought .focusModeSet tag))) ∧
      (s.supply.power ≠ .standby → m = s.lens.mode → exec (.focusModeSet tag (.given m)) s =
        .next (answered .focusModeSet tag .ok .none .none (s.brought .focusModeSet tag))) ∧
      (s.supply.power ≠ .standby → m ≠ s.lens.mode → m = .auto ∨ s.lens.focus.owner ≠ .remote →
        exec (.focusModeSet tag (.given m)) s = .next (answered .focusModeSet tag .ok .none .none
          { s.brought .focusModeSet tag with lens.mode := m, lens.override := none })) ∧
      (s.supply.power ≠ .standby → m = .manual → s.lens.mode = .auto → s.lens.focus.owner = .remote →
        exec (.focusModeSet tag (.given m)) s = .next (answered .focusModeSet tag .ok .none .none
          { s.brought .focusModeSet tag with
            lens.mode := .manual, lens.override := none
            lens.focus := { s.lens.focus with
              owner := .none, move := none, target := none, gotoSpeed := none, driveSpeed := 0, pause := none }
            port := (s.brought .focusModeSet tag).port.post
              (.motionDone .focus .preempted .remote s.lens.focus.position) })))

/-! ## Stabiliser -/

/-- R82: STAB_OFFSET_SET: the offset, clamped to 16384..49152, replaces z, and the axis's learning starts again; an axis other than YAW
or PITCH is answered BAD_ARGUMENT. -/
def Obligations.StabOffsetIsClampedAndLearningRestarts : Prop :=
  ∀ (tag : Byte) (s : State), Passed .stabOffsetSet tag s →
    exec (.stabOffsetSet tag .malformed) s =
      .next (answered .stabOffsetSet tag .badArgument .none .none (s.brought .stabOffsetSet tag)) ∧
    ∀ v : Nat, v ≤ 65535 →
      exec (.stabOffsetSet tag (.given ⟨.yaw, v⟩)) s = .next (answered .stabOffsetSet tag
        (if 16384 ≤ v ∧ v ≤ 49152 then .ok else .clamped) .none .none
        { s.brought .stabOffsetSet tag with
          stab.yaw := { s.stab.yaw with z := max 16384 (min 49152 (v : Int)), learnRun := 0, rem := 0 } }) ∧
      exec (.stabOffsetSet tag (.given ⟨.pitch, v⟩)) s = .next (answered .stabOffsetSet tag
        (if 16384 ≤ v ∧ v ≤ 49152 then .ok else .clamped) .none .none
        { s.brought .stabOffsetSet tag with
          stab.pitch := { s.stab.pitch with z := max 16384 (min 49152 (v : Int)), learnRun := 0, rem := 0 } })

/-- R66 to R69, R80, R81: STAB_MODE_SET by the operating state in force and the conditions that hold, and STAB_GAIN_TABLE_SET, which
takes exactly 17 entries of 0..65535. What is the model's choice or reading in it: log entries 10 (an entry above 65535) and 24. -/
def Obligations.StabSettingsChangeTheState : Prop :=
  ∀ (tag : Byte) (s : State),
    (Passed .stabModeSet tag s →
      exec (.stabModeSet tag .malformed) s =
        .next (answered .stabModeSet tag .badArgument .none .none (s.brought .stabModeSet tag)) ∧
      (∀ on : Bool, ∃ u, StabSettingTaken on (s.brought .stabModeSet tag) u ∧
        exec (.stabModeSet tag (.given on)) s = .next (answered .stabModeSet tag .ok .none .none u)) ∧
      (∀ on : Bool, on = s.stab.setting → (on = true → s.stab.cond.allHold → ∃ sub, s.stab.state = .active sub) →
        (on = true → ¬s.stab.cond.allHold → s.stab.state = .standby) → (on = false → s.stab.state = .off ∨ ∃ r, s.stab.state = .fault r) →
        exec (.stabModeSet tag (.given on)) s =
          .next (answered .stabModeSet tag .ok .none .none (s.brought .stabModeSet tag))) ∧
      (∀ sub, s.stab.state = .active sub → exec (.stabModeSet tag (.given false)) s =
        .next (answered .stabModeSet tag .ok .none .none { s.brought .stabModeSet tag with
          stab := { s.stab with
            setting := false, state := .off
            yaw := { s.stab.yaw with acc := 0, rem := 0, traw := 0, target := 0, duty := 512, satRun := 0, learnRun := 0 }
            pitch := { s.stab.pitch with acc := 0, rem := 0, traw := 0, target := 0, duty := 512, satRun := 0, learnRun := 0 }
            panExit := 0, railRun := 0, missedRun := 0 }
          port := (s.brought .stabModeSet tag).port.post (.stabState .off none) })) ∧
      (s.stab.state = .standby → exec (.stabModeSet tag (.given false)) s =
        .next (answered .stabModeSet tag .ok .none .none { s.brought .stabModeSet tag with
          stab.setting := false, stab.state := .off
          port := (s.brought .stabModeSet tag).port.post (.stabState .off none) })) ∧
      (∀ r, s.stab.state = .fault r → exec (.stabModeSet tag (.given false)) s =
        .next (answered .stabModeSet tag .ok .none .none { s.brought .stabModeSet tag with stab.setting := false })) ∧
      (s.stab.state = .off → s.stab.setting = false → exec (.stabModeSet tag (.given false)) s =
        .next (answered .stabModeSet tag .ok .none .none (s.brought .stabModeSet tag))) ∧
      (s.stab.state = .off → s.stab.cond.run = true → s.stab.cond.zoomHomed = true → s.stab.cond.gyroEnabled = true →
        s.stab.cond.gyroValid = true → exec (.stabModeSet tag (.given true)) s =
          .next (answered .stabModeSet tag .ok .none .none { s.brought .stabModeSet tag with
            stab.setting := true, stab.state := .active .normal
            port := (s.brought .stabModeSet tag).port.post (.stabState (.active .normal) none) })) ∧
      (s.stab.state = .off → s.stab.cond.zoomHomed = false → exec (.stabModeSet tag (.given true)) s =
        .next (answered .stabModeSet tag .ok .none .none { s.brought .stabModeSet tag with
          stab.setting := true, stab.state := .standby
          port := (s.brought .stabModeSet tag).port.post (.stabState .standby
            (some ⟨!s.stab.cond.run, true, !s.stab.cond.gyroEnabled, !s.stab.cond.gyroValid⟩)) })) ∧
      (∀ r, s.stab.state = .fault r → s.stab.cond.zoomHomed = false → exec (.stabModeSet tag (.given true)) s =
        .next (answered .stabModeSet tag .ok .none .none { s.brought .stabModeSet tag with
          stab.setting := true, stab.state := .standby, ovl.warnings.stabFault := .absent
          port := (s.brought .stabModeSet tag).port.post (.stabState .standby
            (some ⟨!s.stab.cond.run, true, !s.stab.cond.gyroEnabled, !s.stab.cond.gyroValid⟩)) }))) ∧
    (Passed .stabGainTableSet tag s → exec (.stabGainTableSet tag .malformed) s =
      .next (answered .stabGainTableSet tag .badArgument .none .none (s.brought .stabGainTableSet tag))) ∧
    (Passed .stabGainTableSet tag s → ∀ entries : List Nat,
      (∀ g : Vector Nat 17, g.toList = entries → (∀ x ∈ entries, x ≤ 65535) →
        exec (.stabGainTableSet tag (.given entries)) s = .next (answered .stabGainTableSet tag .ok .none .none
          { s.brought .stabGainTableSet tag with stab.gains := g })) ∧
      (entries.length ≠ 17 ∨ (∃ x ∈ entries, 65535 < x) → exec (.stabGainTableSet tag (.given entries)) s =
        .next (answered .stabGainTableSet tag .badArgument .none .none (s.brought .stabGainTableSet tag))))

/-! ## Timecode requests -/

/-- R95 to R97: TC_SET, TC_MODE_SET and USERBITS_SET: a dropped label at 30DF gets frames 2 and the reply is CLAMPED; frames that a new
rate does not count become its last; while a clip is in hand both are refused; in SHUTDOWN both are refused by R189. USERBITS_SET is
taken in every record state: it leaves the records of the log, and the next clip opened takes the bits. -/
def Obligations.TimecodeRequestsLeaveAValidLabel : Prop :=
  ∀ (tag : Byte) (s : State),
    (s.supply.power = .shutdown →
      (s.port.takes (kindCode .tcSet) tag = true → ∀ a, exec (.tcSet tag a) s =
        .next (answered .tcSet tag .refused .shutdown .none (s.brought .tcSet tag))) ∧
      (s.port.takes (kindCode .tcModeSet) tag = true → ∀ a, exec (.tcModeSet tag a) s =
        .next (answered .tcModeSet tag .refused .shutdown .none (s.brought .tcModeSet tag)))) ∧
    (Passed .tcSet tag s → exec (.tcSet tag .malformed) s =
      .next (answered .tcSet tag .badArgument .none .none (s.brought .tcSet tag))) ∧
    (Passed .tcModeSet tag s →
      exec (.tcModeSet tag .malformed) s =
        .next (answered .tcModeSet tag .badArgument .none .none (s.brought .tcModeSet tag)) ∧
      ∀ m : RunMode, s.tc.recState = .standby → validLabel s.tc.rate s.tc.label = true →
        exec (.tcModeSet tag (.given ⟨s.tc.rate, m⟩)) s = .next (answered .tcModeSet tag .ok .none .none
          { s.brought .tcModeSet tag with tc.runMode := m })) ∧
    (∀ n : Nat, Passed .recConfirm tag s → 1 ≤ n → n ≤ 9999 → s.recorder.state = .starting → s.recorder.clip = some n → ∃ u r rest,
      exec (.recConfirm tag (.given n)) s = .next u ∧ u.log.records = r :: rest ∧ r.userBits = s.tc.userBits) ∧
    (Passed .tcSet tag s → ∀ l : Label,
      (24 ≤ l.hours ∨ 60 ≤ l.minutes ∨ 60 ≤ l.seconds ∨ countedRate s.tc.rate ≤ l.frames →
        exec (.tcSet tag (.given l)) s = .next (answered .tcSet tag .badArgument .none .none (s.brought .tcSet tag))) ∧
      (l.hours < 24 → l.minutes < 60 → l.seconds < 60 → l.frames < countedRate s.tc.rate →
        (s.tc.recState ≠ .standby → exec (.tcSet tag (.given l)) s =
          .next (answered .tcSet tag .refused .recording .none (s.brought .tcSet tag))) ∧
        (s.tc.recState = .standby → s.tc.rate = .r30df → l.seconds = 0 → l.frames < 2 → l.minutes % 10 ≠ 0 →
          exec (.tcSet tag (.given l)) s = .next (answered .tcSet tag .clamped .none .none
            { s.brought .tcSet tag with tc.label := ⟨l.hours, l.minutes, 0, 2⟩ })) ∧
        (s.tc.recState = .standby → s.tc.rate ≠ .r30df ∨ l.seconds ≠ 0 ∨ 2 ≤ l.frames ∨ l.minutes % 10 = 0 →
          exec (.tcSet tag (.given l)) s = .next (answered .tcSet tag .ok .none .none
            { s.brought .tcSet tag with tc.label := l })))) ∧
    (Passed .tcModeSet tag s → ∀ (r : Rate) (m : RunMode),
      (s.tc.recState ≠ .standby → exec (.tcModeSet tag (.given ⟨r, m⟩)) s =
        .next (answered .tcModeSet tag .refused .recording .none (s.brought .tcModeSet tag))) ∧
      (s.tc.recState = .standby →
        (s.tc.label.frames < countedRate r → r ≠ .r30df ∨ isDropped s.tc.label = false →
          exec (.tcModeSet tag (.given ⟨r, m⟩)) s = .next (answered .tcModeSet tag .ok .none .none
            { s.brought .tcModeSet tag with tc.rate := r, tc.runMode := m })) ∧
        (countedRate r ≤ s.tc.label.frames →
          exec (.tcModeSet tag (.given ⟨r, m⟩)) s = .next (answered .tcModeSet tag .clamped .none .none
            { s.brought .tcModeSet tag with tc.rate := r, tc.runMode := m, tc.label.frames := countedRate r - 1 })) ∧
        (s.tc.label.frames < countedRate r → r = .r30df → isDropped s.tc.label = true →
          exec (.tcModeSet tag (.given ⟨r, m⟩)) s = .next (answered .tcModeSet tag .clamped .none .none
            { s.brought .tcModeSet tag with tc.rate := r, tc.runMode := m, tc.label.frames := 2 })))) ∧
    (Passed .userbitsSet tag s → ∀ b : BitVec 32,
      exec (.userbitsSet tag (.given b)) s = .next (answered .userbitsSet tag .ok .none .none
        { s.brought .userbitsSet tag with tc.userBits := b }) ∧
      exec (.userbitsSet tag .malformed) s =
        .next (answered .userbitsSet tag .badArgument .none .none (s.brought .userbitsSet tag)))

/-! ## Record supervisor and clip log -/

/-- R111, R112, R127, R142: record settings, the next clip number, the front lamp's enable and the clearing of the log; while a clip is
in hand all but TALLY_SET are refused. REC_CONFIG tests the two slot warnings again (R110). What is the model's choice or reading
in it: log entry 26. -/
def Obligations.RecordSettingsWaitForStandby : Prop :=
  ∀ (tag : Byte) (s : State),
    (Passed .recConfig tag s → exec (.recConfig tag .malformed) s =
      .next (answered .recConfig tag .badArgument .none .none (s.brought .recConfig tag))) ∧
    (Passed .clipNumberSet tag s → exec (.clipNumberSet tag .malformed) s =
      .next (answered .clipNumberSet tag .badArgument .none .none (s.brought .clipNumberSet tag))) ∧
    (Passed .tallySet tag s → exec (.tallySet tag .malformed) s =
      .next (answered .tallySet tag .badArgument .none .none (s.brought .tallySet tag))) ∧
    (Passed .recConfig tag s → ∀ (m : RecMode) (c : Slot) (b : Bitrate),
      (s.recorder.state ≠ .standby → exec (.recConfig tag (.given ⟨m, c, b⟩)) s =
        .next (answered .recConfig tag .refused .recording .none (s.brought .recConfig tag))) ∧
      (s.recorder.state = .standby → ∃ w, exec (.recConfig tag (.given ⟨m, c, b⟩)) s =
        .next (answered .recConfig tag .ok .none .none { s.brought .recConfig tag with
          recorder.mode := m, recorder.current := c, recorder.bitrate := b, ovl.warnings := w }) ∧
        SlotWarned { s.recorder with bitrate := b } s.ovl.warnings w)) ∧
    (Passed .clipNumberSet tag s → ∀ n : Nat,
      (n = 0 ∨ 9999 < n → exec (.clipNumberSet tag (.given n)) s =
        .next (answered .clipNumberSet tag .badArgument .none .none (s.brought .clipNumberSet tag))) ∧
      (1 ≤ n → n ≤ 9999 → s.recorder.state ≠ .standby → exec (.clipNumberSet tag (.given n)) s =
        .next (answered .clipNumberSet tag .refused .recording .none (s.brought .clipNumberSet tag))) ∧
      (1 ≤ n → n ≤ 9999 → s.recorder.state = .standby → exec (.clipNumberSet tag (.given n)) s =
        .next (answered .clipNumberSet tag .ok .none .none { s.brought .clipNumberSet tag with recorder.nextClip := n }))) ∧
    (Passed .tallySet tag s → ∀ on : Bool, exec (.tallySet tag (.given on)) s =
      .next (answered .tallySet tag .ok .none .none { s.brought .tallySet tag with recorder.frontEnable := on })) ∧
    (Passed .clipLogClear tag s →
      (s.recorder.state ≠ .standby → exec (.clipLogClear tag) s =
        .next (answered .clipLogClear tag .refused .recording .none (s.brought .clipLogClear tag))) ∧
      (s.recorder.state = .standby → exec (.clipLogClear tag) s =
        .next (answered .clipLogClear tag .ok .none .none { s.brought .clipLogClear tag with log.records := [] })))

/-- R113, R114: REC_START by the order of its checks, and the acceptance of a start in each record mode. What is the model's choice
or reading in it: log entries 1 and 12. -/
def Obligations.RecStartReservesAClip : Prop :=
  ∀ (tag : Byte) (s : State), Passed .recStart tag s →
    (s.recorder.state = .starting → exec (.recStart tag) s =
      .next (answered .recStart tag .refused .inProgress .none (s.brought .recStart tag))) ∧
    (s.recorder.state = .recording ∨ s.recorder.state = .stopping → exec (.recStart tag) s =
      .next (answered .recStart tag .refused .recording .none (s.brought .recStart tag))) ∧
    (s.recorder.state = .standby →
      (s.recorder.power = .standby → exec (.recStart tag) s =
        .next (answered .recStart tag .refused .standby .none (s.brought .recStart tag))) ∧
      (s.recorder.power = .init → exec (.recStart tag) s =
        .next (answered .recStart tag .refused .none .none (s.brought .recStart tag))) ∧
      (s.recorder.power = .run →
        (s.recorder.supplyState = .low ∨ s.recorder.supplyState = .cutoff → exec (.recStart tag) s =
          .next (answered .recStart tag .refused .supply .none (s.brought .recStart tag))) ∧
        (s.recorder.supplyState = .normal ∨ s.recorder.supplyState = .warn →
          (NoStartSet s.recorder → exec (.recStart tag) s =
            .next (answered .recStart tag .refused .noMedia .none (s.brought .recStart tag))) ∧
          ∀ (set : SlotSet) (cur : Slot),
            (s.recorder.mode ≠ .simul ∧ s.recorder.usable s.recorder.current = true ∧ set = SlotSet.only s.recorder.current ∧
                cur = s.recorder.current) ∨
              (s.recorder.mode = .relay ∧ s.recorder.usable s.recorder.current = false ∧
                s.recorder.usable (otherSlot s.recorder.current) = true ∧ set = SlotSet.only (otherSlot s.recorder.current) ∧
                cur = otherSlot s.recorder.current) ∨
              (s.recorder.mode = .simul ∧ (s.recorder.usable .a = true ∨ s.recorder.usable .b = true) ∧
                set = ⟨s.recorder.usable .a, s.recorder.usable .b⟩ ∧ cur = s.recorder.current) →
            exec (.recStart tag) s = .next (answered .recStart tag .ok .none (.started s.recorder.nextClip set)
              { s.brought .recStart tag with
                recorder := { s.recorder with
                  state := .starting, startSet := set, clip := some s.recorder.nextClip, current := cur
                  confirmTimer := some (s.clock + 500000)
                  tally := .blink2, lampOn := true, blinkTimer := some (s.clock + 250000) }
                tc.recState := .starting, supply.recState := .starting
                port := (s.brought .recStart tag).port.post (.recBegin s.recorder.nextClip set) }))))

/-- R112, R115, R134: REC_CONFIRM of the reserved number begins the clip: the slots of the start set become ACTIVE, the next clip
number advances, the log opens a record at its head, and the slot warnings and MEDIA_LOW are tested (R110, R124); any other confirm is
answered BAD_ARGUMENT or TOO_LATE. What is the model's choice or reading in it: log entries 1, 6 and 26. -/
def Obligations.RecConfirmBeginsTheClip : Prop :=
  ∀ (tag : Byte) (s : State) (n : Nat), Passed .recConfirm tag s →
    exec (.recConfirm tag .malformed) s = .next (answered .recConfirm tag .badArgument .none .none (s.brought .recConfirm tag)) ∧
    (n = 0 ∨ 9999 < n → exec (.recConfirm tag (.given n)) s =
      .next (answered .recConfirm tag .badArgument .none .none (s.brought .recConfirm tag))) ∧
    (1 ≤ n → n ≤ 9999 →
      (s.recorder.state = .standby → exec (.recConfirm tag (.given n)) s =
        .next (answered .recConfirm tag .tooLate .none .none (s.brought .recConfirm tag))) ∧
      (s.recorder.state ≠ .standby → s.recorder.clip ≠ some n → exec (.recConfirm tag (.given n)) s =
        .next (answered .recConfirm tag .badArgument .none .none (s.brought .recConfirm tag))) ∧
      (s.recorder.state = .recording ∨ s.recorder.state = .stopping → s.recorder.clip = some n →
        exec (.recConfirm tag (.given n)) s =
          .next (answered .recConfirm tag .tooLate .none .none (s.brought .recConfirm tag))) ∧
      (s.recorder.state = .starting → s.recorder.clip = some n → s.recorder.mediaLow = false → ∃ u left,
        exec (.recConfirm tag (.given n)) s =
          .next (answered .recConfirm tag .ok .none (.confirmed s.tc.stamp s.recorder.startSet) u) ∧
        u = { s.brought .recConfirm tag with
          recorder := u.recorder, log := u.log, tc.recState := .recording, supply.recState := .recording
          ovl.warnings := u.ovl.warnings
          controls.beeper := if s.controls.beepEnable = true ∧ s.controls.beeper = none then some ⟨.short, s.clock + 40000⟩
            else s.controls.beeper } ∧
        TimeLeftIs u.recorder u.log left ∧
        u.recorder = { s.recorder with
          state := .recording, confirmTimer := none, startSet := ⟨false, false⟩
          nextClip := if n = 9999 then 1 else n + 1, accountTimer := some (s.clock + 1000000)
          slotA := if s.recorder.startSet.a then { s.recorder.slotA with state := .active } else s.recorder.slotA
          slotB := if s.recorder.startSet.b then { s.recorder.slotB with state := .active } else s.recorder.slotB
          mediaLow := decide (left ≤ 60 * rateOf s.recorder.bitrate)
          tally := if left ≤ 60 * rateOf s.recorder.bitrate then .blink4 else .lit
          lampOn := decide (left ≤ 60 * rateOf s.recorder.bitrate)
          blinkTimer := if left ≤ 60 * rateOf s.recorder.bitrate then some (s.clock + 125000) else none } ∧
        u.log = { s.log with records :=
          { number := n, state := .opened, start := s.tc.stamp, endLabel := none, dayRoll := false, userBits := s.tc.userBits
            zoom := if s.lens.zoom.homing = .homed then some s.lens.zoom.position else none
            focus := if s.lens.focus.homing = .homed then some s.lens.focus.position else none
            goodShot := false, over1 := s.log.over1, over2 := s.log.over2
            segments := (if s.recorder.startSet.a then [⟨.a, s.tc.stamp, .inProgress⟩] else []) ++
              (if s.recorder.startSet.b then [⟨.b, s.tc.stamp, .inProgress⟩] else [])
            marks := [] } :: (s.log.records.filter fun r => r.number ≠ n).take 63 } ∧
        SlotWarned u.recorder { s.ovl.warnings with
          mediaLow := if left ≤ 60 * rateOf s.recorder.bitrate then .placed else s.ovl.warnings.mediaLow } u.ovl.warnings))

/-- R117, R119: REC_STOP stops a recording, cancels a start, and is refused otherwise. What is the model's choice or reading in it:
log entry 1. -/
def Obligations.RecStopEndsTheRecording : Prop :=
  ∀ (tag : Byte) (s : State), Passed .recStop tag s →
    (s.recorder.state = .standby → exec (.recStop tag) s =
      .next (answered .recStop tag .refused .notRecording .none (s.brought .recStop tag))) ∧
    (s.recorder.state = .stopping → exec (.recStop tag) s =
      .next (answered .recStop tag .refused .inProgress .none (s.brought .recStop tag))) ∧
    (∀ n, s.recorder.state = .recording → s.recorder.clip = some n → exec (.recStop tag) s =
      .next (answered .recStop tag .ok .none (.stopped s.tc.stamp) { s.brought .recStop tag with
        recorder := { s.recorder with
          state := .stopping, accountTimer := none, mediaLow := false, endLabel := some s.tc.stamp
          closeTimer := some (s.clock + 3000000), tally := .off, lampOn := false, blinkTimer := none }
        tc.recState := .stopping, supply.recState := .stopping, ovl.warnings.mediaLow := .absent
        controls.beeper := if s.controls.beepEnable = true ∧ s.controls.beeper = none then some ⟨.double, s.clock + 140000⟩
          else s.controls.beeper
        port := (s.brought .recStop tag).port.post (.recEnd n .operator s.tc.stamp) })) ∧
    (∀ n, s.recorder.state = .starting → s.recorder.clip = some n → exec (.recStop tag) s =
      .next (answered .recStop tag .ok .none .none { s.brought .recStop tag with
        recorder := { s.recorder with
          state := .standby, confirmTimer := none, startSet := ⟨false, false⟩, clip := none
          tally := .off, lampOn := false, blinkTimer := none }
        tc.recState := .standby, supply.recState := .standby, ovl.warnings.recFailed := .timed (s.clock + 3000000)
        controls.beeper := if s.controls.beepEnable = true ∧ s.controls.beeper = none then some ⟨.reject, s.clock + 150000⟩
          else s.controls.beeper
        port := (s.brought .recStop tag).port.post (.recFailed n .cancelled) }))

/-- R120, R136, R143: CLIP_CLOSED in STOPPING closes the clip by the outcomes reported for the ACTIVE slots, with the two slot warnings
tested (R110); a late one is answered TOO_LATE and any other BAD_ARGUMENT, without effect. What is the model's choice or reading in
it: log entry 26. -/
def Obligations.ClipClosedClosesTheClip : Prop :=
  ∀ (tag : Byte) (s : State) (n : Nat) (oa ob : CloseOutcome), Passed .clipClosed tag s →
    exec (.clipClosed tag .malformed) s = .next (answered .clipClosed tag .badArgument .none .none (s.brought .clipClosed tag)) ∧
    (n = 0 ∨ 9999 < n → exec (.clipClosed tag (.given ⟨n, oa, ob⟩)) s =
      .next (answered .clipClosed tag .badArgument .none .none (s.brought .clipClosed tag))) ∧
    (1 ≤ n → n ≤ 9999 → s.recorder.state ≠ .stopping ∨ s.recorder.clip ≠ some n →
      (∀ r rest, s.log.records = r :: rest → r.number = n → r.state ≠ .opened →
        exec (.clipClosed tag (.given ⟨n, oa, ob⟩)) s =
          .next (answered .clipClosed tag .tooLate .none .none (s.brought .clipClosed tag))) ∧
      (s.log.records = [] ∨ (∃ r rest, s.log.records = r :: rest ∧ (r.number ≠ n ∨ r.state = .opened)) →
        exec (.clipClosed tag (.given ⟨n, oa, ob⟩)) s =
          .next (answered .clipClosed tag .badArgument .none .none (s.brought .clipClosed tag)))) ∧
    (1 ≤ n → n ≤ 9999 → s.recorder.state = .stopping → s.recorder.clip = some n → ∃ u,
      exec (.clipClosed tag (.given ⟨n, oa, ob⟩)) s = .next (answered .clipClosed tag .ok .none .none u) ∧
      u = { s.brought .clipClosed tag with
        recorder := u.recorder, log := u.log, ovl.warnings := u.ovl.warnings, tc.recState := .standby
        supply.recState := .standby } ∧
      u.recorder = { s.recorder with
        state := .standby, closeTimer := none, clip := none, endLabel := none
        slotA := u.recorder.slotA, slotB := u.recorder.slotB } ∧
      SlotWarned u.recorder s.ovl.warnings u.ovl.warnings ∧
      (∀ sl, u.recorder.slot sl =
        if (s.recorder.slot sl).state = .active then
          { s.recorder.slot sl with
            state := if (match sl with | .a => oa | .b => ob) = .writeError then .error .writeError
              else if (s.recorder.slot sl).remaining = 0 then .full
              else if (s.recorder.slot sl).protect then .writeProtected else .ready }
        else s.recorder.slot sl) ∧
      u.log = { s.log with records := s.log.records.map fun r =>
        if r.state = .opened then
          { r with
            state := .closed, endLabel := s.recorder.endLabel
            segments := r.segments.map fun g =>
              if g.outcome = .inProgress ∧ (s.recorder.slot g.slot).state = .active then
                { g with outcome := if (match g.slot with | .a => oa | .b => ob) = .writeError then .writeError else .ok }
              else g }
        else r })

/-- R101, R104, R108, R109, R110, R116, R124, R125: the host's reports on a card, by the state of the slot and in every record state,
each with the two slot warnings tested and, in RECORDING, the time left: in STARTING a slot that stops being usable leaves the start set;
MEDIA_FAULT ends the segment of an ACTIVE slot, and on the only ACTIVE slot it ends the recording (R119). What is the model's choice or
reading in it: log entries 1, 6, 10 and 26. -/
def Obligations.CardReportsSetTheSlot : Prop :=
  (∀ (tag : Byte) (s : State),
    (Passed .cardReport tag s → exec (.cardReport tag .malformed) s =
      .next (answered .cardReport tag .badArgument .none .none (s.brought .cardReport tag))) ∧
    (Passed .mediaUpdate tag s → exec (.mediaUpdate tag .malformed) s =
      .next (answered .mediaUpdate tag .badArgument .none .none (s.brought .mediaUpdate tag))) ∧
    (Passed .mediaFault tag s → exec (.mediaFault tag .malformed) s =
      .next (answered .mediaFault tag .badArgument .none .none (s.brought .mediaFault tag))) ∧
    ∀ (sl : Slot) (kB : Nat), 4294967295 < kB →
      (Passed .cardReport tag s → ∀ v, exec (.cardReport tag (.given ⟨sl, v, kB⟩)) s =
        .next (answered .cardReport tag .badArgument .none .none (s.brought .cardReport tag))) ∧
      (Passed .mediaUpdate tag s → exec (.mediaUpdate tag (.given ⟨sl, kB⟩)) s =
        .next (answered .mediaUpdate tag .badArgument .none .none (s.brought .mediaUpdate tag)))) ∧
  ∀ (tag : Byte) (s : State) (sl : Slot) (kB : Nat), kB ≤ 4294967295 →
    (Passed .cardReport tag s → ∀ v : Verdict,
      ((s.recorder.slot sl).state ≠ .mounting → (s.recorder.slot sl).lapsed = true →
        exec (.cardReport tag (.given ⟨sl, v, kB⟩)) s =
          .next (answered .cardReport tag .tooLate .none .none (s.brought .cardReport tag))) ∧
      ((s.recorder.slot sl).state ≠ .mounting → (s.recorder.slot sl).lapsed = false →
        exec (.cardReport tag (.given ⟨sl, v, kB⟩)) s =
          .next (answered .cardReport tag .refused .noCard .none (s.brought .cardReport tag))) ∧
      ((s.recorder.slot sl).state = .mounting → s.recorder.state ≠ .recording → ∃ r w,
        r = s.recorder.setSlot { s.recorder.slot sl with
          mountTimer := none, remaining := if v = .ok then kB else 0
          state := if v = .bad then .error .bad else if (s.recorder.slot sl).protect then .writeProtected else .ready } sl ∧
        exec (.cardReport tag (.given ⟨sl, v, kB⟩)) s = .next (answered .cardReport tag .ok .none .none
          { s.brought .cardReport tag with recorder := r, ovl.warnings := w }) ∧
        SlotWarned r s.ovl.warnings w) ∧
      ((s.recorder.slot sl).state = .mounting → ∃ u,
        SlotsTested { s.brought .cardReport tag with
          recorder := s.recorder.setSlot { s.recorder.slot sl with
            mountTimer := none, remaining := if v = .ok then kB else 0
            state := if v = .bad then .error .bad else if (s.recorder.slot sl).protect then .writeProtected else .ready } sl } u ∧
        exec (.cardReport tag (.given ⟨sl, v, kB⟩)) s = .next (answered .cardReport tag .ok .none .none u))) ∧
    (Passed .mediaUpdate tag s →
      ((s.recorder.slot sl).state = .empty → exec (.mediaUpdate tag (.given ⟨sl, kB⟩)) s =
        .next (answered .mediaUpdate tag .refused .noCard .none (s.brought .mediaUpdate tag))) ∧
      ((s.recorder.slot sl).state = .mounting → exec (.mediaUpdate tag (.given ⟨sl, kB⟩)) s =
        .next (answered .mediaUpdate tag .refused .inProgress .none (s.brought .mediaUpdate tag))) ∧
      ((s.recorder.slot sl).state = .writeProtected → exec (.mediaUpdate tag (.given ⟨sl, kB⟩)) s =
        .next (answered .mediaUpdate tag .refused .locked .none (s.brought .mediaUpdate tag))) ∧
      (∀ r, (s.recorder.slot sl).state = .error r → exec (.mediaUpdate tag (.given ⟨sl, kB⟩)) s =
        .next (answered .mediaUpdate tag .refused .fault .none (s.brought .mediaUpdate tag))) ∧
      ((s.recorder.slot sl).state = .ready ∨ (s.recorder.slot sl).state = .full → s.recorder.state = .standby → ∃ r w,
        r = s.recorder.setSlot { s.recorder.slot sl with
          remaining := kB
          state := if (s.recorder.slot sl).state = .full ∧ 0 < kB then
              (if (s.recorder.slot sl).protect then .writeProtected else .ready)
            else (s.recorder.slot sl).state } sl ∧
        exec (.mediaUpdate tag (.given ⟨sl, kB⟩)) s = .next (answered .mediaUpdate tag .ok .none .none
          { s.brought .mediaUpdate tag with recorder := r, ovl.warnings := w }) ∧
        SlotWarned r s.ovl.warnings w) ∧
      ((s.recorder.slot sl).state = .ready → ∃ v u,
        StartReformed .noMedia { s.brought .mediaUpdate tag with
          recorder := s.recorder.setSlot { s.recorder.slot sl with remaining := kB } sl } v ∧ SlotsTested v u ∧
        exec (.mediaUpdate tag (.given ⟨sl, kB⟩)) s = .next (answered .mediaUpdate tag .ok .none .none u)) ∧
      ((s.recorder.slot sl).state = .active ∨ (s.recorder.slot sl).state = .full → ∃ u,
        SlotsTested { s.brought .mediaUpdate tag with
          recorder := s.recorder.setSlot { s.recorder.slot sl with
            remaining := kB
            state := if (s.recorder.slot sl).state = .full ∧ 0 < kB then
                (if (s.recorder.slot sl).protect then .writeProtected else .ready)
              else (s.recorder.slot sl).state } sl } u ∧
        exec (.mediaUpdate tag (.given ⟨sl, kB⟩)) s = .next (answered .mediaUpdate tag .ok .none .none u))) ∧
    (Passed .mediaFault tag s →
      ((s.recorder.slot sl).state = .empty → exec (.mediaFault tag (.given sl)) s =
        .next (answered .mediaFault tag .refused .noCard .none (s.brought .mediaFault tag))) ∧
      ((s.recorder.slot sl).state = .mounting → exec (.mediaFault tag (.given sl)) s =
        .next (answered .mediaFault tag .refused .inProgress .none (s.brought .mediaFault tag))) ∧
      ((s.recorder.slot sl).state = .full ∨ (s.recorder.slot sl).state = .writeProtected →
        exec (.mediaFault tag (.given sl)) s =
          .next (answered .mediaFault tag .refused .none .none (s.brought .mediaFault tag))) ∧
      (∀ e, (s.recorder.slot sl).state = .error e → exec (.mediaFault tag (.given sl)) s =
        .next (answered .mediaFault tag .refused .fault .none (s.brought .mediaFault tag))) ∧
      ((s.recorder.slot sl).state = .ready → s.recorder.state = .standby → ∃ r w,
        r = s.recorder.setSlot { s.recorder.slot sl with state := .error .mediaFault } sl ∧
        exec (.mediaFault tag (.given sl)) s = .next (answered .mediaFault tag .ok .none .none
          { s.brought .mediaFault tag with recorder := r, ovl.warnings := w }) ∧
        SlotWarned r s.ovl.warnings w) ∧
      (∀ n, (s.recorder.slot sl).state = .active → (s.recorder.slot (otherSlot sl)).state ≠ .active →
        s.recorder.state = .recording → s.recorder.clip = some n → ∃ r w,
          r = { s.recorder.setSlot { s.recorder.slot sl with state := .error .mediaFault } sl with
            state := .stopping, accountTimer := none, mediaLow := false, endLabel := some s.tc.stamp
            closeTimer := some (s.clock + 3000000), tally := .off, lampOn := false, blinkTimer := none } ∧
          exec (.mediaFault tag (.given sl)) s = .next (answered .mediaFault tag .ok .none .none
            { s.brought .mediaFault tag with
              recorder := r, tc.recState := .stopping, supply.recState := .stopping, ovl.warnings := w
              controls.beeper := if s.controls.beepEnable = true ∧ s.controls.beeper = none then some ⟨.double, s.clock + 140000⟩
                else s.controls.beeper
              port := (s.brought .mediaFault tag).port.post (.recEnd n .mediaFault s.tc.stamp)
              log := { s.log with records := s.log.records.map fun x =>
                if x.state = .opened then
                  { x with segments := x.segments.map fun g =>
                      if g.slot = sl ∧ g.outcome = .inProgress then { g with outcome := .writeError } else g }
                else x } }) ∧
          SlotWarned r { s.ovl.warnings with mediaLow := .absent } w) ∧
      ((s.recorder.slot sl).state = .ready → ∃ v u,
        StartReformed .noMedia { s.brought .mediaFault tag with
          recorder := s.recorder.setSlot { s.recorder.slot sl with state := .error .mediaFault } sl } v ∧ SlotsTested v u ∧
        exec (.mediaFault tag (.given sl)) s = .next (answered .mediaFault tag .ok .none .none u)) ∧
      ((s.recorder.slot sl).state = .active → ∃ v u,
        SlotLost sl .writeError .mediaFault { s.brought .mediaFault tag with
          recorder := s.recorder.setSlot { s.recorder.slot sl with state := .error .mediaFault } sl } v ∧ SlotsTested v u ∧
        exec (.mediaFault tag (.given sl)) s = .next (answered .mediaFault tag .ok .none .none u)))

/-- R139: CLIP_MARK appends a mark with the current label to the OPEN record, at most eight, in RECORDING only. -/
def Obligations.ClipMarksAreAppended : Prop :=
  (∀ (tag : Byte) (s : State) (a : NoArgs), Passed .clipMark tag s → a = .malformed ∨ emptyPayload s = false →
    exec (.clipMark tag a) s = .next (answered .clipMark tag .badArgument .none .none (s.brought .clipMark tag))) ∧
  ∀ (tag : Byte) (s : State) (r : ClipRec), Passed .clipMark tag s → emptyPayload s = true →
    (s.recorder.state ≠ .recording → exec (.clipMark tag (.given ())) s =
      .next (answered .clipMark tag .refused .notRecording .none (s.brought .clipMark tag))) ∧
    (s.recorder.state = .recording → s.log.openRec = some r →
      (8 ≤ r.marks.length → exec (.clipMark tag (.given ())) s =
        .next (answered .clipMark tag .refused .marksFull .none (s.brought .clipMark tag))) ∧
      (r.marks.length < 8 → exec (.clipMark tag (.given ())) s =
        .next (answered .clipMark tag .ok .none (.marked r.number (r.marks.length + 1) s.tc.stamp)
          { s.brought .clipMark tag with log.records := s.log.records.map fun x =>
              if x.state = .opened then { x with marks := x.marks ++ [s.tc.stamp] } else x })))


/-! ## Audio level unit -/

/-- R157, R158 with R146 and R155: AUDIO_CONFIG sets the whole configuration, CH2 following CH1 while the link is ON after it and
keeping at a change to OFF what it last followed, each field of CH2 being said; and AUDIO_GAIN_SET by the cases of its table. What is the model's choice or reading in it: log entries 1, 10 and 28. -/
def Obligations.AudioRequestsAreDecided : Prop :=
  ∀ (tag : Byte) (s : State),
    (Passed .audioConfig tag s → exec (.audioConfig tag .malformed) s =
      .next (answered .audioConfig tag .badArgument .none .none (s.brought .audioConfig tag))) ∧
    (Passed .audioGainSet tag s → exec (.audioGainSet tag .malformed) s =
      .next (answered .audioGainSet tag .badArgument .none .none (s.brought .audioGainSet tag))) ∧
    (∀ a : AudioConfigArgs, Passed .audioConfig tag s →
      (63 < a.ch1.agcMax ∨ 63 < a.ch2.agcMax → exec (.audioConfig tag (.given a)) s =
        .next (answered .audioConfig tag .badArgument .none .none (s.brought .audioConfig tag))) ∧
      (a.ch1.agcMax ≤ 63 → a.ch2.agcMax ≤ 63 →
        (s.audio.power = .standby → exec (.audioConfig tag (.given a)) s =
          .next (answered .audioConfig tag .refused .standby .none (s.brought .audioConfig tag))) ∧
        (s.audio.power ≠ .standby → GainInv s → s.audio.link = false → a.link = false →
          exec (.audioConfig tag (.given a)) s = .next (answered .audioConfig tag .ok .none .none
            { s.brought .audioConfig tag with
              audio.ch1 := configuredChannel s.audio.ch1 a.ch1 s.clock
              audio.ch2 := configuredChannel s.audio.ch2 a.ch2 s.clock })) ∧
        (s.audio.power ≠ .standby → GainInv s → a.link = true → ∃ c : ChannelRec,
          exec (.audioConfig tag (.given a)) s = .next (answered .audioConfig tag .ok .none .none
            { s.brought .audioConfig tag with
              audio.ch1 := configuredChannel s.audio.ch1 a.ch1 s.clock, audio.ch2 := c, audio.link := true }) ∧
          c.source = a.ch1.source ∧ c.setGain = s.audio.ch1.setGain ∧
          c.reduction = (configuredChannel s.audio.ch1 a.ch1 s.clock).reduction ∧
          c.applied = (if c.settling.isSome then 0 else c.setGain - c.reduction) ∧
          c.input = a.ch2.input ∧ c.limiter = a.ch2.limiter ∧ c.agcMax = a.ch2.agcMax ∧
          c.settling = (configuredChannel s.audio.ch2 a.ch2 s.clock).settling ∧ c.level = s.audio.ch2.level ∧
          c.peak = s.audio.ch2.peak ∧ c.hold = s.audio.ch2.hold ∧ c.isOver = s.audio.ch2.isOver ∧
          c.overFlag = s.audio.ch2.overFlag ∧ c.attack = s.audio.ch2.attack ∧ c.quiet = s.audio.ch2.quiet ∧
          c.rise = s.audio.ch2.rise ∧
          (s.audio.link = false → s.audio.ch2.limiter = true → a.ch2.limiter = false → c.release = 0 ∧ c.fall = 0) ∧
          (s.audio.link = true ∨ s.audio.ch2.limiter = false ∨ a.ch2.limiter = true →
            c.release = s.audio.ch2.release ∧ c.fall = s.audio.ch2.fall)) ∧
        (s.audio.power ≠ .standby → GainInv s → s.audio.link = true → a.link = false → ∃ c : ChannelRec,
          exec (.audioConfig tag (.given a)) s = .next (answered .audioConfig tag .ok .none .none
            { s.brought .audioConfig tag with
              audio.ch1 := configuredChannel s.audio.ch1 a.ch1 s.clock, audio.ch2 := c, audio.link := false }) ∧
          c.source = a.ch2.source ∧ c.setGain = s.audio.ch2.setGain ∧ c.input = a.ch2.input ∧ c.limiter = a.ch2.limiter ∧
          c.agcMax = a.ch2.agcMax ∧ c.settling = (configuredChannel s.audio.ch2 a.ch2 s.clock).settling ∧
          c.applied = (if c.settling.isSome then 0 else c.setGain - c.reduction) ∧
          ((a.ch2.source = .auto ∧ a.ch1.source ≠ .auto) ∨ (a.ch2.limiter = false ∧ s.audio.ch2.limiter = true) →
            c.reduction = 0) ∧
          ((a.ch2.source = .auto → a.ch1.source = .auto) → (a.ch2.limiter = false → s.audio.ch2.limiter = false) →
            c.reduction = (configuredChannel s.audio.ch1 a.ch1 s.clock).reduction) ∧
          c.attack = 0 ∧ c.quiet = 0 ∧ c.rise = 0 ∧ c.release = 0 ∧ c.fall = 0 ∧ c.level = s.audio.ch2.level ∧
          c.peak = s.audio.ch2.peak ∧ c.hold = s.audio.ch2.hold ∧ c.isOver = s.audio.ch2.isOver ∧
          c.overFlag = s.audio.ch2.overFlag))) ∧
    (∀ (ch : Channel) (n gain : Nat), Passed .audioGainSet tag s → channelOf n = some ch → gain ≤ 255 →
      (s.audio.power = .standby → exec (.audioGainSet tag (.given ⟨n, gain⟩)) s =
        .next (answered .audioGainSet tag .refused .standby .none (s.brought .audioGainSet tag))) ∧
      (s.audio.power ≠ .standby → n = 2 → s.audio.link = true → exec (.audioGainSet tag (.given ⟨n, gain⟩)) s =
        .next (answered .audioGainSet tag .refused .locked .none (s.brought .audioGainSet tag))) ∧
      (s.audio.power ≠ .standby → n = 1 ∨ s.audio.link = false → (s.audio.channel ch).source ≠ .host →
        exec (.audioGainSet tag (.given ⟨n, gain⟩)) s =
          .next (answered .audioGainSet tag .refused .operator .none (s.brought .audioGainSet tag))) ∧
      (s.audio.power ≠ .standby → (s.audio.channel ch).source = .host → s.audio.link = false →
        exec (.audioGainSet tag (.given ⟨n, gain⟩)) s =
          .next (answered .audioGainSet tag (if 63 < gain then .clamped else .ok) .none .none
            { s.brought .audioGainSet tag with
              audio := s.audio.setChannel { s.audio.channel ch with
                setGain := min 63 gain
                applied := if (s.audio.channel ch).settling.isSome then 0
                  else min 63 gain - (s.audio.channel ch).reduction } ch })) ∧
      (s.audio.power ≠ .standby → n = 1 → s.audio.ch1.source = .host → s.audio.link = true →
        exec (.audioGainSet tag (.given ⟨n, gain⟩)) s =
          .next (answered .audioGainSet tag (if 63 < gain then .clamped else .ok) .none .none
            { s.brought .audioGainSet tag with
              audio.ch1 := { s.audio.ch1 with
                setGain := min 63 gain
                applied := if s.audio.ch1.settling.isSome then 0 else min 63 gain - s.audio.ch1.reduction }
              audio.ch2 := { s.audio.ch2 with
                source := .host, setGain := min 63 gain, reduction := s.audio.ch1.reduction
                applied := if s.audio.ch2.settling.isSome then 0 else min 63 gain - s.audio.ch1.reduction } }))) ∧
    (∀ n gain : Nat, Passed .audioGainSet tag s → n ≠ 1 → n ≠ 2 → exec (.audioGainSet tag (.given ⟨n, gain⟩)) s =
      .next (answered .audioGainSet tag .badArgument .none .none (s.brought .audioGainSet tag)))

/-! ## Overlay generator -/

/-- R162, R169 to R172, R176: OVL_WRITE, OVL_FILL, OVL_SCROLL and OVL_CLEAR change the host layer of one page as their rules say,
and the rows whose displayed cells change join its dirty-row set; a place off the page is answered BAD_ARGUMENT. What is the model's
choice or reading in it: log entry 10. -/
def Obligations.TextRequestsChangeTheHostLayer : Prop :=
  ∀ (tag : Byte) (s : State) (page : Fin 4),
    (Passed .ovlWrite tag s → exec (.ovlWrite tag .malformed) s =
      .next (answered .ovlWrite tag .badArgument .none .none (s.brought .ovlWrite tag))) ∧
    (Passed .ovlFill tag s → exec (.ovlFill tag .malformed) s =
      .next (answered .ovlFill tag .badArgument .none .none (s.brought .ovlFill tag))) ∧
    (Passed .ovlScroll tag s → exec (.ovlScroll tag .malformed) s =
      .next (answered .ovlScroll tag .badArgument .none .none (s.brought .ovlScroll tag))) ∧
    (Passed .ovlClear tag s → exec (.ovlClear tag .malformed) s =
      .next (answered .ovlClear tag .badArgument .none .none (s.brought .ovlClear tag))) ∧
    (∀ (row : Fin 16) (column : Fin 40) (style : Style) (text : List Byte), Passed .ovlWrite tag s → text.length ≤ 40 → ∃ o,
      exec (.ovlWrite tag (.given ⟨page, row, column, style, text⟩)) s =
        .next (answered .ovlWrite tag (if 40 < column.val + text.length then .clamped else .ok) .none .none
          { s.brought .ovlWrite tag with ovl := o }) ∧
      LayerBecomes s.ovl o page fun r c =>
        if r = row ∧ column ≤ c then
          (match text[c.val - column.val]? with | some code => ⟨code, style⟩ | none => s.ovl.hostCell page r c)
        else s.ovl.hostCell page r c) ∧
    (∀ (row : Fin 16) (column : Fin 40) (code : Byte) (style : Style) (count : Nat), Passed .ovlFill tag s → count ≤ 255 → ∃ o,
      exec (.ovlFill tag (.given ⟨page, row, column, code, style, count⟩)) s =
        .next (answered .ovlFill tag (if 40 < column.val + count then .clamped else .ok) .none .none
          { s.brought .ovlFill tag with ovl := o }) ∧
      LayerBecomes s.ovl o page fun r c =>
        if r = row ∧ column ≤ c ∧ c.val < column.val + count then ⟨code, style⟩ else s.ovl.hostCell page r c) ∧
    (∀ (top bottom : Fin 16) (left right : Fin 40) (lines : Nat) (d : ScrollDirection) (blank : Style),
      Passed .ovlScroll tag s → top ≤ bottom → left ≤ right → lines ≤ 255 → ∃ o cells,
        exec (.ovlScroll tag (.given ⟨page, top, bottom, left, right, lines, d, blank⟩)) s =
          .next (answered .ovlScroll tag .ok .none .none { s.brought .ovlScroll tag with ovl := o }) ∧
        LayerBecomes s.ovl o page cells ∧
        ∀ (r : Fin 16) (c : Fin 40),
          (¬(top ≤ r ∧ r ≤ bottom ∧ left ≤ c ∧ c ≤ right) → cells r c = s.ovl.hostCell page r c) ∧
          (top ≤ r → r ≤ bottom → left ≤ c → c ≤ right →
            (lines = 0 ∨ bottom.val - top.val + 1 ≤ lines → cells r c = ⟨0x20, blank⟩) ∧
            (0 < lines → d = .up →
              (∀ r' : Fin 16, r'.val = r.val + lines → r' ≤ bottom → cells r c = s.ovl.hostCell page r' c) ∧
              (bottom.val < r.val + lines → cells r c = ⟨0x20, blank⟩)) ∧
            (0 < lines → d = .down →
              (∀ r' : Fin 16, r'.val + lines = r.val → top ≤ r' → cells r c = s.ovl.hostCell page r' c) ∧
              (r.val < top.val + lines → cells r c = ⟨0x20, blank⟩)))) ∧
    (Passed .ovlClear tag s → ∃ o,
      exec (.ovlClear tag (.given page)) s = .next (answered .ovlClear tag .ok .none .none
        { s.brought .ovlClear tag with ovl := o }) ∧
      LayerBecomes s.ovl o page fun _ _ => ⟨0x20, .normal⟩) ∧
    (∀ a : WriteArgs, Passed .ovlWrite tag s → 3 < a.page ∨ 15 < a.row ∨ 39 < a.column ∨ 40 < a.text.length →
      exec (.ovlWrite tag (.given a)) s = .next (answered .ovlWrite tag .badArgument .none .none (s.brought .ovlWrite tag))) ∧
    (∀ a : FillArgs, Passed .ovlFill tag s → 3 < a.page ∨ 15 < a.row ∨ 39 < a.column ∨ 255 < a.count →
      exec (.ovlFill tag (.given a)) s = .next (answered .ovlFill tag .badArgument .none .none (s.brought .ovlFill tag))) ∧
    (∀ a : ScrollArgs, Passed .ovlScroll tag s →
      3 < a.page ∨ 15 < a.bottom ∨ 39 < a.right ∨ a.bottom < a.top ∨ a.right < a.left ∨ 255 < a.lines →
      exec (.ovlScroll tag (.given a)) s = .next (answered .ovlScroll tag .badArgument .none .none (s.brought .ovlScroll tag))) ∧
    ∀ n, Passed .ovlClear tag s → 3 < n →
      exec (.ovlClear tag (.given n)) s = .next (answered .ovlClear tag .badArgument .none .none (s.brought .ovlClear tag))

/-- R163, R173, R176: OVL_CURSOR sets a cursor and marks the rows it leaves and comes to; OVL_FIELD_SET checks and sets one entry of
the live-field table and marks the rows whose displayed cells change. What is the model's choice or reading in it: log entries 10
and 29. -/
def Obligations.CursorsAndFieldsAreSet : Prop :=
  ∀ (tag : Byte) (s : State) (page : Fin 4) (row : Fin 16) (column : Fin 40),
    (Passed .ovlCursor tag s → exec (.ovlCursor tag .malformed) s =
      .next (answered .ovlCursor tag .badArgument .none .none (s.brought .ovlCursor tag))) ∧
    (Passed .ovlFieldSet tag s → exec (.ovlFieldSet tag .malformed) s =
      .next (answered .ovlFieldSet tag .badArgument .none .none (s.brought .ovlFieldSet tag))) ∧
    (∀ visible : Bool, Passed .ovlCursor tag s →
      (⟨row, column, visible⟩ = (s.ovl.pages.get page).cursor →
        exec (.ovlCursor tag (.given ⟨page, row, column, visible⟩)) s =
          .next (answered .ovlCursor tag .ok .none .none (s.brought .ovlCursor tag))) ∧
      (⟨row, column, visible⟩ ≠ (s.ovl.pages.get page).cursor → ∃ o,
        exec (.ovlCursor tag (.given ⟨page, row, column, visible⟩)) s =
          .next (answered .ovlCursor tag .ok .none .none { s.brought .ovlCursor tag with ovl := o }) ∧
        MarksRows { s.ovl with
            pages := s.ovl.pages.set page { s.ovl.pages.get page with cursor := ⟨row, column, visible⟩ } } o page
          fun r => decide (r = row ∨ r = (s.ovl.pages.get page).cursor.row))) ∧
    (∀ a : CursorArgs, Passed .ovlCursor tag s → 3 < a.page ∨ 15 < a.row ∨ 39 < a.column →
      exec (.ovlCursor tag (.given a)) s =
        .next (answered .ovlCursor tag .badArgument .none .none (s.brought .ovlCursor tag))) ∧
    (∀ (k : FieldKind) (enable : Bool), Passed .ovlFieldSet tag s →
      (enable = true → 40 < column.val + fieldWidth k → exec (.ovlFieldSet tag (.given ⟨k, enable, page, row, column⟩)) s =
        .next (answered .ovlFieldSet tag .badArgument .none .none (s.brought .ovlFieldSet tag))) ∧
      (∀ k', enable = true → k' ≠ k → (s.ovl.fields.entry k').enable = true → (s.ovl.fields.entry k').page = page →
        (s.ovl.fields.entry k').row = row → column.val < (s.ovl.fields.entry k').column.val + fieldWidth k' →
        (s.ovl.fields.entry k').column.val < column.val + fieldWidth k →
        exec (.ovlFieldSet tag (.given ⟨k, enable, page, row, column⟩)) s =
          .next (answered .ovlFieldSet tag .badArgument .none .none (s.brought .ovlFieldSet tag))) ∧
      ((enable = true → column.val + fieldWidth k ≤ 40 ∧
          ∀ k', k' ≠ k → (s.ovl.fields.entry k').enable = true → (s.ovl.fields.entry k').page = page →
            (s.ovl.fields.entry k').row = row → (s.ovl.fields.entry k').column.val + fieldWidth k' ≤ column.val ∨
              column.val + fieldWidth k ≤ (s.ovl.fields.entry k').column.val) → ∃ o,
        exec (.ovlFieldSet tag (.given ⟨k, enable, page, row, column⟩)) s =
          .next (answered .ovlFieldSet tag .ok .none .none { s.brought .ovlFieldSet tag with ovl := o }) ∧
        o = { s.ovl with pages := o.pages, fields := o.fields } ∧
        (∀ k', o.fields.entry k' = if k' = k then
          { s.ovl.fields.entry k with enable := enable, page := page, row := row, column := column }
          else s.ovl.fields.entry k') ∧
        (∀ p, (o.pages.get p).cells = (s.ovl.pages.get p).cells ∧ (o.pages.get p).cursor = (s.ovl.pages.get p).cursor) ∧
        ∀ p r, (o.pages.get p).dirty.get r = true ↔
          ((s.ovl.pages.get p).dirty.get r = true ∨ (∃ c, o.displayedCell p r c ≠ s.ovl.displayedCell p r c) ∨
            ((s.ovl.fields.entry k).enable = true ∧ enable = false ∧ (s.ovl.fields.entry k).page = p ∧
              (s.ovl.fields.entry k).row = r)))) ∧
    ∀ a : FieldArgs, Passed .ovlFieldSet tag s → 3 < a.page ∨ 15 < a.row ∨ 39 < a.column →
      exec (.ovlFieldSet tag (.given a)) s =
        .next (answered .ovlFieldSet tag .badArgument .none .none (s.brought .ovlFieldSet tag))

/-- R174, R175, R177: OVL_PAGE_SELECT by its table and OVL_MENU_SET: a change of displayed page marks the 16 rows of the new page, drops
the rows of a batch not yet begun, and an entry into the menu keeps the page left as the saved page. -/
def Obligations.PagesAndMenuAreSelected : Prop :=
  ∀ (tag : Byte) (s : State),
    (Passed .ovlPageSelect tag s → exec (.ovlPageSelect tag .malformed) s =
      .next (answered .ovlPageSelect tag .badArgument .none .none (s.brought .ovlPageSelect tag))) ∧
    (Passed .ovlMenuSet tag s → exec (.ovlMenuSet tag .malformed) s =
      .next (answered .ovlMenuSet tag .badArgument .none .none (s.brought .ovlMenuSet tag))) ∧
    (∀ page : Fin 4, Passed .ovlPageSelect tag s →
      (s.ovl.menu = true → exec (.ovlPageSelect tag (.given page)) s =
        .next (answered .ovlPageSelect tag .refused .menu .none (s.brought .ovlPageSelect tag))) ∧
      (s.ovl.menu = false → page = s.ovl.displayed → exec (.ovlPageSelect tag (.given page)) s =
        .next (answered .ovlPageSelect tag .ok .none .none (s.brought .ovlPageSelect tag))) ∧
      (s.ovl.menu = false → page ≠ s.ovl.displayed → ∃ o, exec (.ovlPageSelect tag (.given page)) s =
          .next (answered .ovlPageSelect tag .ok .none .none { s.brought .ovlPageSelect tag with ovl := o }) ∧
        MarksRows { s.ovl with
            displayed := page, batch := s.ovl.batch.map fun b => { b with waiting := [] } } o page fun _ => true)) ∧
    (∀ n, Passed .ovlPageSelect tag s → 3 < n → exec (.ovlPageSelect tag (.given n)) s =
      .next (answered .ovlPageSelect tag .badArgument .none .none (s.brought .ovlPageSelect tag))) ∧
    (Passed .ovlMenuSet tag s →
      exec (.ovlMenuSet tag (.given s.ovl.menu)) s =
        .next (answered .ovlMenuSet tag .ok .none .none (s.brought .ovlMenuSet tag)) ∧
      (s.ovl.menu = false → ∃ o, exec (.ovlMenuSet tag (.given true)) s =
          .next (answered .ovlMenuSet tag .ok .none .none { s.brought .ovlMenuSet tag with ovl := o }) ∧
        MarksRows { s.ovl with
            menu := true, saved := some s.ovl.displayed, displayed := 3
            batch := if s.ovl.displayed = 3 then s.ovl.batch else s.ovl.batch.map fun b => { b with waiting := [] } } o 3
          fun _ => decide (s.ovl.displayed ≠ 3)) ∧
      (∀ page, s.ovl.menu = true → s.ovl.displayed = 3 → s.ovl.saved = some page → ∃ o, exec (.ovlMenuSet tag (.given false)) s =
          .next (answered .ovlMenuSet tag .ok .none .none { s.brought .ovlMenuSet tag with ovl := o }) ∧
        MarksRows { s.ovl with
            menu := false, saved := none, displayed := page
            batch := if page = 3 then s.ovl.batch else s.ovl.batch.map fun b => { b with waiting := [] } } o page
          fun _ => decide (page ≠ 3)))

/-! ## Supply monitor -/

/-- R182, R186 to R188, R190: SUPPLY_SET, STANDBY_ENTER, STANDBY_EXIT, SHUTDOWN and RESET_PART as their tables decide them; a payload
that is not empty is answered BAD_ARGUMENT for the four that take none, as is one of SUPPLY_SET that does not hold its arguments. An
accepted STANDBY_ENTER in RUN is the entry of R186 with all that follows in the scanner (R5, R10), the lens drive (R50, R64), the
stabiliser (R67), the channels (R160) and the overlay (R177); an accepted SHUTDOWN begins the shutdown of R188. What is the model's
choice or reading in it: log entries 1, 10, 12, 13, 14, 20, 21, 23, 24, 28 and 33. -/
def Obligations.PowerRequestsAreDecided : Prop :=
  ∀ (tag : Byte) (s : State),
    (Passed .supplySet tag s → exec (.supplySet tag .malformed) s =
      .next (answered .supplySet tag .badArgument .none .none (s.brought .supplySet tag))) ∧
    (∀ w l c : Nat, Passed .supplySet tag s →
      (9000 ≤ c → c < l → l < w → w ≤ 16000 →
        exec (.supplySet tag (.given ⟨w, l, c⟩)) s = .next (answered .supplySet tag .ok .none .none
          { s.brought .supplySet tag with
            supply.thresholds := ⟨w, l, c⟩, supply.warn.run := 0, supply.low.run := 0, supply.cutoff.run := 0 })) ∧
      (c < 9000 ∨ l ≤ c ∨ w ≤ l ∨ 16000 < w → exec (.supplySet tag (.given ⟨w, l, c⟩)) s =
        .next (answered .supplySet tag .badArgument .none .none (s.brought .supplySet tag)))) ∧
    (∀ (i : Instr) (k : Kind) (a : NoArgs),
      (i = .standbyEnter tag a ∧ k = .standbyEnter) ∨ (i = .standbyExit tag a ∧ k = .standbyExit) ∨
        (i = .shutdown tag a ∧ k = .shutdown) ∨ (i = .resetPart tag a ∧ k = .resetPart) →
      Passed k tag s → a = .malformed ∨ emptyPayload s = false →
      exec i s = .next (answered k tag .badArgument .none .none (s.brought k tag))) ∧
    (Passed .standbyEnter tag s → emptyPayload s = true →
      (s.supply.power = .run → s.supply.recState = .standby → ∃ u, StandbyEntered (s.brought .standbyEnter tag) u ∧
        exec (.standbyEnter tag (.given ())) s = .next (answered .standbyEnter tag .ok .none .none u) ∧
        u.supply = { s.supply with power := .standby } ∧ u.recorder = { s.recorder with power := .standby } ∧
        u.tc = s.tc ∧ u.conv = s.conv ∧ u.clock = s.clock ∧ u.pending = s.pending ∧ u.pins = s.pins ∧
        u.lens.zoom.owner = .none ∧ u.lens.zoom.vcmd = 0 ∧ u.lens.zoom.duty = 0 ∧ u.lens.zoom.position = s.lens.zoom.position ∧
        u.lens.focus.owner = .none ∧ u.lens.focus.vcmd = 0 ∧ u.lens.focus.duty = 0 ∧
        u.lens.focus.position = s.lens.focus.position ∧ u.lens.floating = true ∧ u.lens.override = none ∧
        (s.lens.demand = s.controls.rocker.demand → u.lens.demand = 0) ∧ u.lens.presets = s.lens.presets ∧ u.stab.isActive = false ∧ u.stab.cond.run = false ∧ u.stab.cond.gyroValid = false ∧
        u.audio.ch1.setGain = s.audio.ch1.setGain ∧ u.audio.ch2.setGain = s.audio.ch2.setGain ∧
        u.audio.ch1.applied = s.audio.ch1.applied ∧ u.audio.ch2.applied = s.audio.ch2.applied ∧
        u.audio.ch1.level = -600 ∧ u.audio.ch2.level = -600 ∧ u.ovl.displayed = s.ovl.displayed ∧ u.ovl.menu = s.ovl.menu) ∧
      (s.supply.power = .run → s.supply.recState ≠ .standby → exec (.standbyEnter tag (.given ())) s =
        .next (answered .standbyEnter tag .refused .recording .none (s.brought .standbyEnter tag))) ∧
      (s.supply.power = .standby → s.supply.exit = none → exec (.standbyEnter tag (.given ())) s =
        .next (answered .standbyEnter tag .ok .none .none (s.brought .standbyEnter tag))) ∧
      (s.supply.power = .standby → s.supply.exit ≠ none → exec (.standbyEnter tag (.given ())) s =
        .next (answered .standbyEnter tag .refused .inProgress .none (s.brought .standbyEnter tag))) ∧
      (s.supply.power = .init → exec (.standbyEnter tag (.given ())) s =
        .next (answered .standbyEnter tag .refused .none .none (s.brought .standbyEnter tag)))) ∧
    (Passed .standbyExit tag s → emptyPayload s = true →
      (s.supply.power = .standby → s.supply.exit = none → s.conv.activity = .idle →
        (∀ e, (s.brought .standbyExit tag).port.inHand = some e → e.state = .untaken) →
        exec (.standbyExit tag (.given ())) s = .next (answered .standbyExit tag .ok .none .none
          { s.brought .standbyExit tag with
            supply.exit := some .host, conv.parties.exit := true, conv.owed := false
            conv.activity := .calibrating (s.clock + 2000) })) ∧
      (∀ v, s.supply.power = .standby → s.supply.exit = none → s.conv.activity = .converting v →
        exec (.standbyExit tag (.given ())) s = .next (answered .standbyExit tag .ok .none .none
          { s.brought .standbyExit tag with supply.exit := some .host, conv.parties.exit := true, conv.owed := true })) ∧
      (∀ t, s.supply.power = .standby → s.supply.exit = none → s.conv.activity = .calibrating t →
        exec (.standbyExit tag (.given ())) s = .next (answered .standbyExit tag .ok .none .none
          { s.brought .standbyExit tag with supply.exit := some .host, conv.parties.exit := true })) ∧
      (s.supply.power = .standby → s.supply.exit ≠ none → exec (.standbyExit tag (.given ())) s =
        .next (answered .standbyExit tag .refused .inProgress .none (s.brought .standbyExit tag))) ∧
      (s.supply.power = .run → exec (.standbyExit tag (.given ())) s =
        .next (answered .standbyExit tag .ok .none .none (s.brought .standbyExit tag))) ∧
      (s.supply.power = .init → exec (.standbyExit tag (.given ())) s =
        .next (answered .standbyExit tag .refused .none .none (s.brought .standbyExit tag)))) ∧
    (Passed .shutdown tag s → emptyPayload s = true →
      (s.supply.power = .run ∨ s.supply.power = .standby → ∃ u, ShutdownBegun .host (s.brought .shutdown tag) u ∧
        exec (.shutdown tag (.given ())) s = .next (answered .shutdown tag .ok .none .none u) ∧
        (s.recorder.state = s.supply.recState → u.supply = { s.supply with
          power := .shutdown, exit := none, shutdown := some ⟨.host, .waiting⟩, recState := u.recorder.state }) ∧
        u.recorder.power = .shutdown ∧
        (s.recorder.state = .standby ∨ s.recorder.state = .stopping → u.recorder.state = s.recorder.state) ∧
        (s.recorder.state = .starting → u.recorder.state = .standby) ∧
        (s.recorder.state = .recording → u.recorder.state = .stopping ∧ u.recorder.endLabel = some s.tc.stamp) ∧
        u.conv = s.conv ∧ u.pins = s.pins ∧ u.clock = s.clock ∧ u.pending = s.pending) ∧
      (s.supply.power = .init → exec (.shutdown tag (.given ())) s =
        .next (answered .shutdown tag .refused .none .none (s.brought .shutdown tag)))) ∧
    (Passed .resetPart tag s → emptyPayload s = true → exec (.resetPart tag (.given ())) s =
      .next (answered .resetPart tag .ok .none .none (s.brought .resetPart tag)))

/-! ## Resets and timers -/

/-- R23, R36, R65, R84, R100, R130, R144, R161, R180, R190, R192, R202: what the two resets of the part leave, row by row of the
reset tables. A power-on reset gives every block its power-on state with the lines as they stand; a warm reset keeps the settings the
reset tables keep and closes an OPEN clip record UNCONFIRMED. That the model's clock restarts at 0 on a power-on reset is the model's
choice (log entry 2). What is the model's choice or reading in it: log entries 2, 7, 14, 30 and 33. -/
def Obligations.ResetsLeaveTheirTables : Prop :=
  (∀ s : State, ∃ t, exec .powerOnReset s = .next t ∧ t.pending = s.pending ∧ t.pins = s.pins ∧ t.clock = 0 ∧
    ScannerReset t.controls ∧ ConverterReset t.conv 0 ∧ LensReset t.lens ∧ StabReset t.stab ∧ RecorderReset s.pins t.recorder ∧
    OverlayReset t.ovl ∧ SupplyReset t.supply ∧ PortReset t.port ∧
    t.supply.pwrHold = true ∧ t.supply.thresholds = ⟨13200, 12000, 11000⟩ ∧ t.supply.resetKind = .powerOn ∧
    (∀ i, t.conv.enables.get i = true) ∧ t.conv.offset = 0 ∧
    (∀ i, (t.controls.switches.get i).config =
      ⟨true, .activeLow, if i.val = 4 ∨ i.val = 5 then .latching else .momentary, decide (i.val = 0 ∨ i.val = 1)⟩) ∧
    DefaultKeymap t.controls.keymap ∧ t.controls.rocker.params = ⟨2048, 80, 1800⟩ ∧ t.controls.beepEnable = true ∧
    t.lens.zoom.position = 0 ∧ t.lens.focus.position = 0 ∧ t.lens.zoom.span = 16000 ∧ t.lens.focus.span = 24000 ∧
    (∀ n, t.lens.presets.get n = 0) ∧ t.lens.zoomVmax = 8000 ∧ t.lens.presetSpeed = 1500 ∧ t.lens.zoomGap = 4 ∧
    t.lens.focusGap = 4 ∧ t.lens.mode = .manual ∧
    t.stab.setting = true ∧ t.stab.state = .standby ∧ t.stab.yaw.z = 32768 ∧ t.stab.pitch.z = 32768 ∧
    t.stab.cond.gyroEnabled = true ∧ (∀ k : Fin 17, t.stab.gains.get k = 4000 + 2000 * k.val) ∧
    t.tc = ⟨⟨0, 0, 0, 0⟩, .r25, .freeRun, 0, false, true, true, some 100000, none, .standby⟩ ∧
    t.recorder.mode = .single ∧ t.recorder.current = .a ∧ t.recorder.bitrate = .mb50 ∧ t.recorder.nextClip = 1 ∧
    t.recorder.frontEnable = true ∧ t.log = ⟨[], false, false⟩ ∧
    (∀ ch, (t.audio.channel ch).input = .mic ∧ (t.audio.channel ch).source = .panel ∧ (t.audio.channel ch).limiter = true ∧
      (t.audio.channel ch).agcMax = 48 ∧ (t.audio.channel ch).setGain = 24 ∧ (t.audio.channel ch).applied = 24 ∧
      (t.audio.channel ch).settling = none ∧ ChannelReset (t.audio.channel ch)) ∧
    t.audio.link = false ∧ t.audio.missed = 0 ∧ t.audio.replacements = 0 ∧ t.ovl.displayed = 0 ∧
    (∀ page row column, t.ovl.hostCell page row column = ⟨0x20, .normal⟩) ∧
    (∀ page : Fin 4, (t.ovl.pages.get page).cursor = ⟨0, 0, false⟩) ∧
    (∀ k, (t.ovl.fields.entry k).enable = false ∧ (t.ovl.fields.entry k).page = 0 ∧ (t.ovl.fields.entry k).row = 0 ∧
      (t.ovl.fields.entry k).column = 0) ∧
    ∀ k, t.ovl.warnings.entry k = .absent) ∧
  ∀ s : State, ∃ t, exec .warmReset s = .next t ∧ t.pending = s.pending ∧ t.pins = s.pins ∧ t.clock = s.clock ∧
    ScannerReset t.controls ∧ ConverterReset t.conv s.clock ∧ LensReset t.lens ∧ StabReset t.stab ∧
    RecorderReset s.pins t.recorder ∧ OverlayReset t.ovl ∧ SupplyReset t.supply ∧ PortReset t.port ∧
    t.supply.pwrHold = s.supply.pwrHold ∧ t.supply.thresholds = s.supply.thresholds ∧ t.supply.resetKind = .warm ∧
    t.conv.enables = s.conv.enables ∧ t.conv.offset = s.conv.offset ∧
    (∀ i, (t.controls.switches.get i).config = (s.controls.switches.get i).config) ∧
    t.controls.keymap = s.controls.keymap ∧ t.controls.rocker.params = s.controls.rocker.params ∧
    t.controls.beepEnable = s.controls.beepEnable ∧
    (∀ ax, (t.axis ax).position = (s.axis ax).position ∧ (t.axis ax).span = (s.axis ax).span) ∧
    t.lens.presets = s.lens.presets ∧ t.lens.zoomVmax = s.lens.zoomVmax ∧ t.lens.presetSpeed = s.lens.presetSpeed ∧
    t.lens.zoomGap = s.lens.zoomGap ∧ t.lens.focusGap = s.lens.focusGap ∧ t.lens.mode = s.lens.mode ∧
    t.stab.setting = s.stab.setting ∧ t.stab.gains = s.stab.gains ∧ t.stab.yaw.z = s.stab.yaw.z ∧
    t.stab.pitch.z = s.stab.pitch.z ∧ t.stab.state = (if s.stab.setting then .standby else .off) ∧
    t.stab.cond.gyroEnabled = (s.conv.enables.get 0 && s.conv.enables.get 1) ∧
    t.tc = { s.tc with recState := .standby } ∧
    t.recorder.mode = s.recorder.mode ∧ t.recorder.current = s.recorder.current ∧ t.recorder.bitrate = s.recorder.bitrate ∧
    t.recorder.nextClip = s.recorder.nextClip ∧ t.recorder.frontEnable = s.recorder.frontEnable ∧
    t.log = ⟨s.log.records.map (fun r => if r.state = .opened then
      { r with
        state := .unconfirmed
        endLabel := some (if s.recorder.state = .stopping then s.recorder.endLabel.getD s.tc.stamp else s.tc.stamp) }
      else r), false, false⟩ ∧
    (∀ ch, (t.audio.channel ch).input = (s.audio.channel ch).input ∧ (t.audio.channel ch).source = (s.audio.channel ch).source ∧
      (t.audio.channel ch).limiter = (s.audio.channel ch).limiter ∧ (t.audio.channel ch).agcMax = (s.audio.channel ch).agcMax ∧
      (t.audio.channel ch).setGain = (s.audio.channel ch).setGain ∧
      (t.audio.channel ch).settling = (if (s.audio.channel ch).input = .mic48 then some (s.clock + 500000) else none) ∧
      (t.audio.channel ch).applied = (if (s.audio.channel ch).input = .mic48 then 0 else (s.audio.channel ch).setGain) ∧
      ChannelReset (t.audio.channel ch)) ∧
    t.audio.link = s.audio.link ∧ t.audio.missed = 0 ∧ t.audio.replacements = 0 ∧
    t.ovl.displayed = (if s.ovl.menu then s.ovl.saved.getD s.ovl.displayed else s.ovl.displayed) ∧
    (∀ page row column, t.ovl.hostCell page row column = s.ovl.hostCell page row column) ∧
    (∀ page : Fin 4, (t.ovl.pages.get page).cursor = (s.ovl.pages.get page).cursor) ∧
    (∀ k, (t.ovl.fields.entry k).enable = (s.ovl.fields.entry k).enable ∧
      (t.ovl.fields.entry k).page = (s.ovl.fields.entry k).page ∧ (t.ovl.fields.entry k).row = (s.ovl.fields.entry k).row ∧
      (t.ovl.fields.entry k).column = (s.ovl.fields.entry k).column) ∧
    ∀ k, t.ovl.warnings.entry k = if k = .fsyncLost ∧ s.tc.present = false then .placed else .absent

/-- R21, R40, R45, R60, R64, R118, R127, R156, R167, R188: a timer that runs out has its one effect at its time; of a timer that does not
run its event changes nothing (log entry 1). The lens stop of a shutdown halts both axes as R64 says. That SPEED_TIMEOUT discards a
capture in progress is the model's reading (log entry 19: R40 says that the next capture uses N = 1). What is the model's choice or
reading in it: log entries 1, 12, 15, 17, 19, 24 and 33. -/
def Obligations.TimersRunOutWithTheirEffect : Prop :=
  ∀ s : State,
    (s.controls.beeper = none → exec .beepPatternEnd s = .next (settle s)) ∧
    (∀ p t, s.controls.beeper = some ⟨p, t⟩ →
      exec .beepPatternEnd s = .next (settle { s with clock := max s.clock t, controls.beeper := none })) ∧
    (∀ k, s.ovl.warnings.entry k = .absent ∨ s.ovl.warnings.entry k = .placed → exec (.warningExpiry k) s = .next (settle s)) ∧
    (∀ k t, s.ovl.warnings.entry k = .timed t → exec (.warningExpiry k) s =
      .next (settle { s with clock := max s.clock t, ovl.warnings := s.ovl.warnings.setEntry .absent k })) ∧
    (s.recorder.inhibit = none → exec .toggleInhibitExpiry s = .next (settle s)) ∧
    (∀ t, s.recorder.inhibit = some t →
      exec .toggleInhibitExpiry s = .next (settle { s with clock := max s.clock t, recorder.inhibit := none })) ∧
    (s.lens.override = none → exec .overrideWindowExpiry s = .next (settle s)) ∧
    (∀ t, s.lens.override = some t →
      exec .overrideWindowExpiry s = .next (settle { s with clock := max s.clock t, lens.override := none })) ∧
    (s.recorder.blinkTimer = none → exec .tallyBlinkToggle s = .next (settle s)) ∧
    (∀ t, s.recorder.blinkTimer = some t → s.recorder.tally = .blink2 ∨ s.recorder.tally = .blink4 →
      exec .tallyBlinkToggle s = .next (settle { s with
        clock := max s.clock t
        recorder.lampOn := !s.recorder.lampOn
        recorder.blinkTimer := some (t + if s.recorder.tally = .blink2 then 250000 else 125000) })) ∧
    (∀ ax, (s.axis ax).pause = none → exec (.stallPauseEnd ax) s = .next (settle s)) ∧
    (∀ ax t, (s.axis ax).pause = some t → exec (.stallPauseEnd ax) s = .next (settle
      { s with clock := max s.clock t, lens := s.lens.setAxis { s.axis ax with pause := none } ax })) ∧
    (∀ ax, (s.axis ax).suspect = none → exec (.stallSuspectExpiry ax) s = .next (settle s)) ∧
    (∀ ax t, (s.axis ax).suspect = some t → exec (.stallSuspectExpiry ax) s = .next (settle
      { s with clock := max s.clock (t + 500000), lens := s.lens.setAxis { s.axis ax with suspect := none } ax })) ∧
    (∀ ax, (s.axis ax).lastEdge = none → exec (.speedTimeout ax) s = .next (settle s)) ∧
    (∀ ax t, (s.axis ax).lastEdge = some t → exec (.speedTimeout ax) s = .next (settle
      { s with clock := max s.clock (t + 50000), lens := s.lens.setAxis { s.axis ax with measured := 0, capture := none } ax })) ∧
    (∀ ch, (s.audio.channel ch).settling = none → exec (.settlingExpiry ch) s = .next (settle s)) ∧
    (∀ ch t, (s.audio.channel ch).settling = some t → exec (.settlingExpiry ch) s = .next (settle { s with
      clock := max s.clock t
      audio := s.audio.setChannel { s.audio.channel ch with
        settling := none, applied := (s.audio.channel ch).setGain - (s.audio.channel ch).reduction } ch
      port := s.port.post (.audioSettled ch (s.audio.channel ch).input) })) ∧
    (s.supply.shutdown = none ∨ (∃ r, s.supply.shutdown = some ⟨r, .waiting⟩ ∧ s.supply.recState ≠ .standby) →
      exec .shutdownLensStop s = .next (settle s)) ∧
    (∀ r, s.supply.shutdown = some ⟨r, .waiting⟩ → s.supply.recState = .standby → ∃ u,
      exec .shutdownLensStop s = .next (settle u) ∧
      LensHalted .shutdown s { u with supply := s.supply } ∧
      u = { s with lens := u.lens, stab := u.stab, supply := u.supply, port := u.port } ∧
      u.supply = { s.supply with shutdown := some ⟨r, .lensStopped (s.clock + 100000)⟩ } ∧ u.lens.floating = true ∧
      u.lens.override = none ∧ ∀ ax, (u.axis ax).owner = .none ∧ (u.axis ax).vcmd = 0 ∧ (u.axis ax).duty = 0 ∧
        (u.axis ax).position = (s.axis ax).position ∧
        ((s.axis ax).owner = .homing → (u.axis ax).homing = .abandoned .shutdown)) ∧
    (s.supply.shutdown = none ∨ (∃ r, s.supply.shutdown = some ⟨r, .waiting⟩) →
      exec .pwrHoldRelease s = .next (settle s)) ∧
    (∀ r t, s.supply.shutdown = some ⟨r, .lensStopped t⟩ → exec .pwrHoldRelease s = .next (settle
      { s with clock := max s.clock t, supply.shutdown := some ⟨r, .released⟩, supply.pwrHold := false }))

/-! ## Control scanner events -/

/-- R2, R4, R5, R12 to R16, R18, R20, R57 to R59, R66, R113, R118, R139, R140, R153, R154, R175, R187, R188: SCAN takes an input's new
level at its fourth differing scan. A press that is accepted in RUN resolves in the layer in force, PLAIN, ASSIGN or MENU, changes the
modifiers, makes its token where the entry makes one, and does its action, on a MOMENTARY and on a LATCHING input; one that the lock
holds off is refused. An accepted release changes the modifiers, makes its token and does its action, as far as its record lets it,
and delivers nothing in INIT and SHUTDOWN. In STANDBY only wake inputs and the POWER switch are looked at: the second poll in a row
wakes the part or shuts it down. What is the model's choice or reading in it: log entries 1, 12, 13, 19, 20, 21, 24, 28
and 30. -/
def Obligations.ScansDebounceAndAccept : Prop :=
  ∀ (levels : Vector Bool 24) (s : State),
    (s.controls.firstScan = true → exec (.scan levels) s = .next (settle { s with
      clock := max s.clock s.controls.scanDue
      controls.firstScan := false
      controls.scanDue := s.controls.scanDue + if s.supply.power = .standby then 32000 else 1000
      controls.switches := .ofFn fun i => { s.controls.switches.get i with
        count := 0
        accepted := (s.controls.switches.get i).config.enabled &&
          pressed (s.controls.switches.get i).config (levels.get i) } })) ∧
    (s.controls.firstScan = false → s.supply.power ≠ .standby →
      (∀ i, (s.controls.switches.get i).config.enabled = true →
        pressed (s.controls.switches.get i).config (levels.get i) = (s.controls.switches.get i).accepted ∨
          (s.controls.switches.get i).count < 3) →
      exec (.scan levels) s = .next (settle { s with
        clock := max s.clock s.controls.scanDue
        controls.scanDue := s.controls.scanDue + 1000
        controls.switches := .ofFn fun i => if (s.controls.switches.get i).config.enabled then
            { s.controls.switches.get i with
              count := if pressed (s.controls.switches.get i).config (levels.get i) = (s.controls.switches.get i).accepted then 0
                else (s.controls.switches.get i).count + 1 }
          else s.controls.switches.get i })) ∧
    (∀ i : Fin 24, s.controls.firstScan = false → (s.controls.switches.get i).config.enabled = true →
      (s.controls.switches.get i).count = 3 → (s.controls.switches.get i).accepted = false →
      pressed (s.controls.switches.get i).config (levels.get i) = true →
      (∀ j, j ≠ i → (s.controls.switches.get j).config.enabled = true →
        (s.controls.switches.get j).count = 0 ∧
          pressed (s.controls.switches.get j).config (levels.get j) = (s.controls.switches.get j).accepted) →
      (s.supply.power = .init ∨ s.supply.power = .shutdown → exec (.scan levels) s = .next (settle { s with
        clock := max s.clock s.controls.scanDue
        controls.scanDue := s.controls.scanDue + 1000
        controls.switches := s.controls.switches.set i { s.controls.switches.get i with accepted := true, count := 0, polls := 0 } })) ∧
      (s.supply.power = .run → s.controls.lock = false → s.ovl.menu = false → (∀ j, s.controls.assign.get j = false) →
        (s.controls.keymap.plain.get i).action = .token → (s.controls.switches.get i).config.kind = .momentary →
        s.controls.tokens.length < 16 → exec (.scan levels) s = .next (settle { s with
          clock := max s.clock s.controls.scanDue
          controls.scanDue := s.controls.scanDue + 1000
          controls.tokens := s.controls.tokens ++ [BitVec.ofNat 16 (i.val * 256 + 1)]
          controls.switches := s.controls.switches.set i { s.controls.switches.get i with
            accepted := true, count := 0, polls := 0
            held := some ⟨.plain, s.controls.keymap.plain.get i, .momentary, false, false, .running,
              some (max s.clock s.controls.scanDue + 800000)⟩ }
          port := if s.controls.tokens = [] then s.port.post .tokensReady else s.port })) ∧
      (s.supply.power = .run → s.controls.lock = true → (s.controls.keymap.plain.get i).action ≠ .recToggle →
        (s.controls.keymap.plain.get i).action ≠ .lock → (s.controls.keymap.plain.get i).action ≠ .power →
        exec (.scan levels) s = .next (settle { s with
          clock := max s.clock s.controls.scanDue
          controls.scanDue := s.controls.scanDue + 1000
          controls.switches := s.controls.switches.set i { s.controls.switches.get i with
            accepted := true, count := 0, polls := 0
            held := some ⟨.plain, s.controls.keymap.plain.get i, (s.controls.switches.get i).config.kind, true, false, .idle, none⟩ }
          controls.beeper := if s.controls.beepEnable = true ∧ s.controls.beeper = none then
              some ⟨.reject, max s.clock s.controls.scanDue + 150000⟩ else s.controls.beeper
          ovl.warnings.keysLocked := .timed (max s.clock s.controls.scanDue + 2000000) })) ∧
      (∀ layer h, s.supply.power = .run → ResolvesIn s i layer →
        h = ⟨layer, (s.controls.keymap.layer layer).get i, (s.controls.switches.get i).config.kind, false, false,
          if (s.controls.switches.get i).config.kind = .momentary then .running else .idle,
          if (s.controls.switches.get i).config.kind = .momentary then some (max s.clock s.controls.scanDue + 800000) else none⟩ →
        ∃ b c u : State,
          b = { s with
            clock := max s.clock s.controls.scanDue
            controls := { s.controls with
                scanDue := s.controls.scanDue + 1000
                switches := s.controls.switches.set i { s.controls.switches.get i with
                  accepted := true, count := 0, polls := 0, held := some h } : Controls }.withPress i h } ∧
          TokenMadeIf (h.entry.action = .token ∨ (h.entry.action ≠ .flush ∧ h.entry.press = true))
            (tokenWord i.val .press layer) b c ∧
          PressActed h c u ∧ exec (.scan levels) s = .next (settle u))) ∧
    (∀ i : Fin 24, s.controls.firstScan = false → s.supply.power ≠ .standby → (s.controls.switches.get i).config.enabled = true →
      (s.controls.switches.get i).count = 3 → (s.controls.switches.get i).accepted = true →
      pressed (s.controls.switches.get i).config (levels.get i) = false →
      (∀ j, j ≠ i → (s.controls.switches.get j).config.enabled = true →
        (s.controls.switches.get j).count = 0 ∧
          pressed (s.controls.switches.get j).config (levels.get j) = (s.controls.switches.get j).accepted) →
      ((s.controls.switches.get i).held = none → exec (.scan levels) s = .next (settle { s with
        clock := max s.clock s.controls.scanDue
        controls.scanDue := s.controls.scanDue + 1000
        controls.switches := s.controls.switches.set i { s.controls.switches.get i with
          accepted := false, count := 0, polls := 0, held := none } })) ∧
      (∀ h, (s.controls.switches.get i).held = some h → ∃ b : State,
        b = { s with
          clock := max s.clock s.controls.scanDue
          controls := { s.controls with
              scanDue := s.controls.scanDue + 1000
              switches := s.controls.switches.set i { s.controls.switches.get i with
                accepted := false, count := 0, polls := 0, held := none } : Controls }.withRelease i h } ∧
        (s.supply.power = .init ∨ s.supply.power = .shutdown → exec (.scan levels) s = .next (settle b)) ∧
        (s.supply.power = .run → ∃ c u : State,
          TokenMadeIf (h.lockedOut = false ∧ h.silent = false ∧ h.entry.release = true) (tokenWord i.val .release h.layer) b c ∧
          ReleaseActed h c u ∧ exec (.scan levels) s = .next (settle u)))) ∧
    (∀ (i : Fin 24) (level powerOff : Bool) (b : State), s.controls.firstScan = false → s.supply.power = .standby →
      (s.controls.switches.get i).config.enabled = true →
      level = pressed (s.controls.switches.get i).config (levels.get i) → level ≠ (s.controls.switches.get i).accepted →
      (∀ j, j ≠ i → (s.controls.switches.get j).config.enabled = true →
        (s.controls.switches.get j).polls = 0 ∧
          pressed (s.controls.switches.get j).config (levels.get j) = (s.controls.switches.get j).accepted) →
      (powerOff = true ↔ level = false ∧ (s.controls.switches.get i).config.kind = .latching ∧
        (s.controls.keymap.plain.get i).action = .power) →
      b = { s with clock := max s.clock s.controls.scanDue, controls.scanDue := s.controls.scanDue + 32000 } →
      ((s.controls.switches.get i).config.wake = false → powerOff = false → exec (.scan levels) s = .next (settle b)) ∧
      ((s.controls.switches.get i).config.wake = true ∨ powerOff = true → (s.controls.switches.get i).polls = 0 →
        exec (.scan levels) s = .next (settle { b with
          controls.switches := s.controls.switches.set i { s.controls.switches.get i with polls := 1 } })) ∧
      (powerOff = true → (s.controls.switches.get i).polls = 1 →
        (∀ j, j ≠ i → (s.controls.switches.get j).config.enabled = true → (s.controls.switches.get j).count = 0) → ∃ u : State,
        ShutdownBegun .operator { b with
          controls := { b.controls with
              switches := s.controls.switches.set i { s.controls.switches.get i with
                accepted := false, count := 0, polls := 0, held := none } : Controls }.withoutHeld i
            (s.controls.switches.get i).held } u ∧
        exec (.scan levels) s = .next (settle u)) ∧
      ((s.controls.switches.get i).config.wake = true → powerOff = false → (s.controls.switches.get i).polls = 1 → ∃ u : State,
        (∀ h, level = true →
          h = ⟨.plain, s.controls.keymap.plain.get i, (s.controls.switches.get i).config.kind, false, true, .idle, none⟩ →
          WakeTaken i { b with
            controls := { b.controls with
                switches := s.controls.switches.set i { s.controls.switches.get i with
                  accepted := true, count := 0, polls := 0, held := some h } : Controls }.withPress i h } u) ∧
        (level = false → WakeTaken i { b with
          controls := { b.controls with
              switches := s.controls.switches.set i { s.controls.switches.get i with
                accepted := false, count := 0, polls := 0, held := none } : Controls }.withoutHeld i
            (s.controls.switches.get i).held } u) ∧
        exec (.scan levels) s = .next (settle u))) ∧
    (s.controls.firstScan = false → s.supply.power = .standby →
      (∀ i, (s.controls.switches.get i).config.enabled = true →
        pressed (s.controls.switches.get i).config (levels.get i) = (s.controls.switches.get i).accepted) →
      exec (.scan levels) s = .next (settle { s with
        clock := max s.clock s.controls.scanDue
        controls.scanDue := s.controls.scanDue + 32000
        controls.switches := .ofFn fun i => if (s.controls.switches.get i).config.enabled then
            { s.controls.switches.get i with polls := 0 } else s.controls.switches.get i }))

/-- R6, R7, R12, R14, R16 to R18, R57, R60, R153, R155, R188: a long press fires once, with its LONG token where the entry reports it,
and stores a preset or shuts the camera down by its action; a store that is refused beeps. An encoder's fourth step in one direction is
a detent, UP or DOWN, routed by its encoder and the layer in force: to the focus ring, to an audio channel, or to the token queue. What
is the model's choice or reading in it: log entries 1, 12, 13, 17, 19, 20, 21, 22, 24 and 28. -/
def Obligations.LongPressesAndDetentsAreTaken : Prop :=
  ∀ s : State,
    (∀ i, (s.controls.switches.get i).held = none → exec (.longPressTimerExpiry i) s = .next (settle s)) ∧
    (∀ i h, (s.controls.switches.get i).held = some h → h.timer = none →
      exec (.longPressTimerExpiry i) s = .next (settle s)) ∧
    (∀ i h t, (s.controls.switches.get i).held = some h → h.timer = some t → h.entry.long = false →
      ((∀ n, h.entry.action ≠ .preset n) → h.entry.action ≠ .power → exec (.longPressTimerExpiry i) s = .next (settle { s with
        clock := max s.clock t
        controls.switches := s.controls.switches.set i
          { s.controls.switches.get i with held := some { h with long := .fired, timer := none } } })) ∧
      (∀ n, h.entry.action = .preset n → s.lens.zoom.homing = .homed → s.lens.zoom.owner ≠ .homing →
        exec (.longPressTimerExpiry i) s = .next (settle { s with
          clock := max s.clock t
          controls.switches := s.controls.switches.set i
            { s.controls.switches.get i with held := some { h with long := .fired, timer := none } }
          controls.beeper := if s.controls.beepEnable = true ∧ s.controls.beeper = none then
              some ⟨.short, max s.clock t + 40000⟩ else s.controls.beeper
          lens.presets := s.lens.presets.set n (clampInt 0 s.lens.zoom.span s.lens.zoom.position) })) ∧
      (h.entry.action = .power → s.supply.power = .run ∨ s.supply.power = .standby → ∃ u,
        exec (.longPressTimerExpiry i) s = .next u ∧ u.supply.power = .shutdown ∧
          u.supply.shutdown = some ⟨.operator, .waiting⟩ ∧ u.supply.exit = none)) ∧
    (∀ i h t, (s.controls.switches.get i).held = some h → h.timer = some t → h.entry.long = true → h.entry.action = .token →
      s.controls.tokens.length < 16 → exec (.longPressTimerExpiry i) s = .next (settle { s with
        clock := max s.clock t
        controls.switches := s.controls.switches.set i
          { s.controls.switches.get i with held := some { h with long := .fired, timer := none } }
        controls.tokens := s.controls.tokens ++ [tokenWord i.val .long h.layer]
        port := if s.controls.tokens = [] then s.port.post .tokensReady else s.port })) ∧
    (∀ i h t, (s.controls.switches.get i).held = some h → h.timer = some t → ∃ b c : State,
      b = { s with
        clock := max s.clock t
        controls.switches := s.controls.switches.set i
          { s.controls.switches.get i with held := some { h with long := .fired, timer := none } } } ∧
      TokenMadeIf (h.entry.long = true) (tokenWord i.val .long h.layer) b c ∧
      ((∀ n, h.entry.action ≠ .preset n) → h.entry.action ≠ .power → exec (.longPressTimerExpiry i) s = .next (settle c)) ∧
      (∀ n, h.entry.action = .preset n → ∃ u, StoreTaken n c u ∧ exec (.longPressTimerExpiry i) s = .next (settle u)) ∧
      (h.entry.action = .power → s.supply.power = .run ∨ s.supply.power = .standby → ∃ u,
        ShutdownBegun .operator c u ∧ exec (.longPressTimerExpiry i) s = .next (settle u))) ∧
    (∀ e a b time, s.supply.power ≠ .run → exec (.encoderTransition e a b time) s = .next (settle
      { s with clock := max s.clock time, pins := s.pins.setEncoder ⟨a, b⟩ e })) ∧
    (∀ (e : Encoder) (l : Levels) (n : Int) (time : Nat), s.supply.power = .run → s.controls.decoder e = ⟨l, n⟩ →
      exec (.encoderTransition e (!l.a) (!l.b) time) s = .next (settle { s with
        clock := max s.clock time, pins := s.pins.setEncoder ⟨!l.a, !l.b⟩ e
        controls := s.controls.setDecoder ⟨⟨!l.a, !l.b⟩, 0⟩ e }) ∧
      (l.a = l.b → -3 ≤ n → n ≤ 2 → exec (.encoderTransition e (!l.a) l.b time) s = .next (settle { s with
        clock := max s.clock time, pins := s.pins.setEncoder ⟨!l.a, l.b⟩ e
        controls := s.controls.setDecoder ⟨⟨!l.a, l.b⟩, n + 1⟩ e })) ∧
      (l.a ≠ l.b → -2 ≤ n → n ≤ 3 → exec (.encoderTransition e (!l.a) l.b time) s = .next (settle { s with
        clock := max s.clock time, pins := s.pins.setEncoder ⟨!l.a, l.b⟩ e
        controls := s.controls.setDecoder ⟨⟨!l.a, l.b⟩, n - 1⟩ e })) ∧
      (l.a ≠ l.b → -3 ≤ n → n ≤ 2 → exec (.encoderTransition e l.a (!l.b) time) s = .next (settle { s with
        clock := max s.clock time, pins := s.pins.setEncoder ⟨l.a, !l.b⟩ e
        controls := s.controls.setDecoder ⟨⟨l.a, !l.b⟩, n + 1⟩ e })) ∧
      (l.a = l.b → -2 ≤ n → n ≤ 3 → exec (.encoderTransition e l.a (!l.b) time) s = .next (settle { s with
        clock := max s.clock time, pins := s.pins.setEncoder ⟨l.a, !l.b⟩ e
        controls := s.controls.setDecoder ⟨⟨l.a, !l.b⟩, n - 1⟩ e })) ∧
      (∀ (line : EncoderLine) (l' : Levels) (up : Bool),
        l' = (match line with | .a => ⟨!l.a, l.b⟩ | .b => ⟨l.a, !l.b⟩) →
        up = (match line with | .a => decide (l.a = l.b) | .b => decide (l.a ≠ l.b)) → n = (if up then 3 else -3) → ∃ u,
        DetentRouted e up { s with
          clock := max s.clock time, pins := s.pins.setEncoder l' e
          controls := s.controls.setDecoder ⟨l', 0⟩ e } u ∧
        exec (.encoderTransition e l'.a l'.b time) s = .next (settle u)) ∧
      (n = 3 → l.a = l.b → s.controls.lock = true → e ≠ .focusRing → exec (.encoderTransition e (!l.a) l.b time) s =
        .next (settle { s with
          clock := max s.clock time, pins := s.pins.setEncoder ⟨!l.a, l.b⟩ e
          controls := s.controls.setDecoder ⟨⟨!l.a, l.b⟩, 0⟩ e })) ∧
      (n = 3 → l.a = l.b → s.controls.lock = false → s.ovl.menu = true → s.controls.tokens.length < 16 →
        exec (.encoderTransition e (!l.a) l.b time) s = .next (settle { s with
          clock := max s.clock time, pins := s.pins.setEncoder ⟨!l.a, l.b⟩ e
          controls := { s.controls.setDecoder ⟨⟨!l.a, l.b⟩, 0⟩ e with
            tokens := s.controls.tokens ++ [tokenWord (encoderCode e) .detentUp .menu] }
          port := if s.controls.tokens = [] then s.port.post .tokensReady else s.port })) ∧
      (n = 3 → l.a = l.b → s.controls.lock = false → s.ovl.menu = false → e = .audio1 → s.audio.power = .run →
        s.audio.link = false → s.audio.ch1.source = .panel → s.audio.ch1.settling = none →
        exec (.encoderTransition e (!l.a) l.b time) s = .next (settle { s with
          clock := max s.clock time, pins := s.pins.setEncoder ⟨!l.a, l.b⟩ e
          controls := s.controls.setDecoder ⟨⟨!l.a, l.b⟩, 0⟩ e
          audio.ch1 := { s.audio.ch1 with
            setGain := min 63 (s.audio.ch1.setGain + 1)
            applied := min 63 (s.audio.ch1.setGain + 1) - s.audio.ch1.reduction } })))

/-! ## The converter and its requesters -/

/-- R8, R26 to R29, R71, R72, R147 to R152, R155, R181: the four request timers. A requester asks in its power states; an IDLE
converter takes its group into service at once from its first enabled input, or delivers INVALID records at once where nothing of it
can be converted (R25), one that is not IDLE or owes a calibration keeps it pending, and a group still pending is replaced with a miss:
so for each of the four at every state of the converter (`Asked`), and in plain records for the rocker's and the supply's group. A missed sample counts up, fifty in a row in ACTIVE are the
FAULT of R69; a missed level event counts up and leaves the channels; a pair of level records that was delivered is taken, and works
the level, the meter, the over condition and the AGC or the limiter of both channels, a linked CH2 following CH1. What is the model's
choice or reading in it: log entries 1, 22, 23, 24, 28 and 30. -/
def Obligations.RequestersAskTheConverter : Prop :=
  ∀ s : State,
    (s.supply.power ≠ .run → exec .rockerRequestTimer s = .next (settle { s with
      clock := max s.clock s.controls.rockerDue, controls.rockerDue := s.controls.rockerDue + 5000 })) ∧
    (s.supply.power = .run → ∃ u, Asked .rocker { s with
        clock := max s.clock s.controls.rockerDue, controls.rockerDue := s.controls.rockerDue + 5000 } u ∧
      exec .rockerRequestTimer s = .next (settle u)) ∧
    (∃ u, Asked .supply { s with
        clock := max s.clock s.supply.requestDue
        supply.requestDue := s.supply.requestDue + if s.supply.power = .standby then 100000 else 10000 } u ∧
      exec .supplyRequestTimer s = .next (settle u)) ∧
    (s.supply.power = .run → s.conv.activity = .idle → s.conv.owed = false → s.conv.pending = ⟨false, false, false, false⟩ →
      s.conv.selfCheck = true → s.conv.enables.get 2 = true → exec .rockerRequestTimer s = .next (settle { s with
        clock := max s.clock s.controls.rockerDue
        controls.rockerDue := s.controls.rockerDue + 5000
        conv.activity := .converting ⟨.rocker, [], [(2, true)], max s.clock s.controls.rockerDue + 8⟩ })) ∧
    (s.supply.power = .run → s.conv.activity ≠ .idle → exec .rockerRequestTimer s = .next (settle { s with
      clock := max s.clock s.controls.rockerDue
      controls.rockerDue := s.controls.rockerDue + 5000
      controls.rocker.misses := if s.conv.pending.rocker then countUp 255 s.controls.rocker.misses
        else s.controls.rocker.misses
      conv.pending.rocker := true })) ∧
    (s.conv.activity = .idle → s.conv.owed = false → s.conv.pending = ⟨false, false, false, false⟩ → s.conv.selfCheck = true →
      s.conv.enables.get 5 = true → s.conv.enables.get 6 = true → exec .supplyRequestTimer s = .next (settle { s with
        clock := max s.clock s.supply.requestDue
        supply.requestDue := s.supply.requestDue + if s.supply.power = .standby then 100000 else 10000
        conv.activity := .converting ⟨.supply, [], [(5, true), (6, true)], max s.clock s.supply.requestDue + 8⟩ })) ∧
    (s.conv.activity = .idle → s.conv.owed = false → s.conv.selfCheck = true → s.conv.enables.get 5 = true →
      s.conv.enables.get 6 = false → exec .supplyRequestTimer s = .next (settle { s with
        clock := max s.clock s.supply.requestDue
        supply.requestDue := s.supply.requestDue + if s.supply.power = .standby then 100000 else 10000
        conv.activity := .converting ⟨.supply, [], [(5, true), (6, false)], max s.clock s.supply.requestDue + 8⟩ })) ∧
    (s.conv.activity = .idle → s.conv.owed = false → s.conv.selfCheck = true → s.conv.enables.get 5 = false →
      s.conv.enables.get 6 = true → exec .supplyRequestTimer s = .next (settle { s with
        clock := max s.clock s.supply.requestDue
        supply.requestDue := s.supply.requestDue + if s.supply.power = .standby then 100000 else 10000
        conv.activity := .converting ⟨.supply, [⟨5, 0, .invalid⟩], [(6, true)], max s.clock s.supply.requestDue + 8⟩ })) ∧
    (s.conv.activity ≠ .idle → exec .supplyRequestTimer s = .next (settle { s with
      clock := max s.clock s.supply.requestDue
      supply.requestDue := s.supply.requestDue + if s.supply.power = .standby then 100000 else 10000
      supply.missed := if s.conv.pending.supply then countUp 255 s.supply.missed else s.supply.missed
      conv.pending.supply := true })) ∧
    (s.supply.power ≠ .run → exec .sampleEvent s = .next (settle { s with
      clock := max s.clock s.stab.sampleDue, stab.sampleDue := s.stab.sampleDue + 1000 })) ∧
    (∀ b : State, s.supply.power = .run → s.stab.mailbox = none →
      b = { s with clock := max s.clock s.stab.sampleDue, stab.sampleDue := s.stab.sampleDue + 1000 } →
      ((∀ sub, s.stab.state ≠ .active sub) → ∃ u, Asked .gyro b u ∧ exec .sampleEvent s = .next (settle u)) ∧
      (∀ sub, s.stab.state = .active sub → s.stab.missedRun < 49 → ∃ u, Asked .gyro { b with
          stab.missedRun := s.stab.missedRun + 1, stab.missed := countUp 255 s.stab.missed } u ∧
        exec .sampleEvent s = .next (settle u)) ∧
      (∀ sub, s.stab.state = .active sub → 49 ≤ s.stab.missedRun → ∃ u, Asked .gyro { b with
          stab := { leftActive b.stab (.fault .noSamples) with missed := countUp 255 s.stab.missed }
          ovl.warnings.stabFault := .placed
          port := s.port.post (.stabState (.fault .noSamples) none) } u ∧
        exec .sampleEvent s = .next (settle u))) ∧
    (s.audio.power = .standby → exec .levelEvent s = .next (settle { s with
      clock := max s.clock s.audio.levelDue, audio.levelDue := s.audio.levelDue + 1000 })) ∧
    (s.audio.power ≠ .standby → s.audio.mailbox = none → ∃ u, Asked .level { s with
        clock := max s.clock s.audio.levelDue
        audio.levelDue := s.audio.levelDue + 1000
        audio.missed := countUp 255 s.audio.missed } u ∧
      exec .levelEvent s = .next (settle u)) ∧
    (∀ a b : ResultRec, s.audio.power ≠ .standby → s.audio.mailbox = some (a, b) → ∃ v u m,
      Asked .level u v ∧ exec .levelEvent s = .next (settle v) ∧
      u = { s with
        clock := max s.clock s.audio.levelDue
        audio := { s.audio with
          ch1 := u.audio.ch1, ch2 := u.audio.ch2, mailbox := none, levelDue := s.audio.levelDue + 1000 }
        log := { over1 := if u.audio.ch1.isOver = s.audio.ch1.isOver then s.log.over1 else u.audio.ch1.isOver
                 over2 := if u.audio.ch2.isOver = s.audio.ch2.isOver then s.log.over2 else u.audio.ch2.isOver
                 records := s.log.records.map fun r => r.withOver (u.audio.ch1.isOver && !s.audio.ch1.isOver)
                   (u.audio.ch2.isOver && !s.audio.ch2.isOver) }
        ovl.warnings.audioOver := if u.audio.ch1.isOver = true ∨ u.audio.ch2.isOver = true then
            .timed (max s.clock s.audio.levelDue + 1000000) else s.ovl.warnings.audioOver } ∧
      ChannelWorked s.audio.ch1 u.audio.ch1 a false ∧ ChannelWorked s.audio.ch2 m b s.audio.link ∧
      u.audio.ch2 = if s.audio.link then
          { m with
            source := u.audio.ch1.source, setGain := u.audio.ch1.setGain, reduction := u.audio.ch1.reduction
            applied := if m.settling.isSome then 0 else u.audio.ch1.setGain - u.audio.ch1.reduction }
        else m) ∧
    (s.supply.power = .run → s.conv.activity = .idle → s.conv.owed = false → s.conv.pending = ⟨false, false, false, false⟩ →
      s.conv.selfCheck = false ∨ s.conv.enables.get 2 = false → ∃ u, exec .rockerRequestTimer s = .next (settle u) ∧
        u = { s with
          clock := max s.clock s.controls.rockerDue
          controls := { s.controls with rockerDue := s.controls.rockerDue + 5000, rocker := u.controls.rocker }
          lens := { s.lens with
            demand := if u.controls.rocker.demand = s.controls.rocker.demand then s.lens.demand else u.controls.rocker.demand
            blocked := if u.controls.rocker.demand = s.controls.rocker.demand then s.lens.blocked
              else s.lens.blocked && decide (u.controls.rocker.demand ≠ 0) }
          conv.last := s.conv.last.set 2 ⟨2, 0, .invalid⟩ } ∧
        RockerTook s.controls.rocker u.controls.rocker ⟨2, 0, .invalid⟩) ∧
    (s.conv.activity = .idle → s.conv.owed = false → s.conv.pending = ⟨false, false, false, false⟩ →
      s.conv.selfCheck = false ∨ (s.conv.enables.get 5 = false ∧ s.conv.enables.get 6 = false) →
      exec .supplyRequestTimer s = .next (settle { s with
        clock := max s.clock s.supply.requestDue
        supply.requestDue := s.supply.requestDue + if s.supply.power = .standby then 100000 else 10000
        conv.last := (s.conv.last.set 5 ⟨5, 0, .invalid⟩).set 6 ⟨6, 0, .invalid⟩ }))

/-- R67 to R79: a sample event in RUN takes a pair that was delivered. In ACTIVE with a pair of good records: the rate, the accumulator
with the leak of the sub-state, the gain interpolated by zoom as R76 computes it, the shift target within ±2000 and the coil duty, on
both axes; after them the saturation runs, the entry into PAN and the exit from it, and the learning of the offsets with its run and
remainder. A pair with a RAIL record counts in the rail run, whose eighth in a row is the FAULT of R69, and one with an INVALID record
clears the gyro-valid flag and takes an ACTIVE stabiliser to STANDBY. Out of ACTIVE a pair sets the flag, which can begin ACTIVE. The
GYRO group is asked for again, at an IDLE converter (R26, R29) as at a busy one (R27). The clock at the event and the timer reloaded from its due time are the model's choice (log entry 1).
What is the model's choice or reading in it: log entries 1, 22, 23 and 24. -/
def Obligations.SamplesDriveTheCoils : Prop :=
  (∀ (s : State) (y p : ResultRec) (b : State), s.supply.power = .run → s.stab.mailbox = some (y, p) →
    b = { s with
      clock := max s.clock s.stab.sampleDue
      stab := { s.stab with
        sampleDue := s.stab.sampleDue + 1000, mailbox := none
        yaw := { s.stab.yaw with value := y.value, status := y.status }
        pitch := { s.stab.pitch with value := p.value, status := p.status } } } →
    ∃ u v, Asked .gyro u v ∧ exec .sampleEvent s = .next (settle v) ∧
      (y.status = .invalid ∨ p.status = .invalid → StabFollows s.stab.setting { s.stab.cond with gyroValid := false } b u) ∧
      (y.status ≠ .invalid → p.status ≠ .invalid → (∀ sub, s.stab.state ≠ .active sub) →
        StabFollows s.stab.setting { s.stab.cond with gyroValid := true } b u) ∧
      (∀ sub, y.status ≠ .invalid → p.status ≠ .invalid → s.stab.state = .active sub → s.stab.setting = true →
        { s.stab.cond with gyroValid := true : Conditions }.allHold → ∃ (rail : Nat) (c : State),
        rail = (if y.status = .rail ∨ p.status = .rail then s.stab.railRun + 1 else 0) ∧
        c = { b with stab := { b.stab with
          cond := { s.stab.cond with gyroValid := true }, missedRun := 0, railRun := rail } } ∧
        (8 ≤ rail → u = { c with
          stab := leftActive c.stab (.fault .gyroRail)
          ovl.warnings.stabFault := .placed
          port := s.port.post (.stabState (.fault .gyroRail) none) }) ∧
        (rail < 8 → ∃ (gain : Int) (y' p' : GyroAxis), GainOf s.stab.gains s.lens.zoom.position s.lens.zoom.span gain ∧
          AxisComputed sub gain y s.stab.yaw y' ∧ AxisComputed sub gain p s.stab.pitch p' ∧
          PanTestedAndLearned sub (16 * y.value - s.stab.yaw.z) (16 * p.value - s.stab.pitch.z) y' p' c u))) ∧
  ∀ (s : State) (y p : ResultRec) (sub : SubState), s.supply.power = .run → s.stab.mailbox = some (y, p) →
    s.stab.state = .active sub → y.status = .ok → p.status = .ok → s.stab.setting = true → s.stab.cond.run = true →
    s.stab.cond.zoomHomed = true → s.stab.cond.gyroEnabled = true →
    ∃ u v, Asked .gyro u v ∧ exec .sampleEvent s = .next (settle v) ∧ u.lens = s.lens ∧ u.conv = s.conv ∧
      u.stab.mailbox = none ∧ u.stab.missedRun = 0 ∧ u.stab.railRun = 0 ∧ u.stab.cond = { s.stab.cond with gyroValid := true } ∧ u.stab.gains = s.stab.gains ∧
      (∃ sub', u.stab.state = .active sub' ∧
        (u.port = if sub' = sub then s.port else s.port.post (.stabState (.active sub') none))) ∧
      ∀ (x : GyroAxis) (x' : GyroAxis) (r : ResultRec),
        (x = s.stab.yaw ∧ x' = u.stab.yaw ∧ r = y) ∨ (x = s.stab.pitch ∧ x' = u.stab.pitch ∧ r = p) →
        x'.value = r.value ∧ x'.status = .ok ∧
        x'.acc = clampInt (-8388608) 8388608
          (x.acc + (16 * (r.value : Int) - x.z) - x.acc.tdiv (if sub = .normal then 1024 else 64)) ∧
        x'.traw = -((x'.acc * gainAt s.stab.gains s.lens.zoom.position s.lens.zoom.span).tdiv 1048576) ∧
        x'.target = clampInt (-2000) 2000 x'.traw ∧ x'.duty = 512 + x'.target.tdiv 4

/-- R24, R28 to R33, R35, R185, R187: conversions follow one another within a group, and the last delivers it: a GYRO pair to the
stabiliser; a LEVEL pair to the audio level unit; a ROCKER result to the scanner, whose run counts, state and demand follow R8 and R9;
a SUPPLY sample to the supply monitor, whose readings, thresholds and supply state follow R181, R183 and R184, with all that a change
of the supply state does, whatever waits at the converter. A calibration's end sets the offset and the self-check and reports to its
parties: ADC_DONE to the host, READY and RUN after the INIT calibration, WAKE and RUN after the exit calibration, with all that the
entry to RUN does in the scanner (R4 to R6), the lens drive (R39, R47), the stabiliser (R67), the reference (R93) and the overlay
(R178). The outcome for an exit that a shutdown abandoned is discarded: no WAKE is posted and the power state stands (R187). The
converter is free after either: an owed calibration begins, else the pending group of the highest priority is served. That
SUPPLY_STATE is posted before the REC_END or REC_FAILED of the same step is log entry 12. What is the model's choice or reading in it:
log entries 1, 12, 13, 17, 20, 21, 22, 23 and 24. -/
def Obligations.ConversionsAndCalibrationsEnd : Prop :=
  ∀ (s : State) (raw : RawCode),
    ((∀ v, s.conv.activity ≠ .converting v) → exec (.conversionEnd raw) s = .next (settle s)) ∧
    (∀ (g : Group) (made : List ResultRec) (i j : Fin 7) (rest : List (Fin 7 × Bool)) (on : Bool) (t : Nat),
      s.conv.activity = .converting ⟨g, made, (i, on) :: (j, true) :: rest, t⟩ →
      exec (.conversionEnd raw) s = .next (settle { s with
        clock := max s.clock t
        conv.activity := .converting ⟨g, made ++ [⟨i, (clampInt 0 4095 ((raw.toNat : Int) - s.conv.offset)).toNat,
          if raw = 0 ∨ raw = 4095 then .rail else .ok⟩], (j, true) :: rest, max s.clock t + 8⟩ })) ∧
    (∀ (a : ResultRec) (on : Bool) (t : Nat), s.conv.activity = .converting ⟨.gyro, [a], [(1, on)], t⟩ → a.input = 0 →
      s.conv.owed = false → s.conv.pending = ⟨false, false, false, false⟩ → ∃ r : ResultRec,
      r = ⟨1, (clampInt 0 4095 ((raw.toNat : Int) - s.conv.offset)).toNat, if raw = 0 ∨ raw = 4095 then .rail else .ok⟩ ∧
      exec (.conversionEnd raw) s = .next (settle { s with
        clock := max s.clock t
        stab.mailbox := some (a, r)
        conv.activity := .idle
        conv.last := (s.conv.last.set 0 a).set 1 r })) ∧
    (∀ (on : Bool) (t : Nat) (r : ResultRec), s.conv.activity = .converting ⟨.rocker, [], [(2, on)], t⟩ →
      s.conv.owed = false → s.conv.pending = ⟨false, false, false, false⟩ →
      r = ⟨2, (clampInt 0 4095 ((raw.toNat : Int) - s.conv.offset)).toNat, if raw = 0 ∨ raw = 4095 then .rail else .ok⟩ → ∃ u,
      exec (.conversionEnd raw) s = .next (settle u) ∧
      u = { s with
        clock := max s.clock t
        controls.rocker := u.controls.rocker
        lens := { s.lens with
          demand := if u.controls.rocker.demand = s.controls.rocker.demand then s.lens.demand else u.controls.rocker.demand
          blocked := if u.controls.rocker.demand = s.controls.rocker.demand then s.lens.blocked
            else s.lens.blocked && decide (u.controls.rocker.demand ≠ 0) }
        conv.activity := .idle
        conv.last := s.conv.last.set 2 r } ∧
      (s.supply.power ≠ .run → ∃ m : Rocker, RockerTook s.controls.rocker m r ∧ u.controls.rocker = { m with demand := 0 }) ∧
      (s.supply.power = .run → RockerTook s.controls.rocker u.controls.rocker r)) ∧
    (∀ (a r : ResultRec) (on : Bool) (t : Nat), s.conv.activity = .converting ⟨.supply, [a], [(6, on)], t⟩ → a.input = 5 →
      s.conv.owed = false → s.conv.pending = ⟨false, false, false, false⟩ →
      r = ⟨6, (clampInt 0 4095 ((raw.toNat : Int) - s.conv.offset)).toNat, if raw = 0 ∨ raw = 4095 then .rail else .ok⟩ → ∃ v : State,
      v = { s with clock := max s.clock t, conv.activity := .idle, conv.last := (s.conv.last.set 5 a).set 6 r } ∧
      (a.status = .invalid → exec (.conversionEnd raw) s = .next (settle v)) ∧
      (a.status ≠ .invalid → ∃ (p : Supply) (new : SupplyState), Sampled s.supply p a.value r.value ∧ Deepest p new ∧
        (new = s.supply.state → exec (.conversionEnd raw) s = .next (settle { v with supply := p })) ∧
        (new ≠ s.supply.state → ∃ u, exec (.conversionEnd raw) s = .next (settle u) ∧
          u.clock = v.clock ∧ u.conv = v.conv ∧ u.lens.halving = decide (new = .low ∨ new = .cutoff) ∧
          u.ovl.warnings.supplyWarn = (if new = .warn then .placed else .absent) ∧
          u.ovl.warnings.supplyLow = (if new = .low then .placed else .absent) ∧
          u.ovl.warnings.supplyCutoff = (if new = .cutoff then .placed else .absent) ∧
          ((new = .normal ∨ new = .warn ∨ s.recorder.state = .standby ∨ s.recorder.state = .stopping) →
            (new = .cutoff → s.supply.power = .init ∨ s.supply.power = .shutdown) →
            u = { v with
              supply := { p with state := new }
              recorder.supplyState := new
              lens.halving := decide (new = .low ∨ new = .cutoff)
              ovl.warnings := { s.ovl.warnings with
                supplyWarn := if new = .warn then .placed else .absent
                supplyLow := if new = .low then .placed else .absent
                supplyCutoff := if new = .cutoff then .placed else .absent }
              controls.beeper := if s.supply.state = .normal ∧ new = .warn ∧ s.controls.beepEnable = true ∧
                  s.controls.beeper = none then some ⟨.long, v.clock + 400000⟩ else s.controls.beeper
              port := s.port.post (.supplyState new p.effective p.dcPresent) }) ∧
          (∀ n, new = .low → s.recorder.state = .recording → s.recorder.clip = some n →
            u.supply = { p with state := .low, recState := .stopping } ∧ u.recorder.state = .stopping ∧
            u.recorder.endLabel = some s.tc.stamp ∧
            u.port = (s.port.post (.supplyState .low p.effective p.dcPresent)).post (.recEnd n .supply s.tc.stamp)) ∧
          (∀ n, new = .low → s.recorder.state = .starting → s.recorder.clip = some n →
            u.supply = { p with state := .low, recState := .standby } ∧ u.recorder.state = .standby ∧
            u.port = (s.port.post (.supplyState .low p.effective p.dcPresent)).post (.recFailed n .supply)) ∧
          (new = .cutoff → s.supply.power = .run ∨ s.supply.power = .standby → s.recorder.state = s.supply.recState →
            u.supply = { p with
              state := .cutoff, power := .shutdown, exit := none, shutdown := some ⟨.supply, .waiting⟩
              recState := u.recorder.state } ∧
            u.recorder.state = (match s.recorder.state with
              | .starting => .standby
              | .recording => .stopping
              | st => st) ∧
            ∃ q : Port, u.port = q.post (.powerDown .supply))))) ∧
    (∀ (g : Group) (made all : List ResultRec) (i : Fin 7) (on : Bool) (rest : List (Fin 7 × Bool)) (t : Nat) (b : State),
      s.conv.activity = .converting ⟨g, made, (i, on) :: rest, t⟩ → (∀ x ∈ rest, x.2 = false) →
      all = made ++ ⟨i, (clampInt 0 4095 ((raw.toNat : Int) - s.conv.offset)).toNat, if raw = 0 ∨ raw = 4095 then .rail else .ok⟩ ::
        rest.map (fun x => ⟨x.1, 0, .invalid⟩) →
      b = { s with clock := max s.clock t } →
      (g ≠ .supply ∨ (∃ r ∈ all, r.status = .invalid) → ∃ w u : State,
        Delivered g all b w ∧ Freed w u ∧ exec (.conversionEnd raw) s = .next (settle u)) ∧
      (∀ a r, g = .supply → all = [a, r] → a.status ≠ .invalid → r.status ≠ .invalid → ∃ (p : Supply) (new : SupplyState),
        Sampled s.supply p a.value r.value ∧ Deepest p new ∧
        (new = s.supply.state → ∃ u : State,
          Freed { b with supply := p, conv.last := (s.conv.last.set a.input a).set r.input r } u ∧
          exec (.conversionEnd raw) s = .next (settle u)) ∧
        (new ≠ s.supply.state → ∃ w u : State,
          SupplyStateTaken p new { b with conv.last := (s.conv.last.set a.input a).set r.input r } w ∧ Freed w u ∧
          exec (.conversionEnd raw) s = .next (settle u)))) ∧
    (∀ (t : Nat) (offset : Int) (passed : Bool) (c : Converter), s.conv.activity = .calibrating t →
      offset = clampInt (-32) 31 ((raw.toNat : Int) - 2048) → passed = decide (-16 ≤ offset ∧ offset ≤ 16) →
      c = { s.conv with parties := ⟨false, false, false⟩, offset := offset, selfCheck := passed } →
      (s.conv.parties = ⟨false, false, true⟩ → ∃ u : State,
        Freed { s with clock := max s.clock t, conv := c, port := s.port.post (.adcDone passed offset raw.toNat) } u ∧
        exec (.calibrationEnd raw) s = .next (settle u)) ∧
      (∀ b : State, b = { s with
          clock := max s.clock t, conv := c
          port := if s.conv.parties.host then s.port.post (.adcDone passed offset raw.toNat) else s.port } →
        (s.conv.parties.reset = true → s.conv.parties.exit = false → s.supply.power = .init → ∃ w u : State,
          RunEntered { b with port := b.port.post (.ready s.supply.resetKind passed) } w ∧ Freed w u ∧
          exec (.calibrationEnd raw) s = .next (settle u)) ∧
        (∀ src, s.conv.parties.reset = false → s.conv.parties.exit = true → s.supply.exit = some src → ∃ w u : State,
          RunEntered { b with port := b.port.post (.wake src passed) } w ∧ Freed { w with supply.exit := none } u ∧
          exec (.calibrationEnd raw) s = .next (settle u)) ∧
        (s.conv.parties.reset = false → s.conv.parties.exit = true → s.supply.exit = none → ∃ u : State,
          Freed b u ∧ u.supply = s.supply ∧ exec (.calibrationEnd raw) s = .next (settle u)))) ∧
    ((∀ t, s.conv.activity ≠ .calibrating t) → exec (.calibrationEnd raw) s = .next (settle s)) ∧
    (∀ t, s.conv.activity = .calibrating t → s.conv.parties = ⟨false, false, true⟩ → s.conv.owed = false →
      s.conv.pending = ⟨false, false, false, false⟩ →
      exec (.calibrationEnd raw) s = .next (settle { s with
        clock := max s.clock t
        conv := { s.conv with
          activity := .idle, parties := ⟨false, false, false⟩, offset := clampInt (-32) 31 ((raw.toNat : Int) - 2048)
          selfCheck := decide (-16 ≤ (raw.toNat : Int) - 2048 ∧ (raw.toNat : Int) - 2048 ≤ 16) }
        port := s.port.post (.adcDone (decide (-16 ≤ (raw.toNat : Int) - 2048 ∧ (raw.toNat : Int) - 2048 ≤ 16))
          (clampInt (-32) 31 ((raw.toNat : Int) - 2048)) raw.toNat) })) ∧
    (∀ t, s.conv.activity = .calibrating t → s.conv.parties = ⟨true, false, false⟩ → s.supply.power = .init → ∃ u,
      exec (.calibrationEnd raw) s = .next u ∧ u.supply.power = .run ∧ (u.axis .zoom).homing = .homing .seekNear ∧
      (u.axis .focus).homing = .homing .seekNear ∧ (u.axis .zoom).owner = .homing ∧ (u.axis .focus).owner = .homing ∧
      u.lens.floating = false ∧ u.conv.offset = clampInt (-32) 31 ((raw.toNat : Int) - 2048) ∧ u.conv.parties = ⟨false, false, false⟩) ∧
    (∀ t src, s.conv.activity = .calibrating t → s.conv.parties = ⟨false, true, false⟩ → s.supply.power = .standby →
      s.supply.exit = some src → ∃ u,
      exec (.calibrationEnd raw) s = .next u ∧ u.supply.power = .run ∧ u.supply.exit = none ∧
      (∀ ax, (u.axis ax).homing = (s.axis ax).homing ∧ (u.axis ax).owner = (s.axis ax).owner ∧ (u.axis ax).duty = 0) ∧
      u.lens.floating = false)

/-! ## Lens drive events -/

/-- R39, R41 to R46, R49, R52, R53, R57, R67: CONTROL_EVENT and DIRECTION_GAP_END. A floating bridge does nothing. A goto within two
counts of its target arrives: the hold of a PRESET or REMOTE goto ends with ARRIVED, that of the focus ring without a notice, and the
PARK goto completes the homing run. The rocker claims the zoom where it may. The target speed of the owner, whatever it is, is limited
by VMAX, by VMAX/4 on an axis that is not HOMED, by the halving and by the distance left, and v_cmd moves toward it with the ramp, the
gap and the duty of the rules; a centred rocker's hold ends at v_cmd 0. A suspect stall pauses the axis, on the zoom and on the focus,
and a second within 500 ms is a fault. That HOME_DONE is posted before STAB_STATE at the arrival of the zoom's PARK goto is the model's
choice (log entry 12). What is the model's choice or reading in it: log entries 1, 12, 18, 19 and 24. -/
def Obligations.ControlEventsDriveTheAxis : Prop :=
  ∀ (ax : Axis) (s : State) (a : AxisRec), s.axis ax = a →
    (a.gap ≠ 1 → exec (.directionGapEnd ax) s = .next (settle s)) ∧
    (a.gap = 1 → exec (.directionGapEnd ax) s = exec (.controlEvent ax) s) ∧
    (s.lens.floating = true → exec (.controlEvent ax) s = .next (settle { s with
      clock := max s.clock a.controlDue, lens := s.lens.setAxis { a with controlDue := a.controlDue + 1000 } ax })) ∧
    (∀ v : State, s.lens.floating = false →
      v = { s with
        clock := max s.clock a.controlDue, lens := s.lens.setAxis { a with controlDue := a.controlDue + 1000 } ax } →
      ((∀ t, a.target = some t → 2 < (a.position - t).natAbs) → ∃ (w u : State) (goal : Int),
        RockerClaims ax v w ∧ TargetSpeed w.lens ax goal ∧ SpeedTaken ax goal w u ∧
        exec (.controlEvent ax) s = .next (settle u)) ∧
      (∀ t, a.target = some t → (a.position - t).natAbs ≤ 2 → a.owner ≠ .homing → ∃ x w u : State,
        GotoArrives ax v x ∧ RockerClaims ax x w ∧ SpeedTaken ax 0 w u ∧ exec (.controlEvent ax) s = .next (settle u)) ∧
      (∀ t, a.target = some t → (a.position - t).natAbs ≤ 2 → a.owner = .homing → ∃ x u : State,
        HomingCompletes ax v x ∧ SpeedTaken ax 0 x u ∧ exec (.controlEvent ax) s = .next (settle u))) ∧
    (∀ n, s.lens.floating = false → a.gap = n + 1 → a.target = none → a.pause = none → a.dutyRun = none →
      s.lens.demand = 0 → a.owner = .none →
      exec (.controlEvent ax) s = .next (settle { s with
        clock := max s.clock a.controlDue
        lens := s.lens.setAxis { a with
          controlDue := a.controlDue + 1000, gap := n, vcmd := 0, duty := 0, forward := false } ax })) ∧
    (∀ (t : Int) (v : Nat) (goal limited vcmd : Int) (gap m : Nat), s.lens.floating = false →
      a.owner = .remote ∨ a.owner = .preset → a.move = some .goto → a.target = some t → a.gotoSpeed = some v →
      a.homing = .homed → 2 < (a.position - t).natAbs → a.gap = 0 → a.pause = none → a.dutyRun = none → s.lens.demand = 0 →
      goal = (if a.position < t then (v : Int) else -v) →
      m = (if s.lens.halving then s.lens.vmax ax / 2 else s.lens.vmax ax) →
      limited = clampInt (-(min m (40 * (t - a.position).natAbs) : Nat)) (min m (40 * (t - a.position).natAbs) : Nat) goal →
      vcmd = (if (0 < a.vcmd ∧ limited < 0) ∨ (a.vcmd < 0 ∧ 0 < limited) then 0
        else if limited.natAbs ≤ a.vcmd.natAbs then limited else clampInt (a.vcmd - 400) (a.vcmd + 400) limited) →
      gap = (if (0 < a.vcmd ∧ limited < 0) ∨ (a.vcmd < 0 ∧ 0 < limited) then s.lens.gap ax - 1 else 0) →
      exec (.controlEvent ax) s = .next (settle { s with
        clock := max s.clock a.controlDue
        lens := s.lens.setAxis { a with
          controlDue := a.controlDue + 1000, vcmd := vcmd, gap := gap
          duty := if vcmd = 0 then 0 else 96 + vcmd.natAbs * 927 / s.lens.vmax ax
          forward := decide (0 < vcmd)
          dutyRun := if (if vcmd = 0 then 0 else 96 + vcmd.natAbs * 927 / s.lens.vmax ax) < 300 then none
            else if max (max s.clock a.controlDue) (a.lastEdge.getD 0) + 50000 ≤ max s.clock a.controlDue then none
            else some (max s.clock a.controlDue) } ax })) ∧
    (∀ t : Int, s.lens.floating = false → a.owner = .remote → a.target = some t → (a.position - t).natAbs ≤ 2 → a.gap = 0 →
      a.dutyRun = none → s.lens.demand = 0 →
      exec (.controlEvent ax) s = .next (settle { s with
        clock := max s.clock a.controlDue
        lens := (s.lens.setAxis { a with
          controlDue := a.controlDue + 1000, owner := .none, move := none, target := none, gotoSpeed := none, driveSpeed := 0
          pause := none, vcmd := 0, duty := 0, forward := false } ax).stopDrive ax
        port := s.port.post (.motionDone ax .arrived .remote a.position) })) ∧
    (∀ (t : Int) (t₀ : Nat), s.lens.floating = false → a.owner = .remote → a.move = some .goto → a.target = some t →
      a.gotoSpeed = some 2000 → a.position + 1000 ≤ t → a.homing = .homed → a.gap = 0 → a.pause = none → s.lens.demand = 0 →
      s.lens.halving = false → a.vcmd = 2000 → a.dutyRun = some t₀ → 2000 ≤ s.lens.vmax ax → s.lens.vmax ax ≤ 8000 →
      max t₀ (a.lastEdge.getD 0) + 50000 ≤ max s.clock a.controlDue →
      (a.suspect = none → exec (.controlEvent ax) s = .next (settle { s with
        clock := max s.clock a.controlDue
        lens := s.lens.setAxis { a with
          controlDue := a.controlDue + 1000, vcmd := 0, duty := 0, forward := true, dutyRun := none
          suspect := some (max s.clock a.controlDue), pause := some (max s.clock a.controlDue + 20000) } ax })) ∧
      (∀ t₁, a.suspect = some t₁ → max s.clock a.controlDue < t₁ + 500000 →
        exec (.controlEvent ax) s = .next (settle { s with
          clock := max s.clock a.controlDue
          lens := (s.lens.setAxis { a with
            controlDue := a.controlDue + 1000, owner := .none, move := none, target := none, gotoSpeed := none, driveSpeed := 0
            vcmd := 0, duty := 0, forward := true, fault := true, dutyRun := none, suspect := none } ax).stopDrive ax
          ovl.warnings.lensFault := .placed
          port := s.port.post (.motionDone ax .stalled .remote a.position) })))

/-- R38, R40, R48 to R50, R55: an encoder edge counts the position by one and measures the speed over the edges captured; SEEK_END,
HOMING_TIMEOUT and DRIVE_TIMER_EXPIRY end what they end; the zoom's run abandoned hands its homing status to the stabiliser (R67). A
position beyond 32 bits is open (log entry 4), as is the speed over a period of 0 µs (log entry 5). That SEEK_END discards a capture in progress, and that a drive that elapses ends a stall pause, is the
model's reading (log entry 19); that HOME_DONE is posted before STAB_STATE its choice (log entry 12). What is the model's choice or
reading in it: log entries 1, 4, 5, 12, 17, 19 and 24. -/
def Obligations.EdgesAndHomingEventsAreTaken : Prop :=
  ∀ (ax : Axis) (s : State) (a : AxisRec), s.axis ax = a →
    (∀ (line : EncoderLine) (time now : Nat) (l : Levels) (up : Bool) (position : Int), s.pins.motor ax = l →
      now = max s.clock time →
      up = (match line with | .a => decide (l.a = l.b) | .b => decide (l.a ≠ l.b)) →
      position = (if up then a.position + 1 else a.position - 1) → -2147483648 ≤ position → position ≤ 2147483647 →
      ∃ u, exec (.motorEncoderEdge ax line time) s = .next (settle u) ∧
        u = { s with
          clock := now
          pins := s.pins.setMotor (match line with | .a => ⟨!l.a, l.b⟩ | .b => ⟨l.a, !l.b⟩) ax
          lens := s.lens.setAxis { a with
            position := position, lastEdge := some now, measured := (u.axis ax).measured, capture := (u.axis ax).capture } ax } ∧
        (a.capture = none ∨ (∃ c, a.capture = some c ∧ c.positive ≠ up) → (u.axis ax).measured = a.measured ∧
          (u.axis ax).capture = some
            ⟨if a.measured.natAbs < 500 then 1 else if a.measured.natAbs < 4000 then 4 else 16, 0, now, up⟩) ∧
        (∀ c, a.capture = some c → c.positive = up → c.count + 1 < c.n → (u.axis ax).measured = a.measured ∧
          (u.axis ax).capture = some { c with count := c.count + 1 }) ∧
        (∀ c, a.capture = some c → c.positive = up → c.n ≤ c.count + 1 → c.start < now →
          (u.axis ax).measured =
            (if up then ((c.n * 1000000 / (now - c.start) : Nat) : Int) else -((c.n * 1000000 / (now - c.start) : Nat) : Int)) ∧
          (u.axis ax).capture = some
            ⟨if c.n * 1000000 / (now - c.start) < 500 then 1 else if c.n * 1000000 / (now - c.start) < 4000 then 4 else 16,
              0, now, up⟩)) ∧
    ((∀ p, a.homing ≠ .homing p) ∨ a.homing = .homing .park → exec (.seekEnd ax) s = .next (settle s)) ∧
    (∀ now, now = max s.clock (max a.phaseStart (a.lastEdge.getD 0) + 50000) →
      (a.homing = .homing .seekNear → exec (.seekEnd ax) s = .next (settle { s with
        clock := now
        lens := s.lens.setAxis { a with
          measured := 0, capture := none, position := 0, homing := .homing .seekFar, phaseStart := now } ax })) ∧
      (a.homing = .homing .seekFar → spanAccepted ax a.position = true → exec (.seekEnd ax) s = .next (settle { s with
        clock := now
        lens := s.lens.setAxis { a with
          measured := 0, capture := none, span := a.position, homing := .homing .park, phaseStart := now
          target := some (match ax with | .zoom => 0 | .focus => a.position), gotoSpeed := some 2000 } ax })) ∧
      (a.homing = .homing .seekFar → spanAccepted ax a.position = false → ax = .focus →
        exec (.seekEnd ax) s = .next (settle { s with
          clock := now
          lens := s.lens.setAxis { a with
            measured := 0, capture := none, owner := .none, move := none, target := none, gotoSpeed := none, driveSpeed := 0
            pause := none, vcmd := 0, homing := .abandoned .span, homingTimer := none
            span := a.spanBefore.getD a.span, spanBefore := none } ax
          port := s.port.post (.homeDone ax (.abandoned .span)) })) ∧
      (a.homing = .homing .seekFar → spanAccepted ax a.position = false → ax = .zoom → ∃ u,
        StabFollows s.stab.setting { s.stab.cond with zoomHomed := false } { s with
          clock := now
          lens.zoom := { unheld a with
            measured := 0, capture := none, vcmd := 0, homing := .abandoned .span, homingTimer := none
            span := a.spanBefore.getD a.span, spanBefore := none }
          port := s.port.post (.homeDone .zoom (.abandoned .span)) } u ∧
        exec (.seekEnd .zoom) s = .next (settle u))) ∧
    (a.homingTimer = none → exec (.homingTimeout ax) s = .next (settle s)) ∧
    (∀ (t : Nat) (v : State), a.homingTimer = some t →
      v = { s with
        clock := max s.clock t
        lens := s.lens.setAxis { unheld a with
          vcmd := 0, homing := .abandoned .timeout, homingTimer := none
          span := a.spanBefore.getD a.span, spanBefore := none } ax
        port := s.port.post (.homeDone ax (.abandoned .timeout)) } →
      (ax = .focus → exec (.homingTimeout .focus) s = .next (settle v)) ∧
      (ax = .zoom → ∃ u, StabFollows s.stab.setting { s.stab.cond with zoomHomed := false } v u ∧
        exec (.homingTimeout .zoom) s = .next (settle u))) ∧
    (s.lens.driveTimer = none ∨ s.lens.zoom.move ≠ some .drive → exec .driveTimerExpiry s = .next (settle s)) ∧
    (∀ t, s.lens.driveTimer = some t → s.lens.zoom.move = some .drive → s.lens.zoom.owner = .remote →
      exec .driveTimerExpiry s = .next (settle { s with
        clock := max s.clock t
        lens.zoom := { s.lens.zoom with
          owner := .none, move := none, target := none, gotoSpeed := none, driveSpeed := 0, pause := none, vcmd := 0 }
        lens.driveTimer := none
        port := s.port.post (.motionDone .zoom .elapsed .remote s.lens.zoom.position) }))

/-! ## Frame events and the viewfinder -/

/-- R86 to R94, R177, R178: each source of a frame event moves the label on by the table of the second clause, with the
30DF correction and the day-roll flag of an OPEN record set where it passes midnight, and starts a batch of at most four dirty rows
where the four conditions of R177 hold; the first edge of a LOST reference restores it; the watch's expiry loses it and starts the
internal timer; row messages follow one another to the batch's end, and VF_PRESENT marks or drops rows. What is the model's choice
or reading in it: log entries 1, 17 and 25. -/
def Obligations.FramesAdvanceAndRowsAreSent : Prop :=
  (∀ (s : State) (period : Nat),
    period = (match s.tc.rate with | .r24 => 41667 | .r25 => 40000 | .r30 | .r30df => 33367) →
    (s.tc.present = true → ∃ u, FrameEvent { s with tc.watch := some (s.clock + 100000) } u ∧
      exec .fsyncEdge s = .next (settle u)) ∧
    (s.tc.present = false → ∃ u,
      FrameEvent { s with tc.present := true, tc.frameTimer := none, tc.watch := some (s.clock + 100000) } u ∧
      (s.supply.power = .standby → exec .fsyncEdge s = .next (settle u)) ∧
      (s.supply.power ≠ .standby → exec .fsyncEdge s = .next (settle { u with
        tc.reported := true
        ovl.warnings.fsyncLost := .absent
        port := s.port.post (.fsyncState true ⟨s.tc.advance.label, decide (s.tc.rate = .r30df)⟩) }))) ∧
    (s.tc.watch = none → exec .fsyncWatchExpiry s = .next (settle s)) ∧
    (∀ t, s.tc.watch = some t → s.supply.power ≠ .standby → exec .fsyncWatchExpiry s = .next (settle { s with
      clock := max s.clock t
      tc.present := false, tc.reported := false, tc.watch := none
      tc.frameTimer := some (max s.clock t + period)
      ovl.warnings.fsyncLost := .placed
      port := s.port.post (.fsyncState false ⟨s.tc.label, decide (s.tc.rate = .r30df)⟩) })) ∧
    (∀ t, s.tc.watch = some t → s.supply.power = .standby → exec .fsyncWatchExpiry s = .next (settle { s with
      clock := max s.clock t
      tc.present := false, tc.watch := none
      tc.frameTimer := some (max s.clock t + period) })) ∧
    (s.tc.frameTimer = none → exec .internalFrameTimerExpiry s = .next (settle s)) ∧
    (∀ t, s.tc.frameTimer = some t → ∃ u,
      FrameEvent { s with clock := max s.clock t, tc.frameTimer := some (t + period) } u ∧
      exec .internalFrameTimerExpiry s = .next (settle u))) ∧
  (∀ t : Timecode, LabelInv { State.reset with tc := t } →
    (t.runMode = .recRun → t.recState ≠ .recording → t.advance = t) ∧
    (t.runMode = .freeRun ∨ t.recState = .recording →
      (t.label.frames + 1 < countedRate t.rate →
        t.advance = { t with label := { t.label with frames := t.label.frames + 1 } }) ∧
      (t.label.frames + 1 = countedRate t.rate → t.label.seconds < 59 →
        t.advance = { t with label := { t.label with seconds := t.label.seconds + 1, frames := 0 } }) ∧
      (t.label.frames + 1 = countedRate t.rate → t.label.seconds = 59 → t.label.minutes < 59 →
        t.advance = { t with label := { t.label with
          minutes := t.label.minutes + 1, seconds := 0
          frames := if t.rate = .r30df ∧ (t.label.minutes + 1) % 10 ≠ 0 then 2 else 0 } }) ∧
      (t.label.frames + 1 = countedRate t.rate → t.label.seconds = 59 → t.label.minutes = 59 → t.label.hours < 23 →
        t.advance = { t with label := ⟨t.label.hours + 1, 0, 0, 0⟩ }) ∧
      (t.label.frames + 1 = countedRate t.rate → t.label.seconds = 59 → t.label.minutes = 59 → t.label.hours = 23 →
        t.advance = { t with label := ⟨0, 0, 0, 0⟩, dayRoll := true }))) ∧
  (∀ s : State,
    (s.ovl.batch = none → exec .rowMessageEnd s = .next (settle s)) ∧
    (∀ m, s.ovl.batch = some ⟨m, []⟩ → exec .rowMessageEnd s = .next (settle { s with ovl.batch := none })) ∧
    (∀ m r rest, s.ovl.batch = some ⟨m, r :: rest⟩ → exec .rowMessageEnd s = .next (settle { s with
      ovl.batch := some ⟨rowMessage s.ovl.displayed r (s.ovl.displayedRow s.ovl.displayed r)
        (s.ovl.pages.get s.ovl.displayed).cursor, rest⟩
      ovl.pages := s.ovl.pages.set s.ovl.displayed { s.ovl.pages.get s.ovl.displayed with
        dirty := (s.ovl.pages.get s.ovl.displayed).dirty.set r false } })) ∧
    (exec (.vfPresentChange s.ovl.vfPresent) s = .next (settle { s with pins.vfPresent := s.ovl.vfPresent })) ∧
    (s.ovl.vfPresent = false → ∃ o, exec (.vfPresentChange true) s =
        .next (settle { s with pins.vfPresent := true, ovl := o }) ∧
      MarksRows { s.ovl with vfPresent := true } o s.ovl.displayed fun _ => true) ∧
    (s.ovl.vfPresent = true → exec (.vfPresentChange false) s = .next (settle { s with
      pins.vfPresent := false, ovl.vfPresent := false, ovl.batch := s.ovl.batch.map fun b => { b with waiting := [] } })))

/-! ## Card lines and the windows of a clip -/

/-- R102, R103, R105 to R107, R110, R116, R117, R121 to R125: a card line's level is accepted 50 ms after its last edge; an insertion
mounts, a removal empties the slot, a protected card is not usable and is again without the protection, each in every record state; a
removal and a protection re-form the start set in STARTING, and a removal ends the segment of an ACTIVE slot, which stops the recording
where no other slot is ACTIVE; the windows of the mount, the start and the close end in
ERROR, REC_FAILED and UNCONFIRMED; and each second of recording is charged to the ACTIVE slots, with the relay, the fullness and the
test of the time left. The two slot warnings follow each change of a slot. That CARD_REMOVED is posted before the REC_END or REC_FAILED
of the same step is the model's choice (log entry 12). What is the model's choice or reading in it: log entries 1, 6, 12, 17 and 26. -/
def Obligations.CardLinesAndClipWindowsAreTaken : Prop :=
  ∀ (sl : Slot) (s : State) (r o : SlotRec), s.recorder.slot sl = r → s.recorder.slot (otherSlot sl) = o →
    (∀ line level, s.pins.card sl line = level → exec (.cardLineEdge sl line level) s = .next (settle s)) ∧
    (∀ line level, s.pins.card sl line ≠ level →
      exec (.cardLineEdge sl line level) s = .next (settle { s with
        pins := s.pins.setCard level sl line
        recorder := s.recorder.setSlot
          (match line with
            | .detect => { r with detectTimer := if r.present = level then none else some (s.clock + 50000) }
            | .writeProtect => { r with protectTimer := if r.protect = level then none else some (s.clock + 50000) }) sl })) ∧
    (r.detectTimer = none → exec (.cardLineAccepted sl .detect) s = .next (settle s)) ∧
    (r.protectTimer = none → exec (.cardLineAccepted sl .writeProtect) s = .next (settle s)) ∧
    (s.recorder.state ≠ .recording → s.recorder.state ≠ .starting →
      (∀ t, r.detectTimer = some t → s.pins.detect sl = true → r.state = .empty → ∃ x w,
        x = s.recorder.setSlot { r with
          detectTimer := none, present := true, state := .mounting, remaining := 0, lapsed := false
          mountTimer := some (max s.clock t + 10000000) } sl ∧
        exec (.cardLineAccepted sl .detect) s = .next (settle { s with
          clock := max s.clock t, recorder := x, ovl.warnings := w, port := s.port.post (.cardInserted sl r.protect) }) ∧
        SlotWarned x s.ovl.warnings w) ∧
      (∀ t, r.detectTimer = some t → s.pins.detect sl = false → r.state ≠ .empty → ∃ x w,
        x = s.recorder.setSlot { r with
          detectTimer := none, present := false, state := .empty, remaining := 0, mountTimer := none, lapsed := true } sl ∧
        exec (.cardLineAccepted sl .detect) s = .next (settle { s with
          clock := max s.clock t, recorder := x, ovl.warnings := w, port := s.port.post (.cardRemoved sl)
          log := if r.state = .active then { s.log with records := s.log.records.map fun c => if c.state = .opened then
              { c with segments := c.segments.map fun g =>
                  if g.slot = sl ∧ g.outcome = .inProgress then { g with outcome := .removed } else g } else c }
            else s.log }) ∧
        SlotWarned x s.ovl.warnings w) ∧
      (∀ t, r.protectTimer = some t → s.pins.protect sl = true → r.state = .ready → ∃ x w,
        x = s.recorder.setSlot { r with protectTimer := none, protect := true, state := .writeProtected } sl ∧
        exec (.cardLineAccepted sl .writeProtect) s = .next (settle { s with
          clock := max s.clock t, recorder := x, ovl.warnings := w }) ∧
        SlotWarned x s.ovl.warnings w)) ∧
    (∀ t, r.detectTimer = some t → s.pins.detect sl = true →
      (r.state = .empty → ∃ u, SlotsTested { s with
          clock := max s.clock t
          recorder := s.recorder.setSlot { r with
            detectTimer := none, present := true, state := .mounting, remaining := 0, lapsed := false
            mountTimer := some (max s.clock t + 10000000) } sl
          port := s.port.post (.cardInserted sl r.protect) } u ∧
        exec (.cardLineAccepted sl .detect) s = .next (settle u)) ∧
      (r.state ≠ .empty → exec (.cardLineAccepted sl .detect) s = .next (settle { s with
        clock := max s.clock t, recorder := s.recorder.setSlot { r with detectTimer := none, present := true } sl }))) ∧
    (∀ t (b : State), r.detectTimer = some t → s.pins.detect sl = false →
      b = { s with
        clock := max s.clock t
        recorder := s.recorder.setSlot { r with
          detectTimer := none, present := false, state := .empty, remaining := 0, mountTimer := none, lapsed := true } sl
        port := s.port.post (.cardRemoved sl) } →
      (r.state = .active → ∃ v u, SlotLost sl .removed .cardRemoved b v ∧ SlotsTested v u ∧
        exec (.cardLineAccepted sl .detect) s = .next (settle u)) ∧
      (r.state ≠ .active → r.state ≠ .empty → ∃ v u, StartReformed .cardRemoved b v ∧ SlotsTested v u ∧
        exec (.cardLineAccepted sl .detect) s = .next (settle u)) ∧
      (r.state = .empty → exec (.cardLineAccepted sl .detect) s = .next (settle { s with
        clock := max s.clock t, recorder := s.recorder.setSlot { r with detectTimer := none, present := false } sl }))) ∧
    (∀ t on, r.protectTimer = some t → s.pins.protect sl = on →
      (r.state = .ready → on = true → ∃ v u,
        StartReformed .noMedia { s with
          clock := max s.clock t
          recorder := s.recorder.setSlot { r with protectTimer := none, protect := true, state := .writeProtected } sl } v ∧
        SlotsTested v u ∧ exec (.cardLineAccepted sl .writeProtect) s = .next (settle u)) ∧
      (r.state = .writeProtected → on = false → ∃ u,
        SlotsTested { s with
          clock := max s.clock t
          recorder := s.recorder.setSlot { r with protectTimer := none, protect := false, state := .ready } sl } u ∧
        exec (.cardLineAccepted sl .writeProtect) s = .next (settle u)) ∧
      ((r.state ≠ .ready ∨ on = false) → (r.state ≠ .writeProtected ∨ on = true) →
        exec (.cardLineAccepted sl .writeProtect) s = .next (settle { s with
          clock := max s.clock t, recorder := s.recorder.setSlot { r with protectTimer := none, protect := on } sl }))) ∧
    (∀ t, r.mountTimer = some t → ∃ u, SlotsTested { s with
        clock := max s.clock t
        recorder := s.recorder.setSlot { r with state := .error .mountTimeout, lapsed := true, mountTimer := none } sl } u ∧
      exec (.mountTimeout sl) s = .next (settle u)) ∧
    (∀ t n, s.recorder.state = .starting → s.recorder.clip = some n → r.detectTimer = some t → s.pins.detect sl = false →
      r.state ≠ .empty → r.state ≠ .active → ∃ x : Recorder,
      x = s.recorder.setSlot { r with
        detectTimer := none, present := false, state := .empty, remaining := 0, mountTimer := none, lapsed := true } sl ∧
      (s.recorder.startSet.has (otherSlot sl) = true → s.recorder.usable (otherSlot sl) = true → ∃ w,
        exec (.cardLineAccepted sl .detect) s = .next (settle { s with
          clock := max s.clock t, recorder := { x with startSet := SlotSet.only (otherSlot sl) }, ovl.warnings := w
          port := s.port.post (.cardRemoved sl) }) ∧
        SlotWarned x s.ovl.warnings w) ∧
      (s.recorder.startSet.has (otherSlot sl) = false → s.recorder.mode = .relay → s.recorder.current = sl →
        s.recorder.usable (otherSlot sl) = true → ∃ w,
        exec (.cardLineAccepted sl .detect) s = .next (settle { s with
          clock := max s.clock t
          recorder := { x with startSet := SlotSet.only (otherSlot sl), current := otherSlot sl }, ovl.warnings := w
          port := s.port.post (.cardRemoved sl) }) ∧
        SlotWarned x s.ovl.warnings w) ∧
      (s.recorder.startSet.has (otherSlot sl) = false → s.recorder.mode ≠ .relay ∨ s.recorder.usable (otherSlot sl) = false → ∃ w,
        exec (.cardLineAccepted sl .detect) s = .next (settle { s with
          clock := max s.clock t
          recorder := { x with
            state := .standby, confirmTimer := none, startSet := ⟨false, false⟩, clip := none, tally := .off, lampOn := false
            blinkTimer := none }
          tc.recState := .standby
          supply.recState := .standby
          ovl.warnings := w
          controls.beeper := if s.controls.beepEnable = true ∧ s.controls.beeper = none then
            some ⟨.reject, max s.clock t + 150000⟩ else s.controls.beeper
          port := (s.port.post (.cardRemoved sl)).post (.recFailed n .cardRemoved) }) ∧
        SlotWarned x { s.ovl.warnings with recFailed := .timed (max s.clock t + 3000000) } w)) ∧
    (∀ t n, s.recorder.state = .recording → s.recorder.clip = some n → r.detectTimer = some t → s.pins.detect sl = false →
      r.state = .active → ∃ (x : Recorder) (log : ClipLog),
      x = s.recorder.setSlot { r with
        detectTimer := none, present := false, state := .empty, remaining := 0, mountTimer := none, lapsed := true } sl ∧
      log = { s.log with records := s.log.records.map fun c => if c.state = .opened then
        { c with segments := c.segments.map fun g =>
            if g.slot = sl ∧ g.outcome = .inProgress then { g with outcome := .removed } else g } else c } ∧
      (o.state ≠ .active → ∃ w,
        exec (.cardLineAccepted sl .detect) s = .next (settle { s with
          clock := max s.clock t
          recorder := { x with
            state := .stopping, accountTimer := none, mediaLow := false, endLabel := some s.tc.stamp
            closeTimer := some (max s.clock t + 3000000), tally := .off, lampOn := false, blinkTimer := none }
          tc.recState := .stopping
          supply.recState := .stopping
          log := log
          ovl.warnings := w
          controls.beeper := if s.controls.beepEnable = true ∧ s.controls.beeper = none then
            some ⟨.double, max s.clock t + 140000⟩ else s.controls.beeper
          port := (s.port.post (.cardRemoved sl)).post (.recEnd n .cardRemoved s.tc.stamp) }) ∧
        SlotWarned x { s.ovl.warnings with mediaLow := .absent } w) ∧
      (o.state = .active → s.recorder.mode = .simul → ∃ w low, low = decide (o.remaining ≤ 60 * rateOf s.recorder.bitrate) ∧
        exec (.cardLineAccepted sl .detect) s = .next (settle { s with
          clock := max s.clock t, recorder := x.lowTested low (max s.clock t), log := log, ovl.warnings := w
          port := s.port.post (.cardRemoved sl) }) ∧
        SlotWarned x { s.ovl.warnings with
          mediaLow := lowWarned s.recorder.mediaLow low s.ovl.warnings.mediaLow } w)) ∧
    (r.mountTimer = none → exec (.mountTimeout sl) s = .next (settle s)) ∧
    (∀ t, r.mountTimer = some t → s.recorder.state ≠ .recording → ∃ x w,
      x = s.recorder.setSlot { r with state := .error .mountTimeout, lapsed := true, mountTimer := none } sl ∧
      exec (.mountTimeout sl) s = .next (settle { s with clock := max s.clock t, recorder := x, ovl.warnings := w }) ∧
      SlotWarned x s.ovl.warnings w) ∧
    (s.recorder.confirmTimer = none → exec .confirmationTimeout s = .next (settle s)) ∧
    (∀ t n, s.recorder.confirmTimer = some t → s.recorder.clip = some n → exec .confirmationTimeout s = .next (settle { s with
      clock := max s.clock t
      recorder := { s.recorder with
        state := .standby, confirmTimer := none, startSet := ⟨false, false⟩, clip := none, tally := .off, lampOn := false
        blinkTimer := none }
      tc.recState := .standby
      supply.recState := .standby
      ovl.warnings.recFailed := .timed (max s.clock t + 3000000)
      controls.beeper := if s.controls.beepEnable = true ∧ s.controls.beeper = none then some ⟨.reject, max s.clock t + 150000⟩
        else s.controls.beeper
      port := s.port.post (.recFailed n .confirmTimeout) })) ∧
    (s.recorder.closeTimer = none → exec .closeTimeout s = .next (settle s)) ∧
    (∀ t, s.recorder.closeTimer = some t → ∃ x w,
      x = { s.recorder with
        state := .standby, closeTimer := none, clip := none, endLabel := none
        slotA := if s.recorder.slotA.state = .active then { s.recorder.slotA with
          state := if s.recorder.slotA.remaining = 0 then .full
            else if s.recorder.slotA.protect then .writeProtected else .ready } else s.recorder.slotA
        slotB := if s.recorder.slotB.state = .active then { s.recorder.slotB with
          state := if s.recorder.slotB.remaining = 0 then .full
            else if s.recorder.slotB.protect then .writeProtected else .ready } else s.recorder.slotB } ∧
      exec .closeTimeout s = .next (settle { s with
        clock := max s.clock t
        recorder := x
        tc.recState := .standby
        supply.recState := .standby
        log.records := s.log.records.map fun x => if x.state = .opened then
          { x with state := .unconfirmed, endLabel := s.recorder.endLabel } else x
        ovl.warnings := w }) ∧
      SlotWarned x s.ovl.warnings w) ∧
    (s.recorder.accountTimer = none → exec .accountingEvent s = .next (settle s)) ∧
    (∀ t n rate full, s.recorder.accountTimer = some t → r.state = .active → s.recorder.state = .recording →
      s.recorder.clip = some n → rate = rateOf s.recorder.bitrate →
      full = { s.log with records := s.log.records.map fun c => if c.state = .opened then
        { c with segments := c.segments.map fun g =>
            if g.slot = sl ∧ g.outcome = .inProgress then { g with outcome := .full } else g } else c } →
      (o.state ≠ .active → s.recorder.mode ≠ .relay ∨ o.state ≠ .ready →
        (rate < r.remaining → ∃ x w low, low = decide (r.remaining - rate ≤ 60 * rate) ∧
          x = { s.recorder.setSlot { r with remaining := r.remaining - rate } sl with accountTimer := some (t + 1000000) } ∧
          exec .accountingEvent s = .next (settle { s with
            clock := max s.clock t, recorder := x.lowTested low (max s.clock t), ovl.warnings := w }) ∧
          SlotWarned x { s.ovl.warnings with
            mediaLow := lowWarned s.recorder.mediaLow low s.ovl.warnings.mediaLow } w)) ∧
      (o.state ≠ .active → s.recorder.mode ≠ .relay ∨ o.state ≠ .ready ∨ (∃ clip : ClipRec, s.log.openRec = some clip ∧
          (o.remaining ≤ 30 * rate ∨ 4 ≤ clip.segments.length)) →
        (r.remaining ≤ rate → ∃ x w,
          x = { s.recorder.setSlot { r with remaining := 0, state := .full } sl with
            state := .stopping, accountTimer := none, mediaLow := false, endLabel := some s.tc.stamp
            closeTimer := some (max s.clock t + 3000000), tally := .off, lampOn := false, blinkTimer := none } ∧
          exec .accountingEvent s = .next (settle { s with
            clock := max s.clock t
            recorder := x
            tc.recState := .stopping
            supply.recState := .stopping
            log := full
            ovl.warnings := w
            controls.beeper := if s.controls.beepEnable = true ∧ s.controls.beeper = none then
              some ⟨.double, max s.clock t + 140000⟩ else s.controls.beeper
            port := s.port.post (.recEnd n .mediaFull s.tc.stamp) }) ∧
          SlotWarned x { s.ovl.warnings with mediaLow := .absent } w)) ∧
      (∀ clip : ClipRec, s.recorder.mode = .relay → o.state = .ready → s.log.openRec = some clip →
        (r.remaining - rate ≤ 30 * rate → 30 * rate < o.remaining → clip.segments.length < 4 → ∃ x w low,
          low = decide (o.remaining ≤ 60 * rate) ∧
          x = { (s.recorder.setSlot { r with remaining := r.remaining - rate, state := .full } sl).setSlot
              { o with state := .active } (otherSlot sl) with
            accountTimer := some (t + 1000000), current := otherSlot sl } ∧
          exec .accountingEvent s = .next (settle { s with
            clock := max s.clock t
            recorder := x.lowTested low (max s.clock t)
            log := { full with records := full.records.map fun c => if c.state = .opened then
              { c with segments := c.segments ++ [⟨otherSlot sl, s.tc.stamp, .inProgress⟩] } else c }
            ovl.warnings := w
            port := s.port.post (.relay n sl (otherSlot sl) s.tc.stamp) }) ∧
          SlotWarned x { s.ovl.warnings with
            mediaLow := lowWarned s.recorder.mediaLow low s.ovl.warnings.mediaLow } w) ∧
        (30 * rate < r.remaining - rate ∨ (rate < r.remaining ∧ (o.remaining ≤ 30 * rate ∨ 4 ≤ clip.segments.length)) →
          ∃ x w low,
          low = decide ((if 30 * rate < o.remaining ∧ clip.segments.length < 4 then r.remaining - rate - 30 * rate + o.remaining
            else r.remaining - rate) ≤ 60 * rate) ∧
          x = { s.recorder.setSlot { r with remaining := r.remaining - rate } sl with accountTimer := some (t + 1000000) } ∧
          exec .accountingEvent s = .next (settle { s with
            clock := max s.clock t, recorder := x.lowTested low (max s.clock t), ovl.warnings := w }) ∧
          SlotWarned x { s.ovl.warnings with
            mediaLow := lowWarned s.recorder.mediaLow low s.ovl.warnings.mediaLow } w)) ∧
      (o.state = .active → s.recorder.mode = .simul → rate < o.remaining → ∃ x w low,
        low = decide (max (r.remaining - rate) (o.remaining - rate) ≤ 60 * rate) ∧
        x = { (s.recorder.setSlot { r with
              remaining := r.remaining - rate, state := if r.remaining ≤ rate then .full else .active } sl).setSlot
            { o with remaining := o.remaining - rate } (otherSlot sl) with accountTimer := some (t + 1000000) } ∧
        exec .accountingEvent s = .next (settle { s with
          clock := max s.clock t, recorder := x.lowTested low (max s.clock t)
          log := if r.remaining ≤ rate then full else s.log, ovl.warnings := w }) ∧
        SlotWarned x { s.ovl.warnings with
          mediaLow := lowWarned s.recorder.mediaLow low s.ovl.warnings.mediaLow } w) ∧
      (o.state = .active → s.recorder.mode = .simul → r.remaining ≤ rate → o.remaining ≤ rate → ∃ x w,
        x = { (s.recorder.setSlot { r with remaining := 0, state := .full } sl).setSlot
            { o with remaining := 0, state := .full } (otherSlot sl) with
          state := .stopping, accountTimer := none, mediaLow := false, endLabel := some s.tc.stamp
          closeTimer := some (max s.clock t + 3000000), tally := .off, lampOn := false, blinkTimer := none } ∧
        exec .accountingEvent s = .next (settle { s with
          clock := max s.clock t
          recorder := x
          tc.recState := .stopping
          supply.recState := .stopping
          log := { s.log with records := s.log.records.map fun c => if c.state = .opened then
            { c with segments := c.segments.map fun g =>
                if g.outcome = .inProgress then { g with outcome := .full } else g } else c }
          ovl.warnings := w
          controls.beeper := if s.controls.beepEnable = true ∧ s.controls.beeper = none then
            some ⟨.double, max s.clock t + 140000⟩ else s.controls.beeper
          port := s.port.post (.recEnd n .mediaFull s.tc.stamp) }) ∧
        SlotWarned x { s.ovl.warnings with mediaLow := .absent } w))
end

