-- ==== Sys2Proof/Laws/Request.lean ====
section
/-! SUPPORT. The taking of a request, said once: what `request` answers for a request that is passed, for one that the supply monitor
refuses in SHUTDOWN, and for a frame that only arrives. -/

namespace Sys2Proof.Machine

/-! ## A request brought to its owner leaves every block but the port as it is -/

@[simp] theorem State.brought_pins (k : Kind) (tag : Byte) (s : State) : (s.brought k tag).pins = s.pins := rfl
@[simp] theorem State.brought_controls (k : Kind) (tag : Byte) (s : State) : (s.brought k tag).controls = s.controls := rfl
@[simp] theorem State.brought_conv (k : Kind) (tag : Byte) (s : State) : (s.brought k tag).conv = s.conv := rfl
@[simp] theorem State.brought_lens (k : Kind) (tag : Byte) (s : State) : (s.brought k tag).lens = s.lens := rfl
@[simp] theorem State.brought_stab (k : Kind) (tag : Byte) (s : State) : (s.brought k tag).stab = s.stab := rfl
@[simp] theorem State.brought_tc (k : Kind) (tag : Byte) (s : State) : (s.brought k tag).tc = s.tc := rfl
@[simp] theorem State.brought_recorder (k : Kind) (tag : Byte) (s : State) : (s.brought k tag).recorder = s.recorder := rfl
@[simp] theorem State.brought_log (k : Kind) (tag : Byte) (s : State) : (s.brought k tag).log = s.log := rfl
@[simp] theorem State.brought_audio (k : Kind) (tag : Byte) (s : State) : (s.brought k tag).audio = s.audio := rfl
@[simp] theorem State.brought_ovl (k : Kind) (tag : Byte) (s : State) : (s.brought k tag).ovl = s.ovl := rfl
@[simp] theorem State.brought_supply (k : Kind) (tag : Byte) (s : State) : (s.brought k tag).supply = s.supply := rfl
@[simp] theorem State.brought_clock (k : Kind) (tag : Byte) (s : State) : (s.brought k tag).clock = s.clock := rfl
@[simp] theorem State.brought_pending (k : Kind) (tag : Byte) (s : State) : (s.brought k tag).pending = s.pending := rfl
@[simp] theorem State.brought_axis (k : Kind) (tag : Byte) (s : State) (ax : Axis) : (s.brought k tag).axis ax = s.axis ax := rfl

/-! ## The three outcomes of a request -/

/-- A request that the port passes, outside SHUTDOWN, is decided by its owner and answered (R196). -/
theorem request_of_passed {k : Kind} {tag : Byte} {owner : State → Answer} {s : State} {a : Answer} (h : Passed k tag s)
    (ha : owner (s.brought k tag) = a) (hh : a.held = false) :
    request k tag owner s = .next (answered k tag a.result a.reason a.body a.state) := by
  obtain ⟨h1, h2⟩ := h
  subst ha
  have hd : decision k owner { s with port := s.port.bring (kindCode k) tag } = owner (s.brought k tag) := by
    simp only [decision, h2, false_and, if_false]; rfl
  unfold request
  rw [if_pos h1]
  simp only [hd, Port.decided, hh, finish, answered]
  rfl

/-- A request that the port passes and its owner accepts is not answered yet (R33). -/
theorem request_of_held {k : Kind} {tag : Byte} {owner : State → Answer} {s : State} {a : Answer} (h : Passed k tag s)
    (ha : owner (s.brought k tag) = a) (hh : a.held = true) :
    request k tag owner s =
      .next (settle { a.state with port := { a.state.port with queue := setInHand .accepted a.state.port.queue } }) := by
  obtain ⟨h1, h2⟩ := h
  subst ha
  have hd : decision k owner { s with port := s.port.bring (kindCode k) tag } = owner (s.brought k tag) := by
    simp only [decision, h2, false_and, if_false]; rfl
  unfold request
  rw [if_pos h1]
  simp only [hd, Port.decided, hh, finish]
  rfl

/-- A reply to a request other than CLIP_READ that is not carried out carries a result and a reason alone (R197). -/
theorem alwaysCarried_none {k : Kind} {s : State} (hk : k ≠ .clipRead) : alwaysCarried k s = .none := by cases k <;> first | rfl | exact absurd rfl hk

/-- In SHUTDOWN every request but STATUS_GET is refused, and nothing else happens (R189, R141). -/
theorem request_of_shutdown {k : Kind} {tag : Byte} {owner : State → Answer} {s : State}
    (h : s.port.takes (kindCode k) tag = true) (hp : s.supply.power = .shutdown) (hk : k ≠ .statusGet) :
    request k tag owner s = .next (answered k tag .refused .shutdown (alwaysCarried k s) (s.brought k tag)) := by
  unfold request
  rw [if_pos h]
  simp [decision, hp, hk, refuseInShutdown, alwaysCarried, refuse, Port.decided, finish, answered, State.brought]

/-- A request that the port does not pass only arrives (R195). -/
theorem request_of_arriving {k : Kind} {tag : Byte} {owner : State → Answer} {s : State}
    (h : s.port.takes (kindCode k) tag = false) :
    request k tag owner s = .next (settle { s with port := s.port.arrive (kindCode k) tag none }) := by
  unfold request
  rw [if_neg (by simp [h])]
  rfl

/-- A request in hand that a command brings has an empty payload where the frame waiting has one. -/
theorem brought_payload {k : Kind} {tag : Byte} {s : State} (h : s.port.takes (kindCode k) tag = true)
    (he : emptyPayload s = true) :
    (s.brought k tag).port.inHand.bind (·.payload) = none ∨ (s.brought k tag).port.inHand.bind (·.payload) = some [] := by
  unfold State.brought Port.bring
  cases hi : s.port.inHand with
  | some e =>
    simp only [hi, Option.isSome_some, if_true, Option.bind_some]
    simp only [emptyPayload, hi] at he
    cases hp : e.payload <;> simp_all
  | none =>
    simp only [Port.takes, hi, decide_eq_true_eq] at h
    left
    simp only [Option.isSome_none, Bool.false_eq_true, if_false, Port.arrive, h, if_true, Port.inHand]
    simp only [Port.inHand] at hi
    rw [List.find?_append, hi]
    rfl

/-- A request without arguments is decided where its payload is empty. -/
theorem withNone_of_empty {k : Kind} {tag : Byte} {s : State} (h : Passed k tag s) (he : emptyPayload s = true) (f : Answer) :
    withNone (.given ()) (s.brought k tag) f = f := by
  rcases brought_payload h.1 he with hp | hp <;> simp [withNone, hp]

/-- A request without arguments whose payload is not empty, or malformed, is answered BAD_ARGUMENT. -/
theorem withNone_of_filled {k : Kind} {tag : Byte} {s : State} {a : NoArgs} (h : a = .malformed ∨ emptyPayload s = false)
    (f : Answer) : withNone a (s.brought k tag) f = badArgument (s.brought k tag) := by
  rcases h with h | h
  · subst h; rfl
  · unfold emptyPayload at h
    have hb : (s.brought k tag).port.inHand.bind (·.payload) = s.port.inHand.bind (·.payload) := by
      unfold State.brought Port.bring
      cases hi : s.port.inHand <;> simp_all
    cases hi : s.port.inHand with
    | none => simp [hi] at h
    | some e => cases hp : e.payload <;> cases a <;> simp_all [withNone]

end Sys2Proof.Machine
end

