-- ==== Sys2Proof/Laws/State.lean ====
section
/-! SUPPORT. What each small update of the part leaves alone: one lemma for each field of State that the update does not write, so that
no later proof unfolds the update. -/

namespace Sys2Proof.Machine


/-! ### `State.atTime`: the clock comes to an event's time -/

@[simp] theorem State.atTime_pins (t : Nat) (s : State) : (s.atTime t).pins = s.pins := rfl
@[simp] theorem State.atTime_controls (t : Nat) (s : State) : (s.atTime t).controls = s.controls := rfl
@[simp] theorem State.atTime_conv (t : Nat) (s : State) : (s.atTime t).conv = s.conv := rfl
@[simp] theorem State.atTime_lens (t : Nat) (s : State) : (s.atTime t).lens = s.lens := rfl
@[simp] theorem State.atTime_stab (t : Nat) (s : State) : (s.atTime t).stab = s.stab := rfl
@[simp] theorem State.atTime_tc (t : Nat) (s : State) : (s.atTime t).tc = s.tc := rfl
@[simp] theorem State.atTime_recorder (t : Nat) (s : State) : (s.atTime t).recorder = s.recorder := rfl
@[simp] theorem State.atTime_log (t : Nat) (s : State) : (s.atTime t).log = s.log := rfl
@[simp] theorem State.atTime_audio (t : Nat) (s : State) : (s.atTime t).audio = s.audio := rfl
@[simp] theorem State.atTime_ovl (t : Nat) (s : State) : (s.atTime t).ovl = s.ovl := rfl
@[simp] theorem State.atTime_supply (t : Nat) (s : State) : (s.atTime t).supply = s.supply := rfl
@[simp] theorem State.atTime_port (t : Nat) (s : State) : (s.atTime t).port = s.port := rfl
@[simp] theorem State.atTime_pending (t : Nat) (s : State) : (s.atTime t).pending = s.pending := rfl

/-! ### `State.post`: a notice is posted -/

@[simp] theorem State.post_pins (n : Notice) (s : State) : (s.post n).pins = s.pins := rfl
@[simp] theorem State.post_controls (n : Notice) (s : State) : (s.post n).controls = s.controls := rfl
@[simp] theorem State.post_conv (n : Notice) (s : State) : (s.post n).conv = s.conv := rfl
@[simp] theorem State.post_lens (n : Notice) (s : State) : (s.post n).lens = s.lens := rfl
@[simp] theorem State.post_stab (n : Notice) (s : State) : (s.post n).stab = s.stab := rfl
@[simp] theorem State.post_tc (n : Notice) (s : State) : (s.post n).tc = s.tc := rfl
@[simp] theorem State.post_recorder (n : Notice) (s : State) : (s.post n).recorder = s.recorder := rfl
@[simp] theorem State.post_log (n : Notice) (s : State) : (s.post n).log = s.log := rfl
@[simp] theorem State.post_audio (n : Notice) (s : State) : (s.post n).audio = s.audio := rfl
@[simp] theorem State.post_ovl (n : Notice) (s : State) : (s.post n).ovl = s.ovl := rfl
@[simp] theorem State.post_supply (n : Notice) (s : State) : (s.post n).supply = s.supply := rfl
@[simp] theorem State.post_clock (n : Notice) (s : State) : (s.post n).clock = s.clock := rfl
@[simp] theorem State.post_pending (n : Notice) (s : State) : (s.post n).pending = s.pending := rfl

/-! ### `State.setWarned`: an entry of the warning set is replaced -/

@[simp] theorem State.setWarned_pins (k : WarnKind) (w : Warned) (s : State) : (s.setWarned k w).pins = s.pins := rfl
@[simp] theorem State.setWarned_controls (k : WarnKind) (w : Warned) (s : State) : (s.setWarned k w).controls = s.controls := rfl
@[simp] theorem State.setWarned_conv (k : WarnKind) (w : Warned) (s : State) : (s.setWarned k w).conv = s.conv := rfl
@[simp] theorem State.setWarned_lens (k : WarnKind) (w : Warned) (s : State) : (s.setWarned k w).lens = s.lens := rfl
@[simp] theorem State.setWarned_stab (k : WarnKind) (w : Warned) (s : State) : (s.setWarned k w).stab = s.stab := rfl
@[simp] theorem State.setWarned_tc (k : WarnKind) (w : Warned) (s : State) : (s.setWarned k w).tc = s.tc := rfl
@[simp] theorem State.setWarned_recorder (k : WarnKind) (w : Warned) (s : State) : (s.setWarned k w).recorder = s.recorder := rfl
@[simp] theorem State.setWarned_log (k : WarnKind) (w : Warned) (s : State) : (s.setWarned k w).log = s.log := rfl
@[simp] theorem State.setWarned_audio (k : WarnKind) (w : Warned) (s : State) : (s.setWarned k w).audio = s.audio := rfl
@[simp] theorem State.setWarned_supply (k : WarnKind) (w : Warned) (s : State) : (s.setWarned k w).supply = s.supply := rfl
@[simp] theorem State.setWarned_port (k : WarnKind) (w : Warned) (s : State) : (s.setWarned k w).port = s.port := rfl
@[simp] theorem State.setWarned_clock (k : WarnKind) (w : Warned) (s : State) : (s.setWarned k w).clock = s.clock := rfl
@[simp] theorem State.setWarned_pending (k : WarnKind) (w : Warned) (s : State) : (s.setWarned k w).pending = s.pending := rfl

/-! ### `State.condition`: a condition warning follows its condition -/

@[simp] theorem State.condition_pins (k : WarnKind) (b : Bool) (s : State) : (s.condition k b).pins = s.pins := rfl
@[simp] theorem State.condition_controls (k : WarnKind) (b : Bool) (s : State) : (s.condition k b).controls = s.controls := rfl
@[simp] theorem State.condition_conv (k : WarnKind) (b : Bool) (s : State) : (s.condition k b).conv = s.conv := rfl
@[simp] theorem State.condition_lens (k : WarnKind) (b : Bool) (s : State) : (s.condition k b).lens = s.lens := rfl
@[simp] theorem State.condition_stab (k : WarnKind) (b : Bool) (s : State) : (s.condition k b).stab = s.stab := rfl
@[simp] theorem State.condition_tc (k : WarnKind) (b : Bool) (s : State) : (s.condition k b).tc = s.tc := rfl
@[simp] theorem State.condition_recorder (k : WarnKind) (b : Bool) (s : State) : (s.condition k b).recorder = s.recorder := rfl
@[simp] theorem State.condition_log (k : WarnKind) (b : Bool) (s : State) : (s.condition k b).log = s.log := rfl
@[simp] theorem State.condition_audio (k : WarnKind) (b : Bool) (s : State) : (s.condition k b).audio = s.audio := rfl
@[simp] theorem State.condition_supply (k : WarnKind) (b : Bool) (s : State) : (s.condition k b).supply = s.supply := rfl
@[simp] theorem State.condition_port (k : WarnKind) (b : Bool) (s : State) : (s.condition k b).port = s.port := rfl
@[simp] theorem State.condition_clock (k : WarnKind) (b : Bool) (s : State) : (s.condition k b).clock = s.clock := rfl
@[simp] theorem State.condition_pending (k : WarnKind) (b : Bool) (s : State) : (s.condition k b).pending = s.pending := rfl

/-! ### `State.warn`: a timed warning is posted -/

@[simp] theorem State.warn_pins (k : WarnKind) (s : State) : (s.warn k).pins = s.pins := rfl
@[simp] theorem State.warn_controls (k : WarnKind) (s : State) : (s.warn k).controls = s.controls := rfl
@[simp] theorem State.warn_conv (k : WarnKind) (s : State) : (s.warn k).conv = s.conv := rfl
@[simp] theorem State.warn_lens (k : WarnKind) (s : State) : (s.warn k).lens = s.lens := rfl
@[simp] theorem State.warn_stab (k : WarnKind) (s : State) : (s.warn k).stab = s.stab := rfl
@[simp] theorem State.warn_tc (k : WarnKind) (s : State) : (s.warn k).tc = s.tc := rfl
@[simp] theorem State.warn_recorder (k : WarnKind) (s : State) : (s.warn k).recorder = s.recorder := rfl
@[simp] theorem State.warn_log (k : WarnKind) (s : State) : (s.warn k).log = s.log := rfl
@[simp] theorem State.warn_audio (k : WarnKind) (s : State) : (s.warn k).audio = s.audio := rfl
@[simp] theorem State.warn_supply (k : WarnKind) (s : State) : (s.warn k).supply = s.supply := rfl
@[simp] theorem State.warn_port (k : WarnKind) (s : State) : (s.warn k).port = s.port := rfl
@[simp] theorem State.warn_clock (k : WarnKind) (s : State) : (s.warn k).clock = s.clock := rfl
@[simp] theorem State.warn_pending (k : WarnKind) (s : State) : (s.warn k).pending = s.pending := rfl

/-! ### `State.setAxis`: an axis record is replaced -/

@[simp] theorem State.setAxis_pins (ax : Axis) (a : AxisRec) (s : State) : (s.setAxis ax a).pins = s.pins := rfl
@[simp] theorem State.setAxis_controls (ax : Axis) (a : AxisRec) (s : State) : (s.setAxis ax a).controls = s.controls := rfl
@[simp] theorem State.setAxis_conv (ax : Axis) (a : AxisRec) (s : State) : (s.setAxis ax a).conv = s.conv := rfl
@[simp] theorem State.setAxis_stab (ax : Axis) (a : AxisRec) (s : State) : (s.setAxis ax a).stab = s.stab := rfl
@[simp] theorem State.setAxis_tc (ax : Axis) (a : AxisRec) (s : State) : (s.setAxis ax a).tc = s.tc := rfl
@[simp] theorem State.setAxis_recorder (ax : Axis) (a : AxisRec) (s : State) : (s.setAxis ax a).recorder = s.recorder := rfl
@[simp] theorem State.setAxis_log (ax : Axis) (a : AxisRec) (s : State) : (s.setAxis ax a).log = s.log := rfl
@[simp] theorem State.setAxis_audio (ax : Axis) (a : AxisRec) (s : State) : (s.setAxis ax a).audio = s.audio := rfl
@[simp] theorem State.setAxis_ovl (ax : Axis) (a : AxisRec) (s : State) : (s.setAxis ax a).ovl = s.ovl := rfl
@[simp] theorem State.setAxis_supply (ax : Axis) (a : AxisRec) (s : State) : (s.setAxis ax a).supply = s.supply := rfl
@[simp] theorem State.setAxis_port (ax : Axis) (a : AxisRec) (s : State) : (s.setAxis ax a).port = s.port := rfl
@[simp] theorem State.setAxis_clock (ax : Axis) (a : AxisRec) (s : State) : (s.setAxis ax a).clock = s.clock := rfl
@[simp] theorem State.setAxis_pending (ax : Axis) (a : AxisRec) (s : State) : (s.setAxis ax a).pending = s.pending := rfl

/-! ### `State.setSwitch`: a switch input is replaced -/

@[simp] theorem State.setSwitch_pins (i : Fin 24) (w : Switch) (s : State) : (s.setSwitch i w).pins = s.pins := rfl
@[simp] theorem State.setSwitch_conv (i : Fin 24) (w : Switch) (s : State) : (s.setSwitch i w).conv = s.conv := rfl
@[simp] theorem State.setSwitch_lens (i : Fin 24) (w : Switch) (s : State) : (s.setSwitch i w).lens = s.lens := rfl
@[simp] theorem State.setSwitch_stab (i : Fin 24) (w : Switch) (s : State) : (s.setSwitch i w).stab = s.stab := rfl
@[simp] theorem State.setSwitch_tc (i : Fin 24) (w : Switch) (s : State) : (s.setSwitch i w).tc = s.tc := rfl
@[simp] theorem State.setSwitch_recorder (i : Fin 24) (w : Switch) (s : State) : (s.setSwitch i w).recorder = s.recorder := rfl
@[simp] theorem State.setSwitch_log (i : Fin 24) (w : Switch) (s : State) : (s.setSwitch i w).log = s.log := rfl
@[simp] theorem State.setSwitch_audio (i : Fin 24) (w : Switch) (s : State) : (s.setSwitch i w).audio = s.audio := rfl
@[simp] theorem State.setSwitch_ovl (i : Fin 24) (w : Switch) (s : State) : (s.setSwitch i w).ovl = s.ovl := rfl
@[simp] theorem State.setSwitch_supply (i : Fin 24) (w : Switch) (s : State) : (s.setSwitch i w).supply = s.supply := rfl
@[simp] theorem State.setSwitch_port (i : Fin 24) (w : Switch) (s : State) : (s.setSwitch i w).port = s.port := rfl
@[simp] theorem State.setSwitch_clock (i : Fin 24) (w : Switch) (s : State) : (s.setSwitch i w).clock = s.clock := rfl
@[simp] theorem State.setSwitch_pending (i : Fin 24) (w : Switch) (s : State) : (s.setSwitch i w).pending = s.pending := rfl

/-! ### `State.setHeld`: a held record is replaced -/

@[simp] theorem State.setHeld_pins (i : Fin 24) (h : Option Held) (s : State) : (s.setHeld i h).pins = s.pins := rfl
@[simp] theorem State.setHeld_conv (i : Fin 24) (h : Option Held) (s : State) : (s.setHeld i h).conv = s.conv := rfl
@[simp] theorem State.setHeld_lens (i : Fin 24) (h : Option Held) (s : State) : (s.setHeld i h).lens = s.lens := rfl
@[simp] theorem State.setHeld_stab (i : Fin 24) (h : Option Held) (s : State) : (s.setHeld i h).stab = s.stab := rfl
@[simp] theorem State.setHeld_tc (i : Fin 24) (h : Option Held) (s : State) : (s.setHeld i h).tc = s.tc := rfl
@[simp] theorem State.setHeld_recorder (i : Fin 24) (h : Option Held) (s : State) : (s.setHeld i h).recorder = s.recorder := rfl
@[simp] theorem State.setHeld_log (i : Fin 24) (h : Option Held) (s : State) : (s.setHeld i h).log = s.log := rfl
@[simp] theorem State.setHeld_audio (i : Fin 24) (h : Option Held) (s : State) : (s.setHeld i h).audio = s.audio := rfl
@[simp] theorem State.setHeld_ovl (i : Fin 24) (h : Option Held) (s : State) : (s.setHeld i h).ovl = s.ovl := rfl
@[simp] theorem State.setHeld_supply (i : Fin 24) (h : Option Held) (s : State) : (s.setHeld i h).supply = s.supply := rfl
@[simp] theorem State.setHeld_port (i : Fin 24) (h : Option Held) (s : State) : (s.setHeld i h).port = s.port := rfl
@[simp] theorem State.setHeld_clock (i : Fin 24) (h : Option Held) (s : State) : (s.setHeld i h).clock = s.clock := rfl
@[simp] theorem State.setHeld_pending (i : Fin 24) (h : Option Held) (s : State) : (s.setHeld i h).pending = s.pending := rfl

/-! ### `State.setAssign`: the assign set is changed -/

@[simp] theorem State.setAssign_pins (i : Fin 24) (x : Bool) (s : State) : (s.setAssign i x).pins = s.pins := rfl
@[simp] theorem State.setAssign_conv (i : Fin 24) (x : Bool) (s : State) : (s.setAssign i x).conv = s.conv := rfl
@[simp] theorem State.setAssign_lens (i : Fin 24) (x : Bool) (s : State) : (s.setAssign i x).lens = s.lens := rfl
@[simp] theorem State.setAssign_stab (i : Fin 24) (x : Bool) (s : State) : (s.setAssign i x).stab = s.stab := rfl
@[simp] theorem State.setAssign_tc (i : Fin 24) (x : Bool) (s : State) : (s.setAssign i x).tc = s.tc := rfl
@[simp] theorem State.setAssign_recorder (i : Fin 24) (x : Bool) (s : State) : (s.setAssign i x).recorder = s.recorder := rfl
@[simp] theorem State.setAssign_log (i : Fin 24) (x : Bool) (s : State) : (s.setAssign i x).log = s.log := rfl
@[simp] theorem State.setAssign_audio (i : Fin 24) (x : Bool) (s : State) : (s.setAssign i x).audio = s.audio := rfl
@[simp] theorem State.setAssign_ovl (i : Fin 24) (x : Bool) (s : State) : (s.setAssign i x).ovl = s.ovl := rfl
@[simp] theorem State.setAssign_supply (i : Fin 24) (x : Bool) (s : State) : (s.setAssign i x).supply = s.supply := rfl
@[simp] theorem State.setAssign_port (i : Fin 24) (x : Bool) (s : State) : (s.setAssign i x).port = s.port := rfl
@[simp] theorem State.setAssign_clock (i : Fin 24) (x : Bool) (s : State) : (s.setAssign i x).clock = s.clock := rfl
@[simp] theorem State.setAssign_pending (i : Fin 24) (x : Bool) (s : State) : (s.setAssign i x).pending = s.pending := rfl

/-! ### `State.setAccepted`: an accepted level is changed -/

@[simp] theorem State.setAccepted_pins (i : Fin 24) (level : Bool) (s : State) : (s.setAccepted i level).pins = s.pins := rfl
@[simp] theorem State.setAccepted_conv (i : Fin 24) (level : Bool) (s : State) : (s.setAccepted i level).conv = s.conv := rfl
@[simp] theorem State.setAccepted_lens (i : Fin 24) (level : Bool) (s : State) : (s.setAccepted i level).lens = s.lens := rfl
@[simp] theorem State.setAccepted_stab (i : Fin 24) (level : Bool) (s : State) : (s.setAccepted i level).stab = s.stab := rfl
@[simp] theorem State.setAccepted_tc (i : Fin 24) (level : Bool) (s : State) : (s.setAccepted i level).tc = s.tc := rfl
@[simp] theorem State.setAccepted_recorder (i : Fin 24) (level : Bool) (s : State) :
    (s.setAccepted i level).recorder = s.recorder := rfl
@[simp] theorem State.setAccepted_log (i : Fin 24) (level : Bool) (s : State) : (s.setAccepted i level).log = s.log := rfl
@[simp] theorem State.setAccepted_audio (i : Fin 24) (level : Bool) (s : State) : (s.setAccepted i level).audio = s.audio := rfl
@[simp] theorem State.setAccepted_ovl (i : Fin 24) (level : Bool) (s : State) : (s.setAccepted i level).ovl = s.ovl := rfl
@[simp] theorem State.setAccepted_supply (i : Fin 24) (level : Bool) (s : State) :
    (s.setAccepted i level).supply = s.supply := rfl
@[simp] theorem State.setAccepted_port (i : Fin 24) (level : Bool) (s : State) : (s.setAccepted i level).port = s.port := rfl
@[simp] theorem State.setAccepted_clock (i : Fin 24) (level : Bool) (s : State) : (s.setAccepted i level).clock = s.clock := rfl
@[simp] theorem State.setAccepted_pending (i : Fin 24) (level : Bool) (s : State) :
    (s.setAccepted i level).pending = s.pending := rfl

/-! ### `State.setSlot`: a slot record is replaced -/

@[simp] theorem State.setSlot_pins (sl : Slot) (r : SlotRec) (s : State) : (s.setSlot sl r).pins = s.pins := rfl
@[simp] theorem State.setSlot_controls (sl : Slot) (r : SlotRec) (s : State) : (s.setSlot sl r).controls = s.controls := rfl
@[simp] theorem State.setSlot_conv (sl : Slot) (r : SlotRec) (s : State) : (s.setSlot sl r).conv = s.conv := rfl
@[simp] theorem State.setSlot_lens (sl : Slot) (r : SlotRec) (s : State) : (s.setSlot sl r).lens = s.lens := rfl
@[simp] theorem State.setSlot_stab (sl : Slot) (r : SlotRec) (s : State) : (s.setSlot sl r).stab = s.stab := rfl
@[simp] theorem State.setSlot_tc (sl : Slot) (r : SlotRec) (s : State) : (s.setSlot sl r).tc = s.tc := rfl
@[simp] theorem State.setSlot_log (sl : Slot) (r : SlotRec) (s : State) : (s.setSlot sl r).log = s.log := rfl
@[simp] theorem State.setSlot_audio (sl : Slot) (r : SlotRec) (s : State) : (s.setSlot sl r).audio = s.audio := rfl
@[simp] theorem State.setSlot_ovl (sl : Slot) (r : SlotRec) (s : State) : (s.setSlot sl r).ovl = s.ovl := rfl
@[simp] theorem State.setSlot_supply (sl : Slot) (r : SlotRec) (s : State) : (s.setSlot sl r).supply = s.supply := rfl
@[simp] theorem State.setSlot_port (sl : Slot) (r : SlotRec) (s : State) : (s.setSlot sl r).port = s.port := rfl
@[simp] theorem State.setSlot_clock (sl : Slot) (r : SlotRec) (s : State) : (s.setSlot sl r).clock = s.clock := rfl
@[simp] theorem State.setSlot_pending (sl : Slot) (r : SlotRec) (s : State) : (s.setSlot sl r).pending = s.pending := rfl

/-! ### `State.setRecState`: the record state changes -/

@[simp] theorem State.setRecState_pins (st : RecState) (s : State) : (s.setRecState st).pins = s.pins := rfl
@[simp] theorem State.setRecState_controls (st : RecState) (s : State) : (s.setRecState st).controls = s.controls := rfl
@[simp] theorem State.setRecState_conv (st : RecState) (s : State) : (s.setRecState st).conv = s.conv := rfl
@[simp] theorem State.setRecState_lens (st : RecState) (s : State) : (s.setRecState st).lens = s.lens := rfl
@[simp] theorem State.setRecState_stab (st : RecState) (s : State) : (s.setRecState st).stab = s.stab := rfl
@[simp] theorem State.setRecState_log (st : RecState) (s : State) : (s.setRecState st).log = s.log := rfl
@[simp] theorem State.setRecState_audio (st : RecState) (s : State) : (s.setRecState st).audio = s.audio := rfl
@[simp] theorem State.setRecState_ovl (st : RecState) (s : State) : (s.setRecState st).ovl = s.ovl := rfl
@[simp] theorem State.setRecState_port (st : RecState) (s : State) : (s.setRecState st).port = s.port := rfl
@[simp] theorem State.setRecState_clock (st : RecState) (s : State) : (s.setRecState st).clock = s.clock := rfl
@[simp] theorem State.setRecState_pending (st : RecState) (s : State) : (s.setRecState st).pending = s.pending := rfl

/-! ### `State.tally`: the tally takes a pattern -/

@[simp] theorem State.tally_pins (p : Tally) (s : State) : (s.tally p).pins = s.pins := rfl
@[simp] theorem State.tally_controls (p : Tally) (s : State) : (s.tally p).controls = s.controls := rfl
@[simp] theorem State.tally_conv (p : Tally) (s : State) : (s.tally p).conv = s.conv := rfl
@[simp] theorem State.tally_lens (p : Tally) (s : State) : (s.tally p).lens = s.lens := rfl
@[simp] theorem State.tally_stab (p : Tally) (s : State) : (s.tally p).stab = s.stab := rfl
@[simp] theorem State.tally_tc (p : Tally) (s : State) : (s.tally p).tc = s.tc := rfl
@[simp] theorem State.tally_log (p : Tally) (s : State) : (s.tally p).log = s.log := rfl
@[simp] theorem State.tally_audio (p : Tally) (s : State) : (s.tally p).audio = s.audio := rfl
@[simp] theorem State.tally_ovl (p : Tally) (s : State) : (s.tally p).ovl = s.ovl := rfl
@[simp] theorem State.tally_supply (p : Tally) (s : State) : (s.tally p).supply = s.supply := rfl
@[simp] theorem State.tally_port (p : Tally) (s : State) : (s.tally p).port = s.port := rfl
@[simp] theorem State.tally_clock (p : Tally) (s : State) : (s.tally p).clock = s.clock := rfl
@[simp] theorem State.tally_pending (p : Tally) (s : State) : (s.tally p).pending = s.pending := rfl

/-! ### `State.setChannel`: an audio channel is replaced -/

@[simp] theorem State.setChannel_pins (ch : Channel) (c : ChannelRec) (s : State) : (s.setChannel ch c).pins = s.pins := rfl
@[simp] theorem State.setChannel_controls (ch : Channel) (c : ChannelRec) (s : State) :
    (s.setChannel ch c).controls = s.controls := rfl
@[simp] theorem State.setChannel_conv (ch : Channel) (c : ChannelRec) (s : State) : (s.setChannel ch c).conv = s.conv := rfl
@[simp] theorem State.setChannel_lens (ch : Channel) (c : ChannelRec) (s : State) : (s.setChannel ch c).lens = s.lens := rfl
@[simp] theorem State.setChannel_stab (ch : Channel) (c : ChannelRec) (s : State) : (s.setChannel ch c).stab = s.stab := rfl
@[simp] theorem State.setChannel_tc (ch : Channel) (c : ChannelRec) (s : State) : (s.setChannel ch c).tc = s.tc := rfl
@[simp] theorem State.setChannel_recorder (ch : Channel) (c : ChannelRec) (s : State) :
    (s.setChannel ch c).recorder = s.recorder := rfl
@[simp] theorem State.setChannel_log (ch : Channel) (c : ChannelRec) (s : State) : (s.setChannel ch c).log = s.log := rfl
@[simp] theorem State.setChannel_ovl (ch : Channel) (c : ChannelRec) (s : State) : (s.setChannel ch c).ovl = s.ovl := rfl
@[simp] theorem State.setChannel_supply (ch : Channel) (c : ChannelRec) (s : State) : (s.setChannel ch c).supply = s.supply := rfl
@[simp] theorem State.setChannel_port (ch : Channel) (c : ChannelRec) (s : State) : (s.setChannel ch c).port = s.port := rfl
@[simp] theorem State.setChannel_clock (ch : Channel) (c : ChannelRec) (s : State) : (s.setChannel ch c).clock = s.clock := rfl
@[simp] theorem State.setChannel_pending (ch : Channel) (c : ChannelRec) (s : State) :
    (s.setChannel ch c).pending = s.pending := rfl

/-! ### `State.rockerDemand`: a rocker demand is handed over -/

@[simp] theorem State.rockerDemand_pins (d : Int) (s : State) : (s.rockerDemand d).pins = s.pins := rfl
@[simp] theorem State.rockerDemand_controls (d : Int) (s : State) : (s.rockerDemand d).controls = s.controls := rfl
@[simp] theorem State.rockerDemand_conv (d : Int) (s : State) : (s.rockerDemand d).conv = s.conv := rfl
@[simp] theorem State.rockerDemand_stab (d : Int) (s : State) : (s.rockerDemand d).stab = s.stab := rfl
@[simp] theorem State.rockerDemand_tc (d : Int) (s : State) : (s.rockerDemand d).tc = s.tc := rfl
@[simp] theorem State.rockerDemand_recorder (d : Int) (s : State) : (s.rockerDemand d).recorder = s.recorder := rfl
@[simp] theorem State.rockerDemand_log (d : Int) (s : State) : (s.rockerDemand d).log = s.log := rfl
@[simp] theorem State.rockerDemand_audio (d : Int) (s : State) : (s.rockerDemand d).audio = s.audio := rfl
@[simp] theorem State.rockerDemand_ovl (d : Int) (s : State) : (s.rockerDemand d).ovl = s.ovl := rfl
@[simp] theorem State.rockerDemand_supply (d : Int) (s : State) : (s.rockerDemand d).supply = s.supply := rfl
@[simp] theorem State.rockerDemand_port (d : Int) (s : State) : (s.rockerDemand d).port = s.port := rfl
@[simp] theorem State.rockerDemand_clock (d : Int) (s : State) : (s.rockerDemand d).clock = s.clock := rfl
@[simp] theorem State.rockerDemand_pending (d : Int) (s : State) : (s.rockerDemand d).pending = s.pending := rfl

/-! ### `State.driveLens`: the bridges leave the float state -/

@[simp] theorem State.driveLens_pins (s : State) : s.driveLens.pins = s.pins := rfl
@[simp] theorem State.driveLens_controls (s : State) : s.driveLens.controls = s.controls := rfl
@[simp] theorem State.driveLens_conv (s : State) : s.driveLens.conv = s.conv := rfl
@[simp] theorem State.driveLens_stab (s : State) : s.driveLens.stab = s.stab := rfl
@[simp] theorem State.driveLens_tc (s : State) : s.driveLens.tc = s.tc := rfl
@[simp] theorem State.driveLens_recorder (s : State) : s.driveLens.recorder = s.recorder := rfl
@[simp] theorem State.driveLens_log (s : State) : s.driveLens.log = s.log := rfl
@[simp] theorem State.driveLens_audio (s : State) : s.driveLens.audio = s.audio := rfl
@[simp] theorem State.driveLens_ovl (s : State) : s.driveLens.ovl = s.ovl := rfl
@[simp] theorem State.driveLens_supply (s : State) : s.driveLens.supply = s.supply := rfl
@[simp] theorem State.driveLens_port (s : State) : s.driveLens.port = s.port := rfl
@[simp] theorem State.driveLens_clock (s : State) : s.driveLens.clock = s.clock := rfl
@[simp] theorem State.driveLens_pending (s : State) : s.driveLens.pending = s.pending := rfl

/-! ### `State.lensFault`: LENS_FAULT follows the fault flags -/

@[simp] theorem State.lensFault_pins (s : State) : s.lensFault.pins = s.pins := rfl
@[simp] theorem State.lensFault_controls (s : State) : s.lensFault.controls = s.controls := rfl
@[simp] theorem State.lensFault_conv (s : State) : s.lensFault.conv = s.conv := rfl
@[simp] theorem State.lensFault_lens (s : State) : s.lensFault.lens = s.lens := rfl
@[simp] theorem State.lensFault_stab (s : State) : s.lensFault.stab = s.stab := rfl
@[simp] theorem State.lensFault_tc (s : State) : s.lensFault.tc = s.tc := rfl
@[simp] theorem State.lensFault_recorder (s : State) : s.lensFault.recorder = s.recorder := rfl
@[simp] theorem State.lensFault_log (s : State) : s.lensFault.log = s.log := rfl
@[simp] theorem State.lensFault_audio (s : State) : s.lensFault.audio = s.audio := rfl
@[simp] theorem State.lensFault_supply (s : State) : s.lensFault.supply = s.supply := rfl
@[simp] theorem State.lensFault_port (s : State) : s.lensFault.port = s.port := rfl
@[simp] theorem State.lensFault_clock (s : State) : s.lensFault.clock = s.clock := rfl
@[simp] theorem State.lensFault_pending (s : State) : s.lensFault.pending = s.pending := rfl

/-! ### `State.appendMark`: a mark is appended -/

@[simp] theorem State.appendMark_pins (s : State) : s.appendMark.pins = s.pins := rfl
@[simp] theorem State.appendMark_controls (s : State) : s.appendMark.controls = s.controls := rfl
@[simp] theorem State.appendMark_conv (s : State) : s.appendMark.conv = s.conv := rfl
@[simp] theorem State.appendMark_lens (s : State) : s.appendMark.lens = s.lens := rfl
@[simp] theorem State.appendMark_stab (s : State) : s.appendMark.stab = s.stab := rfl
@[simp] theorem State.appendMark_tc (s : State) : s.appendMark.tc = s.tc := rfl
@[simp] theorem State.appendMark_recorder (s : State) : s.appendMark.recorder = s.recorder := rfl
@[simp] theorem State.appendMark_audio (s : State) : s.appendMark.audio = s.audio := rfl
@[simp] theorem State.appendMark_ovl (s : State) : s.appendMark.ovl = s.ovl := rfl
@[simp] theorem State.appendMark_supply (s : State) : s.appendMark.supply = s.supply := rfl
@[simp] theorem State.appendMark_port (s : State) : s.appendMark.port = s.port := rfl
@[simp] theorem State.appendMark_clock (s : State) : s.appendMark.clock = s.clock := rfl
@[simp] theorem State.appendMark_pending (s : State) : s.appendMark.pending = s.pending := rfl

/-! ### `State.beginGoto`: a goto begins -/

@[simp] theorem State.beginGoto_pins (ax : Axis) (o : Owner) (t : Int) (v : Nat) (s : State) :
    (s.beginGoto ax o t v).pins = s.pins := rfl
@[simp] theorem State.beginGoto_controls (ax : Axis) (o : Owner) (t : Int) (v : Nat) (s : State) :
    (s.beginGoto ax o t v).controls = s.controls := rfl
@[simp] theorem State.beginGoto_conv (ax : Axis) (o : Owner) (t : Int) (v : Nat) (s : State) :
    (s.beginGoto ax o t v).conv = s.conv := rfl
@[simp] theorem State.beginGoto_stab (ax : Axis) (o : Owner) (t : Int) (v : Nat) (s : State) :
    (s.beginGoto ax o t v).stab = s.stab := rfl
@[simp] theorem State.beginGoto_tc (ax : Axis) (o : Owner) (t : Int) (v : Nat) (s : State) :
    (s.beginGoto ax o t v).tc = s.tc := rfl
@[simp] theorem State.beginGoto_recorder (ax : Axis) (o : Owner) (t : Int) (v : Nat) (s : State) :
    (s.beginGoto ax o t v).recorder = s.recorder := rfl
@[simp] theorem State.beginGoto_log (ax : Axis) (o : Owner) (t : Int) (v : Nat) (s : State) :
    (s.beginGoto ax o t v).log = s.log := rfl
@[simp] theorem State.beginGoto_audio (ax : Axis) (o : Owner) (t : Int) (v : Nat) (s : State) :
    (s.beginGoto ax o t v).audio = s.audio := rfl
@[simp] theorem State.beginGoto_ovl (ax : Axis) (o : Owner) (t : Int) (v : Nat) (s : State) :
    (s.beginGoto ax o t v).ovl = s.ovl := rfl
@[simp] theorem State.beginGoto_supply (ax : Axis) (o : Owner) (t : Int) (v : Nat) (s : State) :
    (s.beginGoto ax o t v).supply = s.supply := rfl
@[simp] theorem State.beginGoto_port (ax : Axis) (o : Owner) (t : Int) (v : Nat) (s : State) :
    (s.beginGoto ax o t v).port = s.port := rfl
@[simp] theorem State.beginGoto_clock (ax : Axis) (o : Owner) (t : Int) (v : Nat) (s : State) :
    (s.beginGoto ax o t v).clock = s.clock := rfl
@[simp] theorem State.beginGoto_pending (ax : Axis) (o : Owner) (t : Int) (v : Nat) (s : State) :
    (s.beginGoto ax o t v).pending = s.pending := rfl

/-! ### `State.reportReference`: the reference is reported -/

@[simp] theorem State.reportReference_pins (s : State) : s.reportReference.pins = s.pins := rfl
@[simp] theorem State.reportReference_controls (s : State) : s.reportReference.controls = s.controls := rfl
@[simp] theorem State.reportReference_conv (s : State) : s.reportReference.conv = s.conv := rfl
@[simp] theorem State.reportReference_lens (s : State) : s.reportReference.lens = s.lens := rfl
@[simp] theorem State.reportReference_stab (s : State) : s.reportReference.stab = s.stab := rfl
@[simp] theorem State.reportReference_recorder (s : State) : s.reportReference.recorder = s.recorder := rfl
@[simp] theorem State.reportReference_log (s : State) : s.reportReference.log = s.log := rfl
@[simp] theorem State.reportReference_audio (s : State) : s.reportReference.audio = s.audio := rfl
@[simp] theorem State.reportReference_supply (s : State) : s.reportReference.supply = s.supply := rfl
@[simp] theorem State.reportReference_clock (s : State) : s.reportReference.clock = s.clock := rfl
@[simp] theorem State.reportReference_pending (s : State) : s.reportReference.pending = s.pending := rfl

end Sys2Proof.Machine
end

