-- ==== Sys2Proof/Laws/Basics.lean ====
section
/-! SUPPORT. The vectors, the numbered places and the records of the part: reading after writing. -/

namespace Sys2Proof.Machine

/-- A vector given by a function reads as the function. -/
theorem vector_get_ofFn {α} {n} (f : Fin n → α) (i : Fin n) : (Vector.ofFn f).get i = f i := by
  simp [Vector.get_eq_getElem]

/-- Reading a vector after a write gives the value written at its place and the old value elsewhere. -/
theorem vector_get_set {α} {n} (v : Vector α n) (i j : Fin n) (a : α) : (v.set i a).get j = if i = j then a else v.get j := by
  simp [Vector.get_eq_getElem, Vector.getElem_set, Fin.ext_iff]

/-- A vector of one value reads as that value. -/
theorem vector_get_replicate {α} {n} (a : α) (i : Fin n) : (Vector.replicate n a).get i = a := by simp [Vector.get_eq_getElem]

/-- Two vectors that read alike are equal. -/
theorem vector_ext_get {α} {n} {v w : Vector α n} (h : ∀ i : Fin n, v.get i = w.get i) : v = w := by
  apply Vector.ext; intro i hi; simpa [Vector.get_eq_getElem] using h ⟨i, hi⟩

/-- A write to a vector, as a function of the place. -/
theorem vector_set_eq_ofFn {α n} (v : Vector α n) (i : Fin n) (a : α) :
    v.set i a = .ofFn fun j => if j = i then a else v.get j := by
  apply vector_ext_get; intro j; simp only [vector_get_set, vector_get_ofFn, eq_comm]

/-- A number of a place is the place. -/
theorem finOf_eq_some {n : Nat} {k : Nat} (i : Fin n) (h : k = i.val) : finOf n k = some i := by
  subst h; simp [finOf]

/-- The number of a place gives the place. -/
theorem finOf_self {n : Nat} (i : Fin n) : finOf n i.val = some i := finOf_eq_some i rfl

/-- A number beyond the places gives none. -/
theorem finOf_eq_none {n : Nat} {k : Nat} (h : n ≤ k) : finOf n k = none := by
  simp [finOf, h]

/-- Reading the live-field table after a write. -/
theorem Fields.entry_setEntry (t : Fields) (x : LiveField) (k k' : FieldKind) :
    (t.setEntry x k).entry k' = if k' = k then x else t.entry k' := by
  cases k <;> cases k' <;> rfl

/-- The table order names every kind. -/
theorem mem_allFields (k : FieldKind) : k ∈ allFields := by cases k <;> decide

/-- A write of a slot leaves the record state. -/
theorem Recorder.setSlot_state (r : Recorder) (x : SlotRec) (sl : Slot) : (r.setSlot x sl).state = r.state := by cases sl <;> rfl

/-- Reading the slot written. -/
theorem Recorder.slot_setSlot (r : Recorder) (x : SlotRec) (sl : Slot) : (r.setSlot x sl).slot sl = x := by cases sl <;> rfl

/-- Reading the slot not written. -/
theorem Recorder.slot_setSlot_other (r : Recorder) (x : SlotRec) (sl : Slot) :
    (r.setSlot x sl).slot (otherSlot sl) = r.slot (otherSlot sl) := by cases sl <;> rfl

/-- Writing what is read changes nothing. -/
theorem State.setSwitch_self (s : State) (i : Fin 24) : s.setSwitch i (s.controls.switches.get i) = s := by
  simp only [State.setSwitch]
  have : s.controls.switches.set i (s.controls.switches.get i) = s.controls.switches := by
    apply vector_ext_get; intro j; rw [vector_get_set]; split
    · next h => rw [h]
    · rfl
  rw [this]

end Sys2Proof.Machine
end

