-- ==== Sys2Proof/Laws/Frames.lean ====
section
/-! SUPPORT. The frame of every operation of the part: `State.<operation>_frame` lists the pieces of State that the operation leaves as
they are. A prover rewrites with them in place of unfolding the operation. -/

namespace Sys2Proof.Machine

/-- The end-of-step rendering writes the overlay alone. -/
@[simp] theorem publish_frame (s : State) :
    (publish s).pins = s.pins ∧ (publish s).controls = s.controls ∧ (publish s).conv = s.conv ∧ (publish s).lens = s.lens ∧
      (publish s).stab = s.stab ∧ (publish s).tc = s.tc ∧ (publish s).recorder = s.recorder ∧ (publish s).log = s.log ∧
      (publish s).audio = s.audio ∧ (publish s).supply = s.supply ∧ (publish s).port = s.port ∧
      (publish s).clock = s.clock ∧ (publish s).pending = s.pending := by simp [publish]

@[simp] theorem State.beep_frame (p : Pattern) (s : State) :
    (s.beep p).pins = s.pins ∧ (s.beep p).conv = s.conv ∧ (s.beep p).lens = s.lens ∧ (s.beep p).stab = s.stab ∧
      (s.beep p).tc = s.tc ∧ (s.beep p).recorder = s.recorder ∧ (s.beep p).log = s.log ∧ (s.beep p).audio = s.audio ∧
      (s.beep p).ovl = s.ovl ∧ (s.beep p).supply = s.supply ∧ (s.beep p).port = s.port ∧ (s.beep p).clock = s.clock ∧
      (s.beep p).pending = s.pending := by
  simp only [State.beep]
  (repeat' split) <;> simp

@[simp] theorem State.menuToggle_frame (s : State) :
    s.menuToggle.pins = s.pins ∧ s.menuToggle.controls = s.controls ∧ s.menuToggle.conv = s.conv ∧ s.menuToggle.lens = s.lens ∧
      s.menuToggle.stab = s.stab ∧ s.menuToggle.tc = s.tc ∧ s.menuToggle.recorder = s.recorder ∧ s.menuToggle.log = s.log ∧
      s.menuToggle.audio = s.audio ∧ s.menuToggle.supply = s.supply ∧ s.menuToggle.clock = s.clock ∧
      s.menuToggle.pending = s.pending := by
  simp only [State.menuToggle]
  simp

@[simp] theorem State.rollover_frame (s : State) :
    s.rollover.pins = s.pins ∧ s.rollover.controls = s.controls ∧ s.rollover.conv = s.conv ∧ s.rollover.lens = s.lens ∧
      s.rollover.stab = s.stab ∧ s.rollover.tc = s.tc ∧ s.rollover.recorder = s.recorder ∧ s.rollover.audio = s.audio ∧
      s.rollover.ovl = s.ovl ∧ s.rollover.supply = s.supply ∧ s.rollover.port = s.port ∧ s.rollover.clock = s.clock ∧
      s.rollover.pending = s.pending := by
  simp only [State.rollover]
  (repeat' split) <;> simp

@[simp] theorem State.frameEvent_frame (s : State) :
    s.frameEvent.pins = s.pins ∧ s.frameEvent.controls = s.controls ∧ s.frameEvent.conv = s.conv ∧ s.frameEvent.lens = s.lens ∧
      s.frameEvent.stab = s.stab ∧ s.frameEvent.recorder = s.recorder ∧ s.frameEvent.audio = s.audio ∧
      s.frameEvent.supply = s.supply ∧ s.frameEvent.port = s.port ∧ s.frameEvent.clock = s.clock ∧
      s.frameEvent.pending = s.pending := by
  simp only [State.frameEvent]
  simp

@[simp] theorem State.referenceChanged_frame (s : State) :
    s.referenceChanged.pins = s.pins ∧ s.referenceChanged.controls = s.controls ∧ s.referenceChanged.conv = s.conv ∧
      s.referenceChanged.lens = s.lens ∧ s.referenceChanged.stab = s.stab ∧ s.referenceChanged.recorder = s.recorder ∧
      s.referenceChanged.log = s.log ∧ s.referenceChanged.audio = s.audio ∧ s.referenceChanged.supply = s.supply ∧
      s.referenceChanged.clock = s.clock ∧ s.referenceChanged.pending = s.pending := by
  simp only [State.referenceChanged]
  (repeat' split) <;> simp

@[simp] theorem State.reportDifference_frame (s : State) :
    s.reportDifference.pins = s.pins ∧ s.reportDifference.controls = s.controls ∧ s.reportDifference.conv = s.conv ∧
      s.reportDifference.lens = s.lens ∧ s.reportDifference.stab = s.stab ∧ s.reportDifference.recorder = s.recorder ∧
      s.reportDifference.log = s.log ∧ s.reportDifference.audio = s.audio ∧ s.reportDifference.supply = s.supply ∧
      s.reportDifference.clock = s.clock ∧ s.reportDifference.pending = s.pending := by
  simp only [State.reportDifference]
  (repeat' split) <;> simp

@[simp] theorem State.edgePresent_frame (s : State) :
    s.edgePresent.pins = s.pins ∧ s.edgePresent.controls = s.controls ∧ s.edgePresent.conv = s.conv ∧
      s.edgePresent.lens = s.lens ∧ s.edgePresent.stab = s.stab ∧ s.edgePresent.recorder = s.recorder ∧
      s.edgePresent.audio = s.audio ∧ s.edgePresent.supply = s.supply ∧ s.edgePresent.port = s.port ∧
      s.edgePresent.clock = s.clock ∧ s.edgePresent.pending = s.pending := by
  simp only [State.edgePresent]
  simp

@[simp] theorem State.edgeLost_frame (s : State) :
    s.edgeLost.pins = s.pins ∧ s.edgeLost.controls = s.controls ∧ s.edgeLost.conv = s.conv ∧ s.edgeLost.lens = s.lens ∧
      s.edgeLost.stab = s.stab ∧ s.edgeLost.recorder = s.recorder ∧ s.edgeLost.audio = s.audio ∧ s.edgeLost.supply = s.supply ∧
      s.edgeLost.clock = s.clock ∧ s.edgeLost.pending = s.pending := by
  simp only [State.edgeLost]
  simp

@[simp] theorem State.loseReference_frame (s : State) :
    s.loseReference.pins = s.pins ∧ s.loseReference.controls = s.controls ∧ s.loseReference.conv = s.conv ∧
      s.loseReference.lens = s.lens ∧ s.loseReference.stab = s.stab ∧ s.loseReference.recorder = s.recorder ∧
      s.loseReference.log = s.log ∧ s.loseReference.audio = s.audio ∧ s.loseReference.supply = s.supply ∧
      s.loseReference.clock = s.clock ∧ s.loseReference.pending = s.pending := by
  simp only [State.loseReference]
  simp

@[simp] theorem State.frameTimerExpiry_frame (d : Nat) (s : State) :
    (s.frameTimerExpiry d).pins = s.pins ∧ (s.frameTimerExpiry d).controls = s.controls ∧ (s.frameTimerExpiry d).conv = s.conv ∧
      (s.frameTimerExpiry d).lens = s.lens ∧ (s.frameTimerExpiry d).stab = s.stab ∧
      (s.frameTimerExpiry d).recorder = s.recorder ∧ (s.frameTimerExpiry d).audio = s.audio ∧
      (s.frameTimerExpiry d).supply = s.supply ∧ (s.frameTimerExpiry d).port = s.port ∧
      (s.frameTimerExpiry d).clock = s.clock ∧ (s.frameTimerExpiry d).pending = s.pending := by
  simp only [State.frameTimerExpiry]
  simp

@[simp] theorem State.stabBecomes_frame (t : Stabiliser) (s : State) :
    (s.stabBecomes t).pins = s.pins ∧ (s.stabBecomes t).controls = s.controls ∧ (s.stabBecomes t).conv = s.conv ∧
      (s.stabBecomes t).lens = s.lens ∧ (s.stabBecomes t).tc = s.tc ∧ (s.stabBecomes t).recorder = s.recorder ∧
      (s.stabBecomes t).log = s.log ∧ (s.stabBecomes t).audio = s.audio ∧ (s.stabBecomes t).ovl = s.ovl ∧
      (s.stabBecomes t).supply = s.supply ∧ (s.stabBecomes t).clock = s.clock ∧ (s.stabBecomes t).pending = s.pending := by
  simp only [State.stabBecomes]
  (repeat' split) <;> simp

@[simp] theorem State.stabUpdate_frame (c : Conditions) (s : State) :
    (s.stabUpdate c).pins = s.pins ∧ (s.stabUpdate c).controls = s.controls ∧ (s.stabUpdate c).conv = s.conv ∧
      (s.stabUpdate c).lens = s.lens ∧ (s.stabUpdate c).tc = s.tc ∧ (s.stabUpdate c).recorder = s.recorder ∧
      (s.stabUpdate c).log = s.log ∧ (s.stabUpdate c).audio = s.audio ∧ (s.stabUpdate c).ovl = s.ovl ∧
      (s.stabUpdate c).supply = s.supply ∧ (s.stabUpdate c).clock = s.clock ∧ (s.stabUpdate c).pending = s.pending := by
  simp only [State.stabUpdate]
  simp

@[simp] theorem State.stabPower_frame (p : PowerState) (s : State) :
    (s.stabPower p).pins = s.pins ∧ (s.stabPower p).controls = s.controls ∧ (s.stabPower p).conv = s.conv ∧
      (s.stabPower p).lens = s.lens ∧ (s.stabPower p).tc = s.tc ∧ (s.stabPower p).recorder = s.recorder ∧
      (s.stabPower p).log = s.log ∧ (s.stabPower p).audio = s.audio ∧ (s.stabPower p).ovl = s.ovl ∧
      (s.stabPower p).supply = s.supply ∧ (s.stabPower p).clock = s.clock ∧ (s.stabPower p).pending = s.pending := by
  simp only [State.stabPower]
  simp

@[simp] theorem State.stabZoom_frame (b : Bool) (s : State) :
    (s.stabZoom b).pins = s.pins ∧ (s.stabZoom b).controls = s.controls ∧ (s.stabZoom b).conv = s.conv ∧
      (s.stabZoom b).lens = s.lens ∧ (s.stabZoom b).tc = s.tc ∧ (s.stabZoom b).recorder = s.recorder ∧
      (s.stabZoom b).log = s.log ∧ (s.stabZoom b).audio = s.audio ∧ (s.stabZoom b).ovl = s.ovl ∧
      (s.stabZoom b).supply = s.supply ∧ (s.stabZoom b).clock = s.clock ∧ (s.stabZoom b).pending = s.pending := by
  simp only [State.stabZoom]
  simp

@[simp] theorem State.stabGyro_frame (b : Bool) (s : State) :
    (s.stabGyro b).pins = s.pins ∧ (s.stabGyro b).controls = s.controls ∧ (s.stabGyro b).conv = s.conv ∧
      (s.stabGyro b).lens = s.lens ∧ (s.stabGyro b).tc = s.tc ∧ (s.stabGyro b).recorder = s.recorder ∧
      (s.stabGyro b).log = s.log ∧ (s.stabGyro b).audio = s.audio ∧ (s.stabGyro b).ovl = s.ovl ∧
      (s.stabGyro b).supply = s.supply ∧ (s.stabGyro b).clock = s.clock ∧ (s.stabGyro b).pending = s.pending := by
  simp only [State.stabGyro]
  simp

@[simp] theorem State.stabFault_frame (r : StabReason) (s : State) :
    (s.stabFault r).pins = s.pins ∧ (s.stabFault r).controls = s.controls ∧ (s.stabFault r).conv = s.conv ∧
      (s.stabFault r).lens = s.lens ∧ (s.stabFault r).tc = s.tc ∧ (s.stabFault r).recorder = s.recorder ∧
      (s.stabFault r).log = s.log ∧ (s.stabFault r).audio = s.audio ∧ (s.stabFault r).supply = s.supply ∧
      (s.stabFault r).clock = s.clock ∧ (s.stabFault r).pending = s.pending := by
  simp only [State.stabFault]
  simp

@[simp] theorem State.stabClear_frame (s : State) :
    s.stabClear.pins = s.pins ∧ s.stabClear.controls = s.controls ∧ s.stabClear.conv = s.conv ∧ s.stabClear.lens = s.lens ∧
      s.stabClear.tc = s.tc ∧ s.stabClear.recorder = s.recorder ∧ s.stabClear.log = s.log ∧ s.stabClear.audio = s.audio ∧
      s.stabClear.supply = s.supply ∧ s.stabClear.clock = s.clock ∧ s.stabClear.pending = s.pending := by
  simp only [State.stabClear]
  simp

@[simp] theorem State.stabSetting_frame (b : Bool) (s : State) :
    (s.stabSetting b).pins = s.pins ∧ (s.stabSetting b).controls = s.controls ∧ (s.stabSetting b).conv = s.conv ∧
      (s.stabSetting b).lens = s.lens ∧ (s.stabSetting b).tc = s.tc ∧ (s.stabSetting b).recorder = s.recorder ∧
      (s.stabSetting b).log = s.log ∧ (s.stabSetting b).audio = s.audio ∧ (s.stabSetting b).supply = s.supply ∧
      (s.stabSetting b).clock = s.clock ∧ (s.stabSetting b).pending = s.pending := by
  simp only [State.stabSetting]
  (repeat' split) <;> simp

@[simp] theorem State.stabToggle_frame (s : State) :
    s.stabToggle.pins = s.pins ∧ s.stabToggle.controls = s.controls ∧ s.stabToggle.conv = s.conv ∧ s.stabToggle.lens = s.lens ∧
      s.stabToggle.tc = s.tc ∧ s.stabToggle.recorder = s.recorder ∧ s.stabToggle.log = s.log ∧ s.stabToggle.audio = s.audio ∧
      s.stabToggle.supply = s.supply ∧ s.stabToggle.clock = s.clock ∧ s.stabToggle.pending = s.pending := by
  simp only [State.stabToggle]
  simp

@[simp] theorem State.takePair_frame (x : ResultRec × ResultRec) (s : State) :
    (s.takePair x).pins = s.pins ∧ (s.takePair x).controls = s.controls ∧ (s.takePair x).conv = s.conv ∧
      (s.takePair x).lens = s.lens ∧ (s.takePair x).tc = s.tc ∧ (s.takePair x).recorder = s.recorder ∧
      (s.takePair x).log = s.log ∧ (s.takePair x).audio = s.audio ∧ (s.takePair x).ovl = s.ovl ∧
      (s.takePair x).supply = s.supply ∧ (s.takePair x).clock = s.clock ∧ (s.takePair x).pending = s.pending := by
  simp only [State.takePair]
  simp

@[simp] theorem State.activeSample_frame (sub : SubState) (s : State) :
    (s.activeSample sub).pins = s.pins ∧ (s.activeSample sub).controls = s.controls ∧ (s.activeSample sub).conv = s.conv ∧
      (s.activeSample sub).lens = s.lens ∧ (s.activeSample sub).tc = s.tc ∧ (s.activeSample sub).recorder = s.recorder ∧
      (s.activeSample sub).log = s.log ∧ (s.activeSample sub).audio = s.audio ∧ (s.activeSample sub).supply = s.supply ∧
      (s.activeSample sub).clock = s.clock ∧ (s.activeSample sub).pending = s.pending := by
  simp only [State.activeSample]
  (repeat' split) <;> simp

@[simp] theorem State.missedSample_frame (s : State) :
    s.missedSample.pins = s.pins ∧ s.missedSample.controls = s.controls ∧ s.missedSample.conv = s.conv ∧
      s.missedSample.lens = s.lens ∧ s.missedSample.tc = s.tc ∧ s.missedSample.recorder = s.recorder ∧
      s.missedSample.log = s.log ∧ s.missedSample.audio = s.audio ∧ s.missedSample.supply = s.supply ∧
      s.missedSample.clock = s.clock ∧ s.missedSample.pending = s.pending := by
  simp only [State.missedSample]
  (repeat' split) <;> simp

@[simp] theorem State.sample_frame (s : State) :
    s.sample.pins = s.pins ∧ s.sample.controls = s.controls ∧ s.sample.conv = s.conv ∧ s.sample.lens = s.lens ∧
      s.sample.tc = s.tc ∧ s.sample.recorder = s.recorder ∧ s.sample.log = s.log ∧ s.sample.audio = s.audio ∧
      s.sample.supply = s.supply ∧ s.sample.clock = s.clock ∧ s.sample.pending = s.pending := by
  simp only [State.sample]
  (repeat' split) <;> simp

@[simp] theorem State.motionDone_frame (ax : Axis) (o : MotionOutcome) (s : State) :
    (s.motionDone ax o).pins = s.pins ∧ (s.motionDone ax o).controls = s.controls ∧ (s.motionDone ax o).conv = s.conv ∧
      (s.motionDone ax o).lens = s.lens ∧ (s.motionDone ax o).stab = s.stab ∧ (s.motionDone ax o).tc = s.tc ∧
      (s.motionDone ax o).recorder = s.recorder ∧ (s.motionDone ax o).log = s.log ∧ (s.motionDone ax o).audio = s.audio ∧
      (s.motionDone ax o).ovl = s.ovl ∧ (s.motionDone ax o).supply = s.supply ∧ (s.motionDone ax o).clock = s.clock ∧
      (s.motionDone ax o).pending = s.pending := by
  simp only [State.motionDone]
  (repeat' split) <;> simp

@[simp] theorem State.endHold_frame (ax : Axis) (o : MotionOutcome) (s : State) :
    (s.endHold ax o).pins = s.pins ∧ (s.endHold ax o).controls = s.controls ∧ (s.endHold ax o).conv = s.conv ∧
      (s.endHold ax o).stab = s.stab ∧ (s.endHold ax o).tc = s.tc ∧ (s.endHold ax o).recorder = s.recorder ∧
      (s.endHold ax o).log = s.log ∧ (s.endHold ax o).audio = s.audio ∧ (s.endHold ax o).ovl = s.ovl ∧
      (s.endHold ax o).supply = s.supply ∧ (s.endHold ax o).clock = s.clock ∧ (s.endHold ax o).pending = s.pending := by
  simp only [State.endHold]
  simp

@[simp] theorem State.beginHoming_frame (ax : Axis) (s : State) :
    (s.beginHoming ax).pins = s.pins ∧ (s.beginHoming ax).controls = s.controls ∧ (s.beginHoming ax).conv = s.conv ∧
      (s.beginHoming ax).tc = s.tc ∧ (s.beginHoming ax).recorder = s.recorder ∧ (s.beginHoming ax).log = s.log ∧
      (s.beginHoming ax).audio = s.audio ∧ (s.beginHoming ax).ovl = s.ovl ∧ (s.beginHoming ax).supply = s.supply ∧
      (s.beginHoming ax).clock = s.clock ∧ (s.beginHoming ax).pending = s.pending := by
  simp only [State.beginHoming]
  (repeat' split) <;> simp

@[simp] theorem State.abandonHoming_frame (ax : Axis) (r : AbandonReason) (s : State) :
    (s.abandonHoming ax r).pins = s.pins ∧ (s.abandonHoming ax r).controls = s.controls ∧ (s.abandonHoming ax r).conv = s.conv ∧
      (s.abandonHoming ax r).tc = s.tc ∧ (s.abandonHoming ax r).recorder = s.recorder ∧ (s.abandonHoming ax r).log = s.log ∧
      (s.abandonHoming ax r).audio = s.audio ∧ (s.abandonHoming ax r).ovl = s.ovl ∧ (s.abandonHoming ax r).supply = s.supply ∧
      (s.abandonHoming ax r).clock = s.clock ∧ (s.abandonHoming ax r).pending = s.pending := by
  simp only [State.abandonHoming]
  (repeat' split) <;> simp

@[simp] theorem State.completeHoming_frame (ax : Axis) (s : State) :
    (s.completeHoming ax).pins = s.pins ∧ (s.completeHoming ax).controls = s.controls ∧ (s.completeHoming ax).conv = s.conv ∧
      (s.completeHoming ax).tc = s.tc ∧ (s.completeHoming ax).recorder = s.recorder ∧ (s.completeHoming ax).log = s.log ∧
      (s.completeHoming ax).audio = s.audio ∧ (s.completeHoming ax).supply = s.supply ∧ (s.completeHoming ax).clock = s.clock ∧
      (s.completeHoming ax).pending = s.pending := by
  simp only [State.completeHoming]
  (repeat' split) <;> simp

@[simp] theorem State.seekNearEnd_frame (ax : Axis) (s : State) :
    (s.seekNearEnd ax).pins = s.pins ∧ (s.seekNearEnd ax).controls = s.controls ∧ (s.seekNearEnd ax).conv = s.conv ∧
      (s.seekNearEnd ax).stab = s.stab ∧ (s.seekNearEnd ax).tc = s.tc ∧ (s.seekNearEnd ax).recorder = s.recorder ∧
      (s.seekNearEnd ax).log = s.log ∧ (s.seekNearEnd ax).audio = s.audio ∧ (s.seekNearEnd ax).ovl = s.ovl ∧
      (s.seekNearEnd ax).supply = s.supply ∧ (s.seekNearEnd ax).port = s.port ∧ (s.seekNearEnd ax).clock = s.clock ∧
      (s.seekNearEnd ax).pending = s.pending := by
  simp only [State.seekNearEnd]
  simp

@[simp] theorem State.seekFarEnd_frame (ax : Axis) (s : State) :
    (s.seekFarEnd ax).pins = s.pins ∧ (s.seekFarEnd ax).controls = s.controls ∧ (s.seekFarEnd ax).conv = s.conv ∧
      (s.seekFarEnd ax).tc = s.tc ∧ (s.seekFarEnd ax).recorder = s.recorder ∧ (s.seekFarEnd ax).log = s.log ∧
      (s.seekFarEnd ax).audio = s.audio ∧ (s.seekFarEnd ax).ovl = s.ovl ∧ (s.seekFarEnd ax).supply = s.supply ∧
      (s.seekFarEnd ax).clock = s.clock ∧ (s.seekFarEnd ax).pending = s.pending := by
  simp only [State.seekFarEnd]
  (repeat' split) <;> simp

@[simp] theorem State.arrive_frame (ax : Axis) (s : State) :
    (s.arrive ax).pins = s.pins ∧ (s.arrive ax).controls = s.controls ∧ (s.arrive ax).conv = s.conv ∧ (s.arrive ax).tc = s.tc ∧
      (s.arrive ax).recorder = s.recorder ∧ (s.arrive ax).log = s.log ∧ (s.arrive ax).audio = s.audio ∧
      (s.arrive ax).supply = s.supply ∧ (s.arrive ax).clock = s.clock ∧ (s.arrive ax).pending = s.pending := by
  simp only [State.arrive]
  (repeat' split) <;> simp

@[simp] theorem State.rockerClaim_frame (s : State) :
    s.rockerClaim.pins = s.pins ∧ s.rockerClaim.controls = s.controls ∧ s.rockerClaim.conv = s.conv ∧
      s.rockerClaim.stab = s.stab ∧ s.rockerClaim.tc = s.tc ∧ s.rockerClaim.recorder = s.recorder ∧ s.rockerClaim.log = s.log ∧
      s.rockerClaim.audio = s.audio ∧ s.rockerClaim.ovl = s.ovl ∧ s.rockerClaim.supply = s.supply ∧
      s.rockerClaim.clock = s.clock ∧ s.rockerClaim.pending = s.pending := by
  simp only [State.rockerClaim]
  (repeat' split) <;> simp

@[simp] theorem State.claimAt_frame (ax : Axis) (s : State) :
    (s.claimAt ax).pins = s.pins ∧ (s.claimAt ax).controls = s.controls ∧ (s.claimAt ax).conv = s.conv ∧
      (s.claimAt ax).stab = s.stab ∧ (s.claimAt ax).tc = s.tc ∧ (s.claimAt ax).recorder = s.recorder ∧
      (s.claimAt ax).log = s.log ∧ (s.claimAt ax).audio = s.audio ∧ (s.claimAt ax).ovl = s.ovl ∧
      (s.claimAt ax).supply = s.supply ∧ (s.claimAt ax).clock = s.clock ∧ (s.claimAt ax).pending = s.pending := by
  simp only [State.claimAt]
  (repeat' split) <;> simp

@[simp] theorem State.confirmStall_frame (ax : Axis) (s : State) :
    (s.confirmStall ax).pins = s.pins ∧ (s.confirmStall ax).controls = s.controls ∧ (s.confirmStall ax).conv = s.conv ∧
      (s.confirmStall ax).stab = s.stab ∧ (s.confirmStall ax).tc = s.tc ∧ (s.confirmStall ax).recorder = s.recorder ∧
      (s.confirmStall ax).log = s.log ∧ (s.confirmStall ax).audio = s.audio ∧ (s.confirmStall ax).supply = s.supply ∧
      (s.confirmStall ax).clock = s.clock ∧ (s.confirmStall ax).pending = s.pending := by
  simp only [State.confirmStall]
  simp

@[simp] theorem State.stallWatch_frame (ax : Axis) (s : State) :
    (s.stallWatch ax).pins = s.pins ∧ (s.stallWatch ax).controls = s.controls ∧ (s.stallWatch ax).conv = s.conv ∧
      (s.stallWatch ax).stab = s.stab ∧ (s.stallWatch ax).tc = s.tc ∧ (s.stallWatch ax).recorder = s.recorder ∧
      (s.stallWatch ax).log = s.log ∧ (s.stallWatch ax).audio = s.audio ∧ (s.stallWatch ax).supply = s.supply ∧
      (s.stallWatch ax).clock = s.clock ∧ (s.stallWatch ax).pending = s.pending := by
  simp only [State.stallWatch]
  (repeat' split) <;> simp

@[simp] theorem State.controlSpeed_frame (ax : Axis) (v : Int) (s : State) :
    (s.controlSpeed ax v).pins = s.pins ∧ (s.controlSpeed ax v).controls = s.controls ∧ (s.controlSpeed ax v).conv = s.conv ∧
      (s.controlSpeed ax v).stab = s.stab ∧ (s.controlSpeed ax v).tc = s.tc ∧ (s.controlSpeed ax v).recorder = s.recorder ∧
      (s.controlSpeed ax v).log = s.log ∧ (s.controlSpeed ax v).audio = s.audio ∧ (s.controlSpeed ax v).supply = s.supply ∧
      (s.controlSpeed ax v).clock = s.clock ∧ (s.controlSpeed ax v).pending = s.pending := by
  simp only [State.controlSpeed]
  simp

@[simp] theorem State.controlEvent_frame (ax : Axis) (s : State) :
    (s.controlEvent ax).pins = s.pins ∧ (s.controlEvent ax).controls = s.controls ∧ (s.controlEvent ax).conv = s.conv ∧
      (s.controlEvent ax).tc = s.tc ∧ (s.controlEvent ax).recorder = s.recorder ∧ (s.controlEvent ax).log = s.log ∧
      (s.controlEvent ax).audio = s.audio ∧ (s.controlEvent ax).supply = s.supply ∧ (s.controlEvent ax).clock = s.clock ∧
      (s.controlEvent ax).pending = s.pending := by
  simp only [State.controlEvent]
  (repeat' split) <;> simp

@[simp] theorem State.controlTimer_frame (ax : Axis) (s : State) :
    (s.controlTimer ax).pins = s.pins ∧ (s.controlTimer ax).controls = s.controls ∧ (s.controlTimer ax).conv = s.conv ∧
      (s.controlTimer ax).tc = s.tc ∧ (s.controlTimer ax).recorder = s.recorder ∧ (s.controlTimer ax).log = s.log ∧
      (s.controlTimer ax).audio = s.audio ∧ (s.controlTimer ax).supply = s.supply ∧ (s.controlTimer ax).pending = s.pending := by
  simp only [State.controlTimer]
  (repeat' split) <;> simp

@[simp] theorem State.startOverride_frame (s : State) :
    s.startOverride.pins = s.pins ∧ s.startOverride.controls = s.controls ∧ s.startOverride.conv = s.conv ∧
      s.startOverride.stab = s.stab ∧ s.startOverride.tc = s.tc ∧ s.startOverride.recorder = s.recorder ∧
      s.startOverride.log = s.log ∧ s.startOverride.audio = s.audio ∧ s.startOverride.ovl = s.ovl ∧
      s.startOverride.supply = s.supply ∧ s.startOverride.port = s.port ∧ s.startOverride.clock = s.clock ∧
      s.startOverride.pending = s.pending := by
  simp only [State.startOverride]
  (repeat' split) <;> simp

@[simp] theorem State.ringDetent_frame (up : Bool) (s : State) :
    (s.ringDetent up).pins = s.pins ∧ (s.ringDetent up).controls = s.controls ∧ (s.ringDetent up).conv = s.conv ∧
      (s.ringDetent up).stab = s.stab ∧ (s.ringDetent up).tc = s.tc ∧ (s.ringDetent up).recorder = s.recorder ∧
      (s.ringDetent up).log = s.log ∧ (s.ringDetent up).audio = s.audio ∧ (s.ringDetent up).ovl = s.ovl ∧
      (s.ringDetent up).supply = s.supply ∧ (s.ringDetent up).clock = s.clock ∧ (s.ringDetent up).pending = s.pending := by
  simp only [State.ringDetent]
  (repeat' split) <;> simp

@[simp] theorem State.panelStore_frame (n : Fin 8) (s : State) :
    (s.panelStore n).pins = s.pins ∧ (s.panelStore n).conv = s.conv ∧ (s.panelStore n).stab = s.stab ∧
      (s.panelStore n).tc = s.tc ∧ (s.panelStore n).recorder = s.recorder ∧ (s.panelStore n).log = s.log ∧
      (s.panelStore n).audio = s.audio ∧ (s.panelStore n).ovl = s.ovl ∧ (s.panelStore n).supply = s.supply ∧
      (s.panelStore n).port = s.port ∧ (s.panelStore n).clock = s.clock ∧ (s.panelStore n).pending = s.pending := by
  simp only [State.panelStore]
  (repeat' split) <;> simp

@[simp] theorem State.recall_frame (o : Owner) (n : Fin 8) (s : State) :
    (s.recall o n).pins = s.pins ∧ (s.recall o n).controls = s.controls ∧ (s.recall o n).conv = s.conv ∧
      (s.recall o n).stab = s.stab ∧ (s.recall o n).tc = s.tc ∧ (s.recall o n).recorder = s.recorder ∧
      (s.recall o n).log = s.log ∧ (s.recall o n).audio = s.audio ∧ (s.recall o n).ovl = s.ovl ∧
      (s.recall o n).supply = s.supply ∧ (s.recall o n).clock = s.clock ∧ (s.recall o n).pending = s.pending := by
  simp only [State.recall]
  simp

@[simp] theorem State.panelRecall_frame (n : Fin 8) (s : State) :
    (s.panelRecall n).pins = s.pins ∧ (s.panelRecall n).conv = s.conv ∧ (s.panelRecall n).stab = s.stab ∧
      (s.panelRecall n).tc = s.tc ∧ (s.panelRecall n).recorder = s.recorder ∧ (s.panelRecall n).log = s.log ∧
      (s.panelRecall n).audio = s.audio ∧ (s.panelRecall n).ovl = s.ovl ∧ (s.panelRecall n).supply = s.supply ∧
      (s.panelRecall n).clock = s.clock ∧ (s.panelRecall n).pending = s.pending := by
  simp only [State.panelRecall]
  (repeat' split) <;> simp

@[simp] theorem State.setFocusMode_frame (m : FocusMode) (s : State) :
    (s.setFocusMode m).pins = s.pins ∧ (s.setFocusMode m).controls = s.controls ∧ (s.setFocusMode m).conv = s.conv ∧
      (s.setFocusMode m).stab = s.stab ∧ (s.setFocusMode m).tc = s.tc ∧ (s.setFocusMode m).recorder = s.recorder ∧
      (s.setFocusMode m).log = s.log ∧ (s.setFocusMode m).audio = s.audio ∧ (s.setFocusMode m).ovl = s.ovl ∧
      (s.setFocusMode m).supply = s.supply ∧ (s.setFocusMode m).clock = s.clock ∧ (s.setFocusMode m).pending = s.pending := by
  simp only [State.setFocusMode]
  (repeat' split) <;> simp

@[simp] theorem State.focusToggle_frame (s : State) :
    s.focusToggle.pins = s.pins ∧ s.focusToggle.controls = s.controls ∧ s.focusToggle.conv = s.conv ∧
      s.focusToggle.stab = s.stab ∧ s.focusToggle.tc = s.tc ∧ s.focusToggle.recorder = s.recorder ∧ s.focusToggle.log = s.log ∧
      s.focusToggle.audio = s.audio ∧ s.focusToggle.ovl = s.ovl ∧ s.focusToggle.supply = s.supply ∧
      s.focusToggle.clock = s.clock ∧ s.focusToggle.pending = s.pending := by
  simp only [State.focusToggle]
  (repeat' split) <;> simp

@[simp] theorem State.driveElapsed_frame (s : State) :
    s.driveElapsed.pins = s.pins ∧ s.driveElapsed.controls = s.controls ∧ s.driveElapsed.conv = s.conv ∧
      s.driveElapsed.stab = s.stab ∧ s.driveElapsed.tc = s.tc ∧ s.driveElapsed.recorder = s.recorder ∧
      s.driveElapsed.log = s.log ∧ s.driveElapsed.audio = s.audio ∧ s.driveElapsed.ovl = s.ovl ∧
      s.driveElapsed.supply = s.supply ∧ s.driveElapsed.clock = s.clock ∧ s.driveElapsed.pending = s.pending := by
  simp only [State.driveElapsed]
  simp

@[simp] theorem State.lensStop_frame (ax : Axis) (s : State) :
    (s.lensStop ax).pins = s.pins ∧ (s.lensStop ax).controls = s.controls ∧ (s.lensStop ax).conv = s.conv ∧
      (s.lensStop ax).tc = s.tc ∧ (s.lensStop ax).recorder = s.recorder ∧ (s.lensStop ax).log = s.log ∧
      (s.lensStop ax).audio = s.audio ∧ (s.lensStop ax).ovl = s.ovl ∧ (s.lensStop ax).supply = s.supply ∧
      (s.lensStop ax).clock = s.clock ∧ (s.lensStop ax).pending = s.pending := by
  simp only [State.lensStop]
  (repeat' split) <;> simp

@[simp] theorem State.blockRocker_frame (ax : Axis) (s : State) :
    (s.blockRocker ax).pins = s.pins ∧ (s.blockRocker ax).controls = s.controls ∧ (s.blockRocker ax).conv = s.conv ∧
      (s.blockRocker ax).stab = s.stab ∧ (s.blockRocker ax).tc = s.tc ∧ (s.blockRocker ax).recorder = s.recorder ∧
      (s.blockRocker ax).log = s.log ∧ (s.blockRocker ax).audio = s.audio ∧ (s.blockRocker ax).ovl = s.ovl ∧
      (s.blockRocker ax).supply = s.supply ∧ (s.blockRocker ax).port = s.port ∧ (s.blockRocker ax).clock = s.clock ∧
      (s.blockRocker ax).pending = s.pending := by
  simp only [State.blockRocker]
  (repeat' split) <;> simp

@[simp] theorem State.haltAxis_frame (ax : Axis) (r : AbandonReason) (s : State) :
    (s.haltAxis ax r).pins = s.pins ∧ (s.haltAxis ax r).controls = s.controls ∧ (s.haltAxis ax r).conv = s.conv ∧
      (s.haltAxis ax r).tc = s.tc ∧ (s.haltAxis ax r).recorder = s.recorder ∧ (s.haltAxis ax r).log = s.log ∧
      (s.haltAxis ax r).audio = s.audio ∧ (s.haltAxis ax r).ovl = s.ovl ∧ (s.haltAxis ax r).supply = s.supply ∧
      (s.haltAxis ax r).clock = s.clock ∧ (s.haltAxis ax r).pending = s.pending := by
  simp only [State.haltAxis]
  (repeat' split) <;> simp

@[simp] theorem State.haltLens_frame (r : AbandonReason) (s : State) :
    (s.haltLens r).pins = s.pins ∧ (s.haltLens r).controls = s.controls ∧ (s.haltLens r).conv = s.conv ∧
      (s.haltLens r).tc = s.tc ∧ (s.haltLens r).recorder = s.recorder ∧ (s.haltLens r).log = s.log ∧
      (s.haltLens r).audio = s.audio ∧ (s.haltLens r).ovl = s.ovl ∧ (s.haltLens r).supply = s.supply ∧
      (s.haltLens r).clock = s.clock ∧ (s.haltLens r).pending = s.pending := by
  simp only [State.haltLens]
  simp

@[simp] theorem State.panelMark_frame (s : State) :
    s.panelMark.pins = s.pins ∧ s.panelMark.conv = s.conv ∧ s.panelMark.lens = s.lens ∧ s.panelMark.stab = s.stab ∧
      s.panelMark.tc = s.tc ∧ s.panelMark.recorder = s.recorder ∧ s.panelMark.audio = s.audio ∧ s.panelMark.ovl = s.ovl ∧
      s.panelMark.supply = s.supply ∧ s.panelMark.clock = s.clock ∧ s.panelMark.pending = s.pending := by
  simp only [State.panelMark]
  (repeat' split) <;> simp

@[simp] theorem State.goodShot_frame (s : State) :
    s.goodShot.pins = s.pins ∧ s.goodShot.conv = s.conv ∧ s.goodShot.lens = s.lens ∧ s.goodShot.stab = s.stab ∧
      s.goodShot.tc = s.tc ∧ s.goodShot.recorder = s.recorder ∧ s.goodShot.audio = s.audio ∧ s.goodShot.ovl = s.ovl ∧
      s.goodShot.supply = s.supply ∧ s.goodShot.clock = s.clock ∧ s.goodShot.pending = s.pending := by
  simp only [State.goodShot]
  (repeat' split) <;> simp

@[simp] theorem State.setMediaLow_frame (b : Bool) (s : State) :
    (s.setMediaLow b).pins = s.pins ∧ (s.setMediaLow b).controls = s.controls ∧ (s.setMediaLow b).conv = s.conv ∧
      (s.setMediaLow b).lens = s.lens ∧ (s.setMediaLow b).stab = s.stab ∧ (s.setMediaLow b).tc = s.tc ∧
      (s.setMediaLow b).log = s.log ∧ (s.setMediaLow b).audio = s.audio ∧ (s.setMediaLow b).supply = s.supply ∧
      (s.setMediaLow b).port = s.port ∧ (s.setMediaLow b).clock = s.clock ∧ (s.setMediaLow b).pending = s.pending := by
  simp only [State.setMediaLow]
  (repeat' split) <;> simp

@[simp] theorem State.testTimeLeft_frame (s : State) :
    s.testTimeLeft.pins = s.pins ∧ s.testTimeLeft.controls = s.controls ∧ s.testTimeLeft.conv = s.conv ∧
      s.testTimeLeft.lens = s.lens ∧ s.testTimeLeft.stab = s.stab ∧ s.testTimeLeft.tc = s.tc ∧ s.testTimeLeft.log = s.log ∧
      s.testTimeLeft.audio = s.audio ∧ s.testTimeLeft.supply = s.supply ∧ s.testTimeLeft.port = s.port ∧
      s.testTimeLeft.clock = s.clock ∧ s.testTimeLeft.pending = s.pending := by
  simp only [State.testTimeLeft]
  simp

@[simp] theorem State.testWarnings_frame (s : State) :
    s.testWarnings.pins = s.pins ∧ s.testWarnings.controls = s.controls ∧ s.testWarnings.conv = s.conv ∧
      s.testWarnings.lens = s.lens ∧ s.testWarnings.stab = s.stab ∧ s.testWarnings.tc = s.tc ∧
      s.testWarnings.recorder = s.recorder ∧ s.testWarnings.log = s.log ∧ s.testWarnings.audio = s.audio ∧
      s.testWarnings.supply = s.supply ∧ s.testWarnings.port = s.port ∧ s.testWarnings.clock = s.clock ∧
      s.testWarnings.pending = s.pending := by
  simp only [State.testWarnings]
  simp

@[simp] theorem State.testSlots_frame (s : State) :
    s.testSlots.pins = s.pins ∧ s.testSlots.controls = s.controls ∧ s.testSlots.conv = s.conv ∧ s.testSlots.lens = s.lens ∧
      s.testSlots.stab = s.stab ∧ s.testSlots.tc = s.tc ∧ s.testSlots.log = s.log ∧ s.testSlots.audio = s.audio ∧
      s.testSlots.supply = s.supply ∧ s.testSlots.port = s.port ∧ s.testSlots.clock = s.clock ∧
          s.testSlots.pending = s.pending := by
  simp only [State.testSlots]
  (repeat' split) <;> simp

@[simp] theorem State.failStart_frame (r : FailReason) (s : State) :
    (s.failStart r).pins = s.pins ∧ (s.failStart r).conv = s.conv ∧ (s.failStart r).lens = s.lens ∧
      (s.failStart r).stab = s.stab ∧ (s.failStart r).log = s.log ∧ (s.failStart r).audio = s.audio ∧
      (s.failStart r).clock = s.clock ∧ (s.failStart r).pending = s.pending := by
  simp only [State.failStart]
  simp

@[simp] theorem State.stopRecording_frame (r : EndReason) (s : State) :
    (s.stopRecording r).pins = s.pins ∧ (s.stopRecording r).conv = s.conv ∧ (s.stopRecording r).lens = s.lens ∧
      (s.stopRecording r).stab = s.stab ∧ (s.stopRecording r).log = s.log ∧ (s.stopRecording r).audio = s.audio ∧
      (s.stopRecording r).clock = s.clock ∧ (s.stopRecording r).pending = s.pending := by
  simp only [State.stopRecording]
  simp

@[simp] theorem State.reformStart_frame (r : FailReason) (s : State) :
    (s.reformStart r).pins = s.pins ∧ (s.reformStart r).conv = s.conv ∧ (s.reformStart r).lens = s.lens ∧
      (s.reformStart r).stab = s.stab ∧ (s.reformStart r).log = s.log ∧ (s.reformStart r).audio = s.audio ∧
      (s.reformStart r).clock = s.clock ∧ (s.reformStart r).pending = s.pending := by
  simp only [State.reformStart]
  (repeat' split) <;> simp

@[simp] theorem State.loseActive_frame (sl : Slot) (o : SegOutcome) (r : EndReason) (s : State) :
    (s.loseActive sl o r).pins = s.pins ∧ (s.loseActive sl o r).conv = s.conv ∧ (s.loseActive sl o r).lens = s.lens ∧
      (s.loseActive sl o r).stab = s.stab ∧ (s.loseActive sl o r).audio = s.audio ∧ (s.loseActive sl o r).clock = s.clock ∧
      (s.loseActive sl o r).pending = s.pending := by
  simp only [State.loseActive]
  (repeat' split) <;> simp

@[simp] theorem State.insertCard_frame (sl : Slot) (s : State) :
    (s.insertCard sl).pins = s.pins ∧ (s.insertCard sl).controls = s.controls ∧ (s.insertCard sl).conv = s.conv ∧
      (s.insertCard sl).lens = s.lens ∧ (s.insertCard sl).stab = s.stab ∧ (s.insertCard sl).tc = s.tc ∧
      (s.insertCard sl).log = s.log ∧ (s.insertCard sl).audio = s.audio ∧ (s.insertCard sl).supply = s.supply ∧
      (s.insertCard sl).clock = s.clock ∧ (s.insertCard sl).pending = s.pending := by
  simp only [State.insertCard]
  (repeat' split) <;> simp

@[simp] theorem State.removeCard_frame (sl : Slot) (s : State) :
    (s.removeCard sl).pins = s.pins ∧ (s.removeCard sl).conv = s.conv ∧ (s.removeCard sl).lens = s.lens ∧
      (s.removeCard sl).stab = s.stab ∧ (s.removeCard sl).audio = s.audio ∧ (s.removeCard sl).clock = s.clock ∧
      (s.removeCard sl).pending = s.pending := by
  simp only [State.removeCard]
  (repeat' split) <;> simp

@[simp] theorem State.protectCard_frame (sl : Slot) (on : Bool) (s : State) :
    (s.protectCard sl on).pins = s.pins ∧ (s.protectCard sl on).conv = s.conv ∧ (s.protectCard sl on).lens = s.lens ∧
      (s.protectCard sl on).stab = s.stab ∧ (s.protectCard sl on).log = s.log ∧ (s.protectCard sl on).audio = s.audio ∧
      (s.protectCard sl on).clock = s.clock ∧ (s.protectCard sl on).pending = s.pending := by
  simp only [State.protectCard]
  (repeat' split) <;> simp

@[simp] theorem State.acceptLine_frame (sl : Slot) (line : CardLine) (s : State) :
    (s.acceptLine sl line).pins = s.pins ∧ (s.acceptLine sl line).conv = s.conv ∧ (s.acceptLine sl line).lens = s.lens ∧
      (s.acceptLine sl line).stab = s.stab ∧ (s.acceptLine sl line).audio = s.audio ∧ (s.acceptLine sl line).clock = s.clock ∧
      (s.acceptLine sl line).pending = s.pending := by
  simp only [State.acceptLine]
  (repeat' split) <;> simp

@[simp] theorem State.acceptStart_frame (s : State) :
    s.acceptStart.pins = s.pins ∧ s.acceptStart.controls = s.controls ∧ s.acceptStart.conv = s.conv ∧
      s.acceptStart.lens = s.lens ∧ s.acceptStart.stab = s.stab ∧ s.acceptStart.log = s.log ∧ s.acceptStart.audio = s.audio ∧
      s.acceptStart.ovl = s.ovl ∧ s.acceptStart.clock = s.clock ∧ s.acceptStart.pending = s.pending := by
  simp only [State.acceptStart]
  simp

@[simp] theorem State.beginClip_frame (n : Nat) (s : State) :
    (s.beginClip n).pins = s.pins ∧ (s.beginClip n).conv = s.conv ∧ (s.beginClip n).lens = s.lens ∧
      (s.beginClip n).stab = s.stab ∧ (s.beginClip n).audio = s.audio ∧ (s.beginClip n).port = s.port ∧
      (s.beginClip n).clock = s.clock ∧ (s.beginClip n).pending = s.pending := by
  simp only [State.beginClip]
  simp

@[simp] theorem State.recToggle_frame (s : State) :
    s.recToggle.pins = s.pins ∧ s.recToggle.conv = s.conv ∧ s.recToggle.lens = s.lens ∧ s.recToggle.stab = s.stab ∧
      s.recToggle.log = s.log ∧ s.recToggle.audio = s.audio ∧ s.recToggle.clock = s.clock ∧ s.recToggle.pending = s.pending := by
  simp only [State.recToggle]
  (repeat' split) <;> simp

@[simp] theorem State.closeSlot_frame (sl : Slot) (o : CloseOutcome) (s : State) :
    (s.closeSlot sl o).pins = s.pins ∧ (s.closeSlot sl o).controls = s.controls ∧ (s.closeSlot sl o).conv = s.conv ∧
      (s.closeSlot sl o).lens = s.lens ∧ (s.closeSlot sl o).stab = s.stab ∧ (s.closeSlot sl o).tc = s.tc ∧
      (s.closeSlot sl o).audio = s.audio ∧ (s.closeSlot sl o).ovl = s.ovl ∧ (s.closeSlot sl o).supply = s.supply ∧
      (s.closeSlot sl o).port = s.port ∧ (s.closeSlot sl o).clock = s.clock ∧ (s.closeSlot sl o).pending = s.pending := by
  simp only [State.closeSlot]
  (repeat' split) <;> simp

@[simp] theorem State.abandonSlot_frame (sl : Slot) (s : State) :
    (s.abandonSlot sl).pins = s.pins ∧ (s.abandonSlot sl).controls = s.controls ∧ (s.abandonSlot sl).conv = s.conv ∧
      (s.abandonSlot sl).lens = s.lens ∧ (s.abandonSlot sl).stab = s.stab ∧ (s.abandonSlot sl).tc = s.tc ∧
      (s.abandonSlot sl).log = s.log ∧ (s.abandonSlot sl).audio = s.audio ∧ (s.abandonSlot sl).ovl = s.ovl ∧
      (s.abandonSlot sl).supply = s.supply ∧ (s.abandonSlot sl).port = s.port ∧ (s.abandonSlot sl).clock = s.clock ∧
      (s.abandonSlot sl).pending = s.pending := by
  simp only [State.abandonSlot]
  (repeat' split) <;> simp

@[simp] theorem State.endClip_frame (st : ClipState) (s : State) :
    (s.endClip st).pins = s.pins ∧ (s.endClip st).controls = s.controls ∧ (s.endClip st).conv = s.conv ∧
      (s.endClip st).lens = s.lens ∧ (s.endClip st).stab = s.stab ∧ (s.endClip st).audio = s.audio ∧
      (s.endClip st).port = s.port ∧ (s.endClip st).clock = s.clock ∧ (s.endClip st).pending = s.pending := by
  simp only [State.endClip]
  simp

@[simp] theorem State.relay_frame (sl : Slot) (s : State) :
    (s.relay sl).pins = s.pins ∧ (s.relay sl).controls = s.controls ∧ (s.relay sl).conv = s.conv ∧ (s.relay sl).lens = s.lens ∧
      (s.relay sl).stab = s.stab ∧ (s.relay sl).tc = s.tc ∧ (s.relay sl).audio = s.audio ∧ (s.relay sl).ovl = s.ovl ∧
      (s.relay sl).supply = s.supply ∧ (s.relay sl).clock = s.clock ∧ (s.relay sl).pending = s.pending := by
  simp only [State.relay]
  simp

@[simp] theorem State.relayStep_frame (s : State) :
    s.relayStep.pins = s.pins ∧ s.relayStep.controls = s.controls ∧ s.relayStep.conv = s.conv ∧ s.relayStep.lens = s.lens ∧
      s.relayStep.stab = s.stab ∧ s.relayStep.tc = s.tc ∧ s.relayStep.audio = s.audio ∧ s.relayStep.ovl = s.ovl ∧
      s.relayStep.supply = s.supply ∧ s.relayStep.clock = s.clock ∧ s.relayStep.pending = s.pending := by
  simp only [State.relayStep]
  (repeat' split) <;> simp

@[simp] theorem State.fillSlot_frame (sl : Slot) (s : State) :
    (s.fillSlot sl).pins = s.pins ∧ (s.fillSlot sl).controls = s.controls ∧ (s.fillSlot sl).conv = s.conv ∧
      (s.fillSlot sl).lens = s.lens ∧ (s.fillSlot sl).stab = s.stab ∧ (s.fillSlot sl).tc = s.tc ∧
      (s.fillSlot sl).audio = s.audio ∧ (s.fillSlot sl).ovl = s.ovl ∧ (s.fillSlot sl).supply = s.supply ∧
      (s.fillSlot sl).port = s.port ∧ (s.fillSlot sl).clock = s.clock ∧ (s.fillSlot sl).pending = s.pending := by
  simp only [State.fillSlot]
  (repeat' split) <;> simp

@[simp] theorem State.fullStep_frame (s : State) :
    s.fullStep.pins = s.pins ∧ s.fullStep.conv = s.conv ∧ s.fullStep.lens = s.lens ∧ s.fullStep.stab = s.stab ∧
      s.fullStep.audio = s.audio ∧ s.fullStep.clock = s.clock ∧ s.fullStep.pending = s.pending := by
  simp only [State.fullStep]
  (repeat' split) <;> simp

@[simp] theorem State.account_frame (s : State) :
    s.account.pins = s.pins ∧ s.account.conv = s.conv ∧ s.account.lens = s.lens ∧ s.account.stab = s.stab ∧
      s.account.audio = s.audio ∧ s.account.clock = s.clock ∧ s.account.pending = s.pending := by
  simp only [State.account]
  simp

@[simp] theorem State.recSupply_frame (st : SupplyState) (s : State) :
    (s.recSupply st).pins = s.pins ∧ (s.recSupply st).conv = s.conv ∧ (s.recSupply st).lens = s.lens ∧
      (s.recSupply st).stab = s.stab ∧ (s.recSupply st).log = s.log ∧ (s.recSupply st).audio = s.audio ∧
      (s.recSupply st).clock = s.clock ∧ (s.recSupply st).pending = s.pending := by
  simp only [State.recSupply]
  (repeat' split) <;> simp

@[simp] theorem State.recPower_frame (p : PowerState) (s : State) :
    (s.recPower p).pins = s.pins ∧ (s.recPower p).conv = s.conv ∧ (s.recPower p).lens = s.lens ∧ (s.recPower p).stab = s.stab ∧
      (s.recPower p).log = s.log ∧ (s.recPower p).audio = s.audio ∧ (s.recPower p).clock = s.clock ∧
      (s.recPower p).pending = s.pending := by
  simp only [State.recPower]
  (repeat' split) <;> simp

@[simp] theorem State.endOver_frame (ch : Channel) (s : State) :
    (s.endOver ch).pins = s.pins ∧ (s.endOver ch).controls = s.controls ∧ (s.endOver ch).conv = s.conv ∧
      (s.endOver ch).lens = s.lens ∧ (s.endOver ch).stab = s.stab ∧ (s.endOver ch).tc = s.tc ∧
      (s.endOver ch).recorder = s.recorder ∧ (s.endOver ch).ovl = s.ovl ∧ (s.endOver ch).supply = s.supply ∧
      (s.endOver ch).port = s.port ∧ (s.endOver ch).clock = s.clock ∧ (s.endOver ch).pending = s.pending := by
  simp only [State.endOver]
  (repeat' split) <;> simp

@[simp] theorem State.testOver_frame (ch : Channel) (l : Int) (s : State) :
    (s.testOver ch l).pins = s.pins ∧ (s.testOver ch l).controls = s.controls ∧ (s.testOver ch l).conv = s.conv ∧
      (s.testOver ch l).lens = s.lens ∧ (s.testOver ch l).stab = s.stab ∧ (s.testOver ch l).tc = s.tc ∧
      (s.testOver ch l).recorder = s.recorder ∧ (s.testOver ch l).supply = s.supply ∧ (s.testOver ch l).port = s.port ∧
      (s.testOver ch l).clock = s.clock ∧ (s.testOver ch l).pending = s.pending := by
  simp only [State.testOver]
  (repeat' split) <;> simp

@[simp] theorem State.freeze_frame (ch : Channel) (s : State) :
    (s.freeze ch).pins = s.pins ∧ (s.freeze ch).controls = s.controls ∧ (s.freeze ch).conv = s.conv ∧
      (s.freeze ch).lens = s.lens ∧ (s.freeze ch).stab = s.stab ∧ (s.freeze ch).tc = s.tc ∧ (s.freeze ch).recorder = s.recorder ∧
      (s.freeze ch).ovl = s.ovl ∧ (s.freeze ch).supply = s.supply ∧ (s.freeze ch).port = s.port ∧ (s.freeze ch).clock = s.clock ∧
      (s.freeze ch).pending = s.pending := by
  simp only [State.freeze]
  simp

@[simp] theorem State.workChannel_frame (ch : Channel) (b : Bool) (r : ResultRec) (s : State) :
    (s.workChannel ch b r).pins = s.pins ∧ (s.workChannel ch b r).controls = s.controls ∧ (s.workChannel ch b r).conv = s.conv ∧
      (s.workChannel ch b r).lens = s.lens ∧ (s.workChannel ch b r).stab = s.stab ∧ (s.workChannel ch b r).tc = s.tc ∧
      (s.workChannel ch b r).recorder = s.recorder ∧ (s.workChannel ch b r).supply = s.supply ∧
      (s.workChannel ch b r).port = s.port ∧ (s.workChannel ch b r).clock = s.clock ∧
          (s.workChannel ch b r).pending = s.pending := by
  simp only [State.workChannel]
  (repeat' split) <;> simp

@[simp] theorem State.takeLevels_frame (x : ResultRec × ResultRec) (s : State) :
    (s.takeLevels x).pins = s.pins ∧ (s.takeLevels x).controls = s.controls ∧ (s.takeLevels x).conv = s.conv ∧
      (s.takeLevels x).lens = s.lens ∧ (s.takeLevels x).stab = s.stab ∧ (s.takeLevels x).tc = s.tc ∧
      (s.takeLevels x).recorder = s.recorder ∧ (s.takeLevels x).supply = s.supply ∧ (s.takeLevels x).port = s.port ∧
      (s.takeLevels x).clock = s.clock ∧ (s.takeLevels x).pending = s.pending := by
  simp only [State.takeLevels]
  simp

@[simp] theorem State.level_frame (s : State) :
    s.level.pins = s.pins ∧ s.level.controls = s.controls ∧ s.level.conv = s.conv ∧ s.level.lens = s.lens ∧
      s.level.stab = s.stab ∧ s.level.tc = s.tc ∧ s.level.recorder = s.recorder ∧ s.level.supply = s.supply ∧
      s.level.port = s.port ∧ s.level.clock = s.clock ∧ s.level.pending = s.pending := by
  simp only [State.level]
  (repeat' split) <;> simp

@[simp] theorem State.knobDetent_frame (ch : Channel) (up : Bool) (s : State) :
    (s.knobDetent ch up).pins = s.pins ∧ (s.knobDetent ch up).conv = s.conv ∧ (s.knobDetent ch up).lens = s.lens ∧
      (s.knobDetent ch up).stab = s.stab ∧ (s.knobDetent ch up).tc = s.tc ∧ (s.knobDetent ch up).recorder = s.recorder ∧
      (s.knobDetent ch up).log = s.log ∧ (s.knobDetent ch up).ovl = s.ovl ∧ (s.knobDetent ch up).supply = s.supply ∧
      (s.knobDetent ch up).clock = s.clock ∧ (s.knobDetent ch up).pending = s.pending := by
  simp only [State.knobDetent]
  (repeat' split) <;> simp

@[simp] theorem State.audioAuto_frame (ch : Channel) (s : State) :
    (s.audioAuto ch).pins = s.pins ∧ (s.audioAuto ch).conv = s.conv ∧ (s.audioAuto ch).lens = s.lens ∧
      (s.audioAuto ch).stab = s.stab ∧ (s.audioAuto ch).tc = s.tc ∧ (s.audioAuto ch).recorder = s.recorder ∧
      (s.audioAuto ch).log = s.log ∧ (s.audioAuto ch).ovl = s.ovl ∧ (s.audioAuto ch).supply = s.supply ∧
      (s.audioAuto ch).clock = s.clock ∧ (s.audioAuto ch).pending = s.pending := by
  simp only [State.audioAuto]
  (repeat' split) <;> simp

@[simp] theorem State.audioPower_frame (p : PowerState) (s : State) :
    (s.audioPower p).pins = s.pins ∧ (s.audioPower p).controls = s.controls ∧ (s.audioPower p).conv = s.conv ∧
      (s.audioPower p).lens = s.lens ∧ (s.audioPower p).stab = s.stab ∧ (s.audioPower p).tc = s.tc ∧
      (s.audioPower p).recorder = s.recorder ∧ (s.audioPower p).ovl = s.ovl ∧ (s.audioPower p).supply = s.supply ∧
      (s.audioPower p).port = s.port ∧ (s.audioPower p).clock = s.clock ∧ (s.audioPower p).pending = s.pending := by
  simp only [State.audioPower]
  (repeat' split) <;> simp

@[simp] theorem State.token_frame (t : BitVec 16) (s : State) :
    (s.token t).pins = s.pins ∧ (s.token t).conv = s.conv ∧ (s.token t).lens = s.lens ∧ (s.token t).stab = s.stab ∧
      (s.token t).tc = s.tc ∧ (s.token t).recorder = s.recorder ∧ (s.token t).log = s.log ∧ (s.token t).audio = s.audio ∧
      (s.token t).supply = s.supply ∧ (s.token t).clock = s.clock ∧ (s.token t).pending = s.pending := by
  simp only [State.token]
  (repeat' split) <;> simp

@[simp] theorem State.tokenIf_frame (b : Bool) (t : BitVec 16) (s : State) :
    (s.tokenIf b t).pins = s.pins ∧ (s.tokenIf b t).conv = s.conv ∧ (s.tokenIf b t).lens = s.lens ∧
      (s.tokenIf b t).stab = s.stab ∧ (s.tokenIf b t).tc = s.tc ∧ (s.tokenIf b t).recorder = s.recorder ∧
      (s.tokenIf b t).log = s.log ∧ (s.tokenIf b t).audio = s.audio ∧ (s.tokenIf b t).supply = s.supply ∧
      (s.tokenIf b t).clock = s.clock ∧ (s.tokenIf b t).pending = s.pending := by
  simp only [State.tokenIf]
  (repeat' split) <;> simp

@[simp] theorem State.flush_frame (s : State) :
    s.flush.pins = s.pins ∧ s.flush.conv = s.conv ∧ s.flush.lens = s.lens ∧ s.flush.stab = s.stab ∧ s.flush.tc = s.tc ∧
      s.flush.recorder = s.recorder ∧ s.flush.log = s.log ∧ s.flush.audio = s.audio ∧ s.flush.ovl = s.ovl ∧
      s.flush.supply = s.supply ∧ s.flush.clock = s.clock ∧ s.flush.pending = s.pending := by
  simp only [State.flush]
  (repeat' split) <;> simp

@[simp] theorem State.pressModifiers_frame (i : Fin 24) (h : Held) (s : State) :
    (s.pressModifiers i h).pins = s.pins ∧ (s.pressModifiers i h).conv = s.conv ∧ (s.pressModifiers i h).lens = s.lens ∧
      (s.pressModifiers i h).stab = s.stab ∧ (s.pressModifiers i h).tc = s.tc ∧ (s.pressModifiers i h).recorder = s.recorder ∧
      (s.pressModifiers i h).log = s.log ∧ (s.pressModifiers i h).audio = s.audio ∧ (s.pressModifiers i h).ovl = s.ovl ∧
      (s.pressModifiers i h).supply = s.supply ∧ (s.pressModifiers i h).port = s.port ∧ (s.pressModifiers i h).clock = s.clock ∧
      (s.pressModifiers i h).pending = s.pending := by
  simp only [State.pressModifiers]
  (repeat' split) <;> simp

@[simp] theorem State.releaseModifiers_frame (i : Fin 24) (h : Held) (s : State) :
    (s.releaseModifiers i h).pins = s.pins ∧ (s.releaseModifiers i h).conv = s.conv ∧ (s.releaseModifiers i h).lens = s.lens ∧
      (s.releaseModifiers i h).stab = s.stab ∧ (s.releaseModifiers i h).tc = s.tc ∧
      (s.releaseModifiers i h).recorder = s.recorder ∧ (s.releaseModifiers i h).log = s.log ∧
      (s.releaseModifiers i h).audio = s.audio ∧ (s.releaseModifiers i h).ovl = s.ovl ∧
      (s.releaseModifiers i h).supply = s.supply ∧ (s.releaseModifiers i h).port = s.port ∧
      (s.releaseModifiers i h).clock = s.clock ∧ (s.releaseModifiers i h).pending = s.pending := by
  simp only [State.releaseModifiers]
  (repeat' split) <;> simp

@[simp] theorem State.dropHeld_frame (i : Fin 24) (s : State) :
    (s.dropHeld i).pins = s.pins ∧ (s.dropHeld i).conv = s.conv ∧ (s.dropHeld i).lens = s.lens ∧ (s.dropHeld i).stab = s.stab ∧
      (s.dropHeld i).tc = s.tc ∧ (s.dropHeld i).recorder = s.recorder ∧ (s.dropHeld i).log = s.log ∧
      (s.dropHeld i).audio = s.audio ∧ (s.dropHeld i).ovl = s.ovl ∧ (s.dropHeld i).supply = s.supply ∧
      (s.dropHeld i).port = s.port ∧ (s.dropHeld i).clock = s.clock ∧ (s.dropHeld i).pending = s.pending := by
  simp only [State.dropHeld]
  (repeat' split) <;> simp

@[simp] theorem State.setRocker_frame (k : Rocker) (s : State) :
    (s.setRocker k).pins = s.pins ∧ (s.setRocker k).conv = s.conv ∧ (s.setRocker k).stab = s.stab ∧ (s.setRocker k).tc = s.tc ∧
      (s.setRocker k).recorder = s.recorder ∧ (s.setRocker k).log = s.log ∧ (s.setRocker k).audio = s.audio ∧
      (s.setRocker k).ovl = s.ovl ∧ (s.setRocker k).supply = s.supply ∧ (s.setRocker k).port = s.port ∧
      (s.setRocker k).clock = s.clock ∧ (s.setRocker k).pending = s.pending := by
  simp only [State.setRocker]
  (repeat' split) <;> simp

@[simp] theorem State.rockerResult_frame (r : ResultRec) (s : State) :
    (s.rockerResult r).pins = s.pins ∧ (s.rockerResult r).conv = s.conv ∧ (s.rockerResult r).stab = s.stab ∧
      (s.rockerResult r).tc = s.tc ∧ (s.rockerResult r).recorder = s.recorder ∧ (s.rockerResult r).log = s.log ∧
      (s.rockerResult r).audio = s.audio ∧ (s.rockerResult r).ovl = s.ovl ∧ (s.rockerResult r).supply = s.supply ∧
      (s.rockerResult r).port = s.port ∧ (s.rockerResult r).clock = s.clock ∧ (s.rockerResult r).pending = s.pending := by
  simp only [State.rockerResult]
  (repeat' split) <;> simp

@[simp] theorem State.scannerPower_frame (o n : PowerState) (s : State) :
    (s.scannerPower o n).pins = s.pins ∧ (s.scannerPower o n).conv = s.conv ∧ (s.scannerPower o n).stab = s.stab ∧
      (s.scannerPower o n).tc = s.tc ∧ (s.scannerPower o n).recorder = s.recorder ∧ (s.scannerPower o n).log = s.log ∧
      (s.scannerPower o n).audio = s.audio ∧ (s.scannerPower o n).ovl = s.ovl ∧ (s.scannerPower o n).supply = s.supply ∧
      (s.scannerPower o n).port = s.port ∧ (s.scannerPower o n).clock = s.clock ∧ (s.scannerPower o n).pending = s.pending := by
  simp only [State.scannerPower]
  (repeat' split) <;> simp

@[simp] theorem State.lensRun_frame (o : PowerState) (s : State) :
    (s.lensRun o).pins = s.pins ∧ (s.lensRun o).controls = s.controls ∧ (s.lensRun o).conv = s.conv ∧ (s.lensRun o).tc = s.tc ∧
      (s.lensRun o).recorder = s.recorder ∧ (s.lensRun o).log = s.log ∧ (s.lensRun o).audio = s.audio ∧
      (s.lensRun o).ovl = s.ovl ∧ (s.lensRun o).supply = s.supply ∧ (s.lensRun o).clock = s.clock ∧
      (s.lensRun o).pending = s.pending := by
  simp only [State.lensRun]
  (repeat' split) <;> simp

@[simp] theorem State.lensPower_frame (o n : PowerState) (s : State) :
    (s.lensPower o n).pins = s.pins ∧ (s.lensPower o n).controls = s.controls ∧ (s.lensPower o n).conv = s.conv ∧
      (s.lensPower o n).tc = s.tc ∧ (s.lensPower o n).recorder = s.recorder ∧ (s.lensPower o n).log = s.log ∧
      (s.lensPower o n).audio = s.audio ∧ (s.lensPower o n).ovl = s.ovl ∧ (s.lensPower o n).supply = s.supply ∧
      (s.lensPower o n).clock = s.clock ∧ (s.lensPower o n).pending = s.pending := by
  simp only [State.lensPower]
  (repeat' split) <;> simp

@[simp] theorem State.timecodePower_frame (o n : PowerState) (s : State) :
    (s.timecodePower o n).pins = s.pins ∧ (s.timecodePower o n).controls = s.controls ∧ (s.timecodePower o n).conv = s.conv ∧
      (s.timecodePower o n).lens = s.lens ∧ (s.timecodePower o n).stab = s.stab ∧ (s.timecodePower o n).recorder = s.recorder ∧
      (s.timecodePower o n).log = s.log ∧ (s.timecodePower o n).audio = s.audio ∧ (s.timecodePower o n).supply = s.supply ∧
      (s.timecodePower o n).clock = s.clock ∧ (s.timecodePower o n).pending = s.pending := by
  simp only [State.timecodePower]
  (repeat' split) <;> simp

@[simp] theorem State.setPower_frame (p : PowerState) (s : State) :
    (s.setPower p).pins = s.pins ∧ (s.setPower p).conv = s.conv ∧ (s.setPower p).clock = s.clock ∧
      (s.setPower p).pending = s.pending := by
  simp only [State.setPower]
  simp

@[simp] theorem State.beginShutdown_frame (r : ShutdownReason) (s : State) :
    (s.beginShutdown r).pins = s.pins ∧ (s.beginShutdown r).conv = s.conv ∧ (s.beginShutdown r).clock = s.clock ∧
      (s.beginShutdown r).pending = s.pending := by
  simp only [State.beginShutdown]
  (repeat' split) <;> simp

@[simp] theorem State.supplyWarnings_frame (st : SupplyState) (s : State) :
    (s.supplyWarnings st).pins = s.pins ∧ (s.supplyWarnings st).controls = s.controls ∧ (s.supplyWarnings st).conv = s.conv ∧
      (s.supplyWarnings st).lens = s.lens ∧ (s.supplyWarnings st).stab = s.stab ∧ (s.supplyWarnings st).tc = s.tc ∧
      (s.supplyWarnings st).recorder = s.recorder ∧ (s.supplyWarnings st).log = s.log ∧ (s.supplyWarnings st).audio = s.audio ∧
      (s.supplyWarnings st).supply = s.supply ∧ (s.supplyWarnings st).port = s.port ∧ (s.supplyWarnings st).clock = s.clock ∧
      (s.supplyWarnings st).pending = s.pending := by
  simp only [State.supplyWarnings]
  simp

@[simp] theorem State.supplyChanged_frame (o n : SupplyState) (s : State) :
    (s.supplyChanged o n).pins = s.pins ∧ (s.supplyChanged o n).conv = s.conv ∧ (s.supplyChanged o n).clock = s.clock ∧
      (s.supplyChanged o n).pending = s.pending := by
  simp only [State.supplyChanged]
  (repeat' split) <;> simp

@[simp] theorem State.supplyState_frame (s : State) :
    s.supplyState.pins = s.pins ∧ s.supplyState.conv = s.conv ∧ s.supplyState.clock = s.clock ∧
        s.supplyState.pending = s.pending := by
  simp only [State.supplyState]
  (repeat' split) <;> simp

@[simp] theorem State.supplySample_frame (b d : ResultRec) (s : State) :
    (s.supplySample b d).pins = s.pins ∧ (s.supplySample b d).conv = s.conv ∧ (s.supplySample b d).clock = s.clock ∧
      (s.supplySample b d).pending = s.pending := by
  simp only [State.supplySample]
  (repeat' split) <;> simp

@[simp] theorem State.deliver_frame (g : Group) (made : List ResultRec) (s : State) :
    (s.deliver g made).pins = s.pins ∧ (s.deliver g made).clock = s.clock ∧ (s.deliver g made).pending = s.pending := by
  simp only [State.deliver]
  (repeat' split) <;> simp

@[simp] theorem State.miss_frame (g : Group) (s : State) :
    (s.miss g).pins = s.pins ∧ (s.miss g).conv = s.conv ∧ (s.miss g).lens = s.lens ∧ (s.miss g).tc = s.tc ∧
      (s.miss g).recorder = s.recorder ∧ (s.miss g).log = s.log ∧ (s.miss g).ovl = s.ovl ∧ (s.miss g).port = s.port ∧
      (s.miss g).clock = s.clock ∧ (s.miss g).pending = s.pending := by
  simp only [State.miss]
  (repeat' split) <;> simp

@[simp] theorem State.beginCalibration_frame (s : State) :
    s.beginCalibration.pins = s.pins ∧ s.beginCalibration.controls = s.controls ∧ s.beginCalibration.lens = s.lens ∧
      s.beginCalibration.stab = s.stab ∧ s.beginCalibration.tc = s.tc ∧ s.beginCalibration.recorder = s.recorder ∧
      s.beginCalibration.log = s.log ∧ s.beginCalibration.audio = s.audio ∧ s.beginCalibration.ovl = s.ovl ∧
      s.beginCalibration.supply = s.supply ∧ s.beginCalibration.clock = s.clock ∧ s.beginCalibration.pending = s.pending := by
  simp only [State.beginCalibration]
  simp

@[simp] theorem State.callCalibration_frame (s : State) :
    s.callCalibration.pins = s.pins ∧ s.callCalibration.controls = s.controls ∧ s.callCalibration.lens = s.lens ∧
      s.callCalibration.stab = s.stab ∧ s.callCalibration.tc = s.tc ∧ s.callCalibration.recorder = s.recorder ∧
      s.callCalibration.log = s.log ∧ s.callCalibration.audio = s.audio ∧ s.callCalibration.ovl = s.ovl ∧
      s.callCalibration.supply = s.supply ∧ s.callCalibration.clock = s.clock ∧ s.callCalibration.pending = s.pending := by
  simp only [State.callCalibration]
  (repeat' split) <;> simp

@[simp] theorem State.becomeFree_frame (fuel : Nat) (s : State) :
    (s.becomeFree fuel).pins = s.pins ∧ (s.becomeFree fuel).clock = s.clock ∧ (s.becomeFree fuel).pending = s.pending := by
  induction fuel generalizing s with
  | zero => exact ⟨rfl, rfl, rfl⟩
  | succ n ih =>
    simp only [State.becomeFree]
    (repeat' split) <;> simp [ih]

@[simp] theorem State.askConverter_frame (g : Group) (s : State) :
    (s.askConverter g).pins = s.pins ∧ (s.askConverter g).clock = s.clock ∧ (s.askConverter g).pending = s.pending := by
  simp only [State.askConverter]
  (repeat' split) <;> simp

@[simp] theorem State.conversionEnd_frame (v : Service) (raw : RawCode) (s : State) :
    (s.conversionEnd v raw).pins = s.pins ∧ (s.conversionEnd v raw).clock = s.clock ∧
        (s.conversionEnd v raw).pending = s.pending := by
  simp only [State.conversionEnd]
  (repeat' split) <;> simp

@[simp] theorem State.endInit_frame (b : Bool) (s : State) :
    (s.endInit b).pins = s.pins ∧ (s.endInit b).conv = s.conv ∧ (s.endInit b).clock = s.clock ∧
        (s.endInit b).pending = s.pending := by
  simp only [State.endInit]
  (repeat' split) <;> simp

@[simp] theorem State.endExit_frame (b : Bool) (s : State) :
    (s.endExit b).pins = s.pins ∧ (s.endExit b).conv = s.conv ∧ (s.endExit b).clock = s.clock ∧
        (s.endExit b).pending = s.pending := by
  simp only [State.endExit]
  (repeat' split) <;> simp

@[simp] theorem State.reportCalibration_frame (p : Parties) (raw : RawCode) (s : State) :
    (s.reportCalibration p raw).pins = s.pins ∧ (s.reportCalibration p raw).conv = s.conv ∧
      (s.reportCalibration p raw).clock = s.clock ∧ (s.reportCalibration p raw).pending = s.pending := by
  simp only [State.reportCalibration]
  (repeat' split) <;> simp

@[simp] theorem State.calibrationEnd_frame (raw : RawCode) (s : State) :
    (s.calibrationEnd raw).pins = s.pins ∧ (s.calibrationEnd raw).clock = s.clock ∧ (s.calibrationEnd raw).pending = s.pending := by
  simp only [State.calibrationEnd]
  simp

@[simp] theorem State.handGyro_frame (c : Converter) (s : State) :
    (s.handGyro c).pins = s.pins ∧ (s.handGyro c).controls = s.controls ∧ (s.handGyro c).conv = s.conv ∧
      (s.handGyro c).lens = s.lens ∧ (s.handGyro c).tc = s.tc ∧ (s.handGyro c).recorder = s.recorder ∧
      (s.handGyro c).log = s.log ∧ (s.handGyro c).audio = s.audio ∧ (s.handGyro c).ovl = s.ovl ∧
      (s.handGyro c).supply = s.supply ∧ (s.handGyro c).clock = s.clock ∧ (s.handGyro c).pending = s.pending := by
  simp only [State.handGyro]
  (repeat' split) <;> simp

@[simp] theorem State.beginExit_frame (src : ExitSource) (s : State) :
    (s.beginExit src).pins = s.pins ∧ (s.beginExit src).controls = s.controls ∧ (s.beginExit src).lens = s.lens ∧
      (s.beginExit src).stab = s.stab ∧ (s.beginExit src).tc = s.tc ∧ (s.beginExit src).recorder = s.recorder ∧
      (s.beginExit src).log = s.log ∧ (s.beginExit src).audio = s.audio ∧ (s.beginExit src).ovl = s.ovl ∧
      (s.beginExit src).clock = s.clock ∧ (s.beginExit src).pending = s.pending := by
  simp only [State.beginExit]
  simp

@[simp] theorem State.wake_frame (i : Fin 24) (s : State) :
    (s.wake i).pins = s.pins ∧ (s.wake i).controls = s.controls ∧ (s.wake i).lens = s.lens ∧ (s.wake i).stab = s.stab ∧
      (s.wake i).tc = s.tc ∧ (s.wake i).recorder = s.recorder ∧ (s.wake i).log = s.log ∧ (s.wake i).audio = s.audio ∧
      (s.wake i).ovl = s.ovl ∧ (s.wake i).clock = s.clock ∧ (s.wake i).pending = s.pending := by
  simp only [State.wake]
  (repeat' split) <;> simp

@[simp] theorem State.pressAction_frame (h : Held) (s : State) :
    (s.pressAction h).pins = s.pins ∧ (s.pressAction h).conv = s.conv ∧ (s.pressAction h).clock = s.clock ∧
      (s.pressAction h).pending = s.pending := by
  simp only [State.pressAction]
  (repeat' split) <;> simp

@[simp] theorem State.longAction_frame (h : Held) (s : State) :
    (s.longAction h).pins = s.pins ∧ (s.longAction h).conv = s.conv ∧ (s.longAction h).clock = s.clock ∧
      (s.longAction h).pending = s.pending := by
  simp only [State.longAction]
  (repeat' split) <;> simp

@[simp] theorem State.releaseAction_frame (h : Held) (s : State) :
    (s.releaseAction h).pins = s.pins ∧ (s.releaseAction h).conv = s.conv ∧ (s.releaseAction h).clock = s.clock ∧
      (s.releaseAction h).pending = s.pending := by
  simp only [State.releaseAction]
  (repeat' split) <;> simp

@[simp] theorem State.press_frame (i : Fin 24) (s : State) :
    (s.press i).pins = s.pins ∧ (s.press i).conv = s.conv ∧ (s.press i).clock = s.clock ∧ (s.press i).pending = s.pending := by
  simp only [State.press]
  (repeat' split) <;> simp

@[simp] theorem State.releaseHeld_frame (i : Fin 24) (h : Held) (s : State) :
    (s.releaseHeld i h).pins = s.pins ∧ (s.releaseHeld i h).conv = s.conv ∧ (s.releaseHeld i h).clock = s.clock ∧
      (s.releaseHeld i h).pending = s.pending := by
  simp only [State.releaseHeld]
  (repeat' split) <;> simp

@[simp] theorem State.release_frame (i : Fin 24) (s : State) :
    (s.release i).pins = s.pins ∧ (s.release i).conv = s.conv ∧ (s.release i).clock = s.clock ∧
        (s.release i).pending = s.pending := by
  simp only [State.release]
  (repeat' split) <;> simp

@[simp] theorem State.acceptedChange_frame (i : Fin 24) (level : Bool) (s : State) :
    (s.acceptedChange i level).pins = s.pins ∧ (s.acceptedChange i level).conv = s.conv ∧
      (s.acceptedChange i level).clock = s.clock ∧ (s.acceptedChange i level).pending = s.pending := by
  simp only [State.acceptedChange]
  (repeat' split) <;> simp

@[simp] theorem State.debounce_frame (i : Fin 24) (level : Bool) (s : State) :
    (s.debounce i level).pins = s.pins ∧ (s.debounce i level).conv = s.conv ∧ (s.debounce i level).clock = s.clock ∧
      (s.debounce i level).pending = s.pending := by
  simp only [State.debounce]
  (repeat' split) <;> simp

@[simp] theorem State.wakeChange_frame (i : Fin 24) (level : Bool) (s : State) :
    (s.wakeChange i level).pins = s.pins ∧ (s.wakeChange i level).lens = s.lens ∧ (s.wakeChange i level).stab = s.stab ∧
      (s.wakeChange i level).tc = s.tc ∧ (s.wakeChange i level).recorder = s.recorder ∧ (s.wakeChange i level).log = s.log ∧
      (s.wakeChange i level).audio = s.audio ∧ (s.wakeChange i level).ovl = s.ovl ∧ (s.wakeChange i level).clock = s.clock ∧
      (s.wakeChange i level).pending = s.pending := by
  simp only [State.wakeChange]
  (repeat' split) <;> simp

@[simp] theorem State.powerOff_frame (i : Fin 24) (s : State) :
    (s.powerOff i).pins = s.pins ∧ (s.powerOff i).conv = s.conv ∧ (s.powerOff i).clock = s.clock ∧
      (s.powerOff i).pending = s.pending := by
  simp only [State.powerOff]
  simp

@[simp] theorem State.poll_frame (i : Fin 24) (level : Bool) (s : State) :
    (s.poll i level).pins = s.pins ∧ (s.poll i level).clock = s.clock ∧ (s.poll i level).pending = s.pending := by
  simp only [State.poll, State.pollChange]
  by_cases h1 : level = (s.controls.switches.get i).accepted
  · simp [h1]
  · by_cases h2 : level = false ∧ s.controls.isPowerSwitch i = true
    · rw [if_neg h1, if_pos h2]; simp only []; (repeat' split) <;> simp
    · by_cases h3 : (s.controls.switches.get i).config.wake = true
      · simp only [h1, h2, h3, if_true, if_false]; split <;> simp
      · simp [h1, h2, h3]

@[simp] theorem State.scanInput_frame (levels : Vector Bool 24) (s : State) (i : Fin 24) :
    (s.scanInput levels i).pins = s.pins ∧ (s.scanInput levels i).clock = s.clock ∧
      (s.scanInput levels i).pending = s.pending := by
  simp only [State.scanInput]
  (repeat' split) <;> simp

@[simp] theorem State.scan_frame (levels : Vector Bool 24) (s : State) :
    (s.scan levels).pins = s.pins ∧ (s.scan levels).clock = s.clock ∧ (s.scan levels).pending = s.pending := by
  have h : ∀ (l : List (Fin 24)) (s : State), (l.foldl (State.scanInput levels) s).pins = s.pins ∧
      (l.foldl (State.scanInput levels) s).clock = s.clock ∧ (l.foldl (State.scanInput levels) s).pending = s.pending := by
    intro l
    induction l with
    | nil => exact fun s => ⟨rfl, rfl, rfl⟩
    | cons i l ih => intro s; simp [ih]
  simp only [State.scan]
  split
  · simp
  · exact h _ _

@[simp] theorem State.longPress_frame (i : Fin 24) (h : Held) (s : State) :
    (s.longPress i h).pins = s.pins ∧ (s.longPress i h).conv = s.conv ∧ (s.longPress i h).clock = s.clock ∧
      (s.longPress i h).pending = s.pending := by
  simp only [State.longPress]
  simp

@[simp] theorem State.detentToken_frame (e : Encoder) (up : Bool) (l : Layer) (s : State) :
    (s.detentToken e up l).pins = s.pins ∧ (s.detentToken e up l).conv = s.conv ∧ (s.detentToken e up l).lens = s.lens ∧
      (s.detentToken e up l).stab = s.stab ∧ (s.detentToken e up l).tc = s.tc ∧ (s.detentToken e up l).recorder = s.recorder ∧
      (s.detentToken e up l).log = s.log ∧ (s.detentToken e up l).audio = s.audio ∧ (s.detentToken e up l).supply = s.supply ∧
      (s.detentToken e up l).clock = s.clock ∧ (s.detentToken e up l).pending = s.pending := by
  simp only [State.detentToken]
  (repeat' split) <;> simp

@[simp] theorem State.detent_frame (e : Encoder) (up : Bool) (s : State) :
    (s.detent e up).pins = s.pins ∧ (s.detent e up).conv = s.conv ∧ (s.detent e up).stab = s.stab ∧ (s.detent e up).tc = s.tc ∧
      (s.detent e up).recorder = s.recorder ∧ (s.detent e up).log = s.log ∧ (s.detent e up).supply = s.supply ∧
      (s.detent e up).clock = s.clock ∧ (s.detent e up).pending = s.pending := by
  simp only [State.detent]
  (repeat' split) <;> simp

@[simp] theorem State.disableInput_frame (i : Fin 24) (s : State) :
    (s.disableInput i).pins = s.pins ∧ (s.disableInput i).conv = s.conv ∧ (s.disableInput i).lens = s.lens ∧
      (s.disableInput i).stab = s.stab ∧ (s.disableInput i).tc = s.tc ∧ (s.disableInput i).recorder = s.recorder ∧
      (s.disableInput i).log = s.log ∧ (s.disableInput i).audio = s.audio ∧ (s.disableInput i).ovl = s.ovl ∧
      (s.disableInput i).supply = s.supply ∧ (s.disableInput i).port = s.port ∧ (s.disableInput i).clock = s.clock ∧
      (s.disableInput i).pending = s.pending := by
  simp only [State.disableInput]
  simp

@[simp] theorem State.configureInput_frame (i : Fin 24) (c : InputConfig) (s : State) :
    (s.configureInput i c).pins = s.pins ∧ (s.configureInput i c).conv = s.conv ∧ (s.configureInput i c).lens = s.lens ∧
      (s.configureInput i c).stab = s.stab ∧ (s.configureInput i c).tc = s.tc ∧ (s.configureInput i c).recorder = s.recorder ∧
      (s.configureInput i c).log = s.log ∧ (s.configureInput i c).audio = s.audio ∧ (s.configureInput i c).ovl = s.ovl ∧
      (s.configureInput i c).supply = s.supply ∧ (s.configureInput i c).port = s.port ∧ (s.configureInput i c).clock = s.clock ∧
      (s.configureInput i c).pending = s.pending := by
  simp only [State.configureInput]
  (repeat' split) <;> simp

end Sys2Proof.Machine
end

