-- ==== Sys2Proof/Laws/Arbiter.lean ====
section
/-! SUPPORT. The converter that becomes free: what the operations do, in the words of Safety.lean. -/

namespace Sys2Proof.Machine

/-- The demand the model computes is that of R8. -/
theorem rockerDemandOf_demandOf (p : RockerArgs) (c : Nat) : DemandOf p c (rockerDemandOf p c) := by
  intro d m hd hm
  unfold rockerDemandOf
  subst hd; subst hm
  refine ⟨fun h => by simp [h], fun h => ?_⟩
  simp only [if_neg (not_le.2 h)]
  refine ⟨?_, ?_, ?_⟩
  · split_ifs
    · rw [Int.natAbs_neg]; exact Int.natAbs_natCast _
    · exact Int.natAbs_natCast _
  · intro h; rw [if_neg (by omega)]; exact Int.natCast_nonneg _
  · intro h; rw [if_pos h]; exact Int.neg_nonpos_of_nonneg (Int.natCast_nonneg _)

/-- What a result does in the rocker (R8, R9). -/
theorem Rocker.result_took (k : Rocker) (r : ResultRec) : RockerTook k (k.result r) r := by
  have D := rockerDemandOf_demandOf k.params r.value
  unfold RockerTook
  cases hr : r.status <;> cases hk : k.state
  all_goals refine ⟨?_, ?_, ?_, ?_, ?_, ?_, ?_, ?_⟩
  all_goals simp only [Rocker.result, hr, hk]
  all_goals try split_ifs
  all_goals first | rfl | (intros; first | rfl | contradiction | skip)
  all_goals try refine ⟨?_, ?_, ?_⟩
  all_goals try refine ⟨?_, ?_⟩
  all_goals first | rfl | assumption | (intros; first | rfl | omega | assumption | refine ⟨?_, ?_⟩ <;> first | rfl | assumption | omega | refine ⟨?_, ?_⟩ <;> first | rfl | assumption)

/-- What a change of the rocker writes (R8). -/
theorem State.setRocker_eq (k : Rocker) (s : State) : s.setRocker k = { s with
   controls.rocker := k
   lens := { s.lens with
     demand := if k.demand = s.controls.rocker.demand then s.lens.demand else k.demand
     blocked := if k.demand = s.controls.rocker.demand then s.lens.blocked else s.lens.blocked && decide (k.demand ≠ 0) } } := by
  unfold State.setRocker State.rockerDemand; split_ifs <;> rfl

/-- What a delivery does (R29). -/
theorem State.deliver_delivered (g : Group) (made : List ResultRec) (s : State) : Delivered g made s (s.deliver g made) := by
  refine ⟨_, rfl, ?_, ?_, ?_, ?_⟩
  · rintro a b rfl rfl; rfl
  · rintro a b rfl rfl; rfl
  · rintro r rfl rfl
    unfold State.deliver State.rockerResult
    refine ⟨_, _, Rocker.result_took _ _, rfl, ?_⟩
    dsimp only
    rw [State.setRocker_eq]
    rfl
  · rintro a b rfl rfl h
    unfold State.deliver State.supplySample
    dsimp only
    rw [if_pos h]
    rfl

/-- No highest group: the pending set is empty (R28). -/
theorem GroupSet.highest_none (p : GroupSet) (h : p.highest = none) : p = ⟨false, false, false, false⟩ := by
  rcases p with ⟨a, b, c, d⟩
  cases a <;> cases b <;> cases c <;> cases d <;> simp_all [GroupSet.highest]

/-- The highest group of the pending set (R28). -/
theorem GroupSet.highest_some (p : GroupSet) (g : Group) (h : p.highest = some g) : HighestPending p g := by
  rcases p with ⟨a, b, c, d⟩
  cases a <;> cases b <;> cases c <;> cases d <;> cases g <;> simp_all [GroupSet.highest, HighestPending]

/-- The number of groups in a set. -/
def GroupSet.count (p : GroupSet) : Nat := p.gyro.toNat + p.level.toNat + p.rocker.toNat + p.supply.toNat

/-- Taking the highest group leaves one fewer. -/
theorem GroupSet.count_put (p : GroupSet) (g : Group) (h : p.highest = some g) : (p.put false g).count + 1 = p.count := by
  rcases p with ⟨a, b, c, d⟩
  cases a <;> cases b <;> cases c <;> cases d <;> cases g <;> simp_all [GroupSet.highest, GroupSet.put, GroupSet.count]

/-- There are four groups. -/
theorem GroupSet.count_le (p : GroupSet) : p.count ≤ 4 := by
  rcases p with ⟨a, b, c, d⟩
  cases a <;> cases b <;> cases c <;> cases d <;> decide

/-- Of a list either none is enabled, or there is a first that is. -/
theorem first_enabled (p : Fin 7 → Bool) (l : List (Fin 7)) : (∀ j ∈ l, p j = false) ∨
    ∃ before i rest, l = before ++ i :: rest ∧ (∀ j ∈ before, p j = false) ∧ p i = true := by
  induction l with
  | nil => simp
  | cons x xs ih =>
    cases hx : p x
    · rcases ih with h | ⟨before, i, rest, rfl, h1, h2⟩
      · left; simpa [hx] using h
      · right; exact ⟨x :: before, i, rest, rfl, by simpa [hx] using h1, h2⟩
    · right; exact ⟨[], x, xs, rfl, by simp, hx⟩

/-- The inputs of a group are those of R24. -/
theorem InputsOf.eq {g : Group} {l : List (Fin 7)} (h : InputsOf g l) : groupInputs g = l := by
  rcases h with ⟨rfl, rfl⟩ | ⟨rfl, rfl⟩ | ⟨rfl, rfl⟩ | ⟨rfl, rfl⟩ <;> rfl

/-- A group none of whose inputs is converted has INVALID records alone (R29). -/
theorem Converter.serve_nothing (c : Converter) (g : Group) (now : Nat)
    (h : c.selfCheck = false ∨ ∀ j ∈ groupInputs g, c.enables.get j = false) :
    c.serve g now = ⟨g, (groupInputs g).map fun j => ⟨j, 0, .invalid⟩, [], now + 8⟩ := by
  have pass : ∀ (l : List (Fin 7 × Bool)) (made : List ResultRec), (∀ x ∈ l, x.2 = false) →
      passDisabled made l = (made ++ l.map (fun x => invalidRecord x.1), []) := by
    intro l
    induction l with
    | nil => simp [passDisabled]
    | cons x xs ih =>
      obtain ⟨i, on⟩ := x
      intro made hl
      have : on = false := hl (i, on) (by simp)
      subst this
      simp [passDisabled, ih (made ++ [invalidRecord i]) fun x hx => hl x (by simp [hx])]
  have hl : ∀ x ∈ (groupInputs g).map fun i => (i, c.selfCheck && c.enables.get i), x.2 = false := by
    intro x hx
    obtain ⟨j, hj, rfl⟩ := List.mem_map.1 hx
    rcases h with h | h
    · simp [h]
    · simp [h j hj]
  simp [Converter.serve, pass _ [] hl, conversionTime, invalidRecord]

/-- A group with an enabled input is taken into service at the first of them (R29). -/
theorem Converter.serve_enabled (c : Converter) (g : Group) (now : Nat) (before rest : List (Fin 7)) (i : Fin 7)
    (inputs : groupInputs g = before ++ i :: rest) (check : c.selfCheck = true)
    (disabled : ∀ j ∈ before, c.enables.get j = false) (enabled : c.enables.get i = true) :
    c.serve g now = ⟨g, before.map fun j => ⟨j, 0, .invalid⟩, (i, true) :: rest.map fun j => (j, c.enables.get j), now + 8⟩ := by
  have pass : ∀ (l : List (Fin 7)) (made : List ResultRec) (t : List (Fin 7 × Bool)), (∀ j ∈ l, c.enables.get j = false) →
      passDisabled made ((l.map fun j => (j, c.enables.get j)) ++ (i, true) :: t) =
        (made ++ l.map invalidRecord, (i, true) :: t) := by
    intro l
    induction l with
    | nil => simp [passDisabled]
    | cons j js ih =>
      intro made t hl
      have hj : c.enables.get j = false := hl j (by simp)
      simp [passDisabled, hj, ih (made ++ [invalidRecord j]) t fun x hx => hl x (by simp [hx])]
  have := pass before [] (rest.map fun j => (j, c.enables.get j)) disabled
  simp only [Converter.serve, inputs, check, Bool.true_and, List.map_append, List.map_cons, enabled]
  simp [this, conversionTime, invalidRecord]

/-- The inputs of a group (R24). -/
theorem inputsOf_group (g : Group) : InputsOf g (groupInputs g) := by cases g <;> simp [InputsOf, groupInputs]

/-- A delivery leaves the pending set and an owed calibration. -/
theorem State.deliver_conv (g : Group) (made : List ResultRec) (s : State) :
    (s.deliver g made).conv.pending = s.conv.pending ∧ (s.deliver g made).conv.owed = s.conv.owed := by
  unfold State.deliver
  dsimp only
  split <;> simp [Converter.remember]

/-- What a converter that becomes free does, with fuel for every pending group (R28). -/
theorem State.becomeFree_freed (n : Nat) (s : State) (h : s.conv.pending.count < n) : Freed s (s.becomeFree n) := by
  induction n generalizing s with
  | zero => omega
  | succ n ih =>
    unfold State.becomeFree
    cases ho : s.conv.owed
    · simp only [Bool.false_eq_true, if_false]
      cases hh : s.conv.pending.highest with
      | none => exact Freed.idle s ho (GroupSet.highest_none _ hh)
      | some g =>
        have hp := GroupSet.highest_some _ _ hh
        have nothing : (s.conv.selfCheck = false ∨ ∀ j ∈ groupInputs g, s.conv.enables.get j = false) → Freed s
            (let v := s.conv.serve g s.clock
            let s' := { s with conv.pending := s.conv.pending.put false g }
            if v.todo.isEmpty then State.becomeFree n (s'.deliver g v.made) else { s' with conv.activity := .converting v }) := by
          intro hn
          simp only [s.conv.serve_nothing g s.clock hn, List.isEmpty_nil, if_true]
          refine Freed.passed s _ _ g (groupInputs g) ho hp (inputsOf_group g) hn (State.deliver_delivered g _ _) (ih _ ?_)
          have := GroupSet.count_put _ _ hh
          rw [(State.deliver_conv g _ _).1]
          dsimp only
          omega
        rcases Bool.eq_false_or_eq_true s.conv.selfCheck with hc | hc
        · rcases first_enabled (s.conv.enables.get ·) (groupInputs g) with hn | ⟨before, i, rest, hl, h1, h2⟩
          · exact nothing (.inr hn)
          · simp only [s.conv.serve_enabled g s.clock before rest i hl hc h1 h2, List.isEmpty_cons, Bool.false_eq_true, if_false]
            exact Freed.service s g before rest i ho hp (hl ▸ inputsOf_group g) hc h1 h2
        · exact nothing (.inl hc)
    · simp only [if_true]
      unfold State.beginCalibration Port.answerAccepted calibrationTime
      refine Freed.calibration s _ ho (fun e he ha => ?_) (fun h => ?_)
      · simp [he, ha]
      · cases he : s.port.inHand with
        | none => rfl
        | some e => simp [h e he]

/-- What a converter that becomes free does (R28). -/
theorem State.becomeFree_freed5 (s : State) : Freed s (s.becomeFree 5) :=
  s.becomeFree_freed 5 (by have := s.conv.pending.count_le; omega)

/-- What a request of a group does (R26, R27, R29). -/
theorem State.askConverter_asked (g : Group) (s : State) : Asked g s (s.askConverter g) := by
  refine ⟨fun h1 h2 => ⟨fun before rest i h3 h4 h5 h6 => ?_, fun inputs h3 h4 => ?_⟩, fun h => ?_⟩
  · have hv := s.conv.serve_enabled g s.clock before rest i h3.eq h4 h5 h6
    simp [State.askConverter, h1, h2, hv]
  · obtain rfl := h3.eq
    have hv := s.conv.serve_nothing g s.clock h4
    refine ⟨_, State.deliver_delivered g _ s, ?_⟩
    simp only [State.askConverter, h1, h2, hv, and_self, if_true, List.isEmpty_nil]
    exact State.becomeFree_freed5 _
  · have : ¬(s.conv.activity = .idle ∧ s.conv.owed = false) := by
      rcases h with h | h <;> simp [h]
    simp only [State.askConverter, if_neg this]
    cases g <;> simp only [GroupSet.has, State.miss, reduceCtorEq, false_and, if_false, true_and] <;> split_ifs <;> simp_all

/-- A converter that becomes free leaves the supply monitor: a group delivered with nothing converted gives it no sample (R181). -/
theorem Freed.supply {s t : State} (h : Freed s t) : t.supply = s.supply := by
  induction h with
  | calibration | idle | service => rfl
  | passed s d t g inputs owed highest all nothing delivered free ih =>
    rw [ih]
    obtain ⟨v, rfl, h1, h2, h3, h4⟩ := delivered
    rcases all with ⟨rfl, rfl⟩ | ⟨rfl, rfl⟩ | ⟨rfl, rfl⟩ | ⟨rfl, rfl⟩
    · rw [h1 _ _ rfl rfl]
    · rw [h2 _ _ rfl rfl]
    · obtain ⟨m, k, -, -, h⟩ := h3 _ rfl rfl
      rw [h]
    · rw [h4 _ _ rfl rfl (.inl rfl)]

end Sys2Proof.Machine
end

