-- ==== Sys2Proof/Laws/Audio.lean ====
section
/-! SUPPORT. The audio level unit: what AUDIO_CONFIG does to a channel and to the linked pair, and
what a pair of levels does. -/

namespace Sys2Proof.Machine
/-- What a change of input does to a channel (R146, R156). -/
theorem ChannelRec.setInput_eq (c : ChannelRec) (i : AudioInput) (now : Nat) (h : c.applied = appliedGain c) :
    c.setInput i now =
      (let settling := if i ≠ c.input ∧ (i = .mic48 ∨ c.input = .mic48 ∨ c.settling.isSome = true) then some (now + 500000)
        else c.settling
      { c with input := i, settling := settling, applied := if settling.isSome then 0 else c.setGain - c.reduction }) := by
  have h' : c.applied = if c.settling.isSome then 0 else c.setGain - c.reduction := h
  unfold ChannelRec.setInput
  by_cases hi : i = c.input
  · subst hi; simp [← h']
  · rw [if_neg hi]
    by_cases hu : i = .mic48 ∨ c.input = .mic48 ∨ c.settling.isSome = true
    · simp [hi, hu, ChannelRec.apply, appliedGain, settlingTime]
    · simp only [hi, hu, if_false, ne_eq, not_false_eq_true, and_false, ← h']

/-- What AUDIO_CONFIG's part for one channel does (R157). -/
theorem ChannelRec.configure_eq (c : ChannelRec) (a : ChannelConfig) (now : Nat) (h : c.applied = appliedGain c) :
    c.configure a now = configuredChannel c a now := by
  unfold ChannelRec.configure
  rw [ChannelRec.setInput_eq c a.input now h]
  unfold configuredChannel
  obtain ⟨i, g, l, m⟩ := a
  cases g <;> cases c.source <;> cases l <;> cases c.limiter <;>
    simp [ChannelRec.setSource, ChannelRec.setLimiter, ChannelRec.apply, appliedGain]
/-- What AUDIO_CONFIG's part for a linked CH2 does (R155, R157). -/
theorem ChannelRec.configureLinked_eq (c : ChannelRec) (a : ChannelConfig) (now : Nat) (h : c.applied = appliedGain c) :
    c.configureLinked a now = { c with
      input := a.input, limiter := a.limiter, agcMax := a.agcMax, settling := (configuredChannel c a now).settling
      applied := if (configuredChannel c a now).settling.isSome then 0 else c.setGain - c.reduction } := by
  unfold ChannelRec.configureLinked
  rw [ChannelRec.setInput_eq c a.input now h]
  simp [configuredChannel]

/-- What an AUDIO_CONFIG with the link ON does (R155, R157). -/
theorem Audio.configure_on (t : Audio) (a : AudioConfigArgs) (now : Nat) (h1 : t.ch1.applied = appliedGain t.ch1)
    (h2 : t.ch2.applied = appliedGain t.ch2) (hl : a.link = true) :
    t.configure a now = { t with ch1 := configuredChannel t.ch1 a.ch1 now, link := true, ch2 :=
      { t.ch2 with
        source := a.ch1.source, setGain := t.ch1.setGain, reduction := (configuredChannel t.ch1 a.ch1 now).reduction
        input := a.ch2.input, limiter := a.ch2.limiter, agcMax := a.ch2.agcMax
        settling := (configuredChannel t.ch2 a.ch2 now).settling
        applied := if (configuredChannel t.ch2 a.ch2 now).settling.isSome then 0
          else t.ch1.setGain - (configuredChannel t.ch1 a.ch1 now).reduction
        release := if t.link = false ∧ t.ch2.limiter = true ∧ a.ch2.limiter = false then 0 else t.ch2.release
        fall := if t.link = false ∧ t.ch2.limiter = true ∧ a.ch2.limiter = false then 0 else t.ch2.fall } } := by
  unfold Audio.configure
  rw [ChannelRec.configure_eq _ _ _ h1]
  cases hk : t.link
  · simp only [Audio.follow, ChannelRec.configure2, hl, if_true, Bool.false_eq_true, if_false]
    rw [ChannelRec.configure_eq _ _ _ h2]
    cases hm : t.ch2.limiter <;> cases hn : a.ch2.limiter <;>
      simp [Audio.setLink, Audio.follow, configuredChannel, ChannelRec.apply, appliedGain, hm, hn]
  · simp only [Audio.follow, ChannelRec.configure2, hl, if_true]
    rw [ChannelRec.configureLinked_eq _ _ _ rfl]
    simp [Audio.setLink, Audio.follow, configuredChannel, ChannelRec.apply, appliedGain]

/-- What an AUDIO_CONFIG that takes the link from ON to OFF does (R155, R157). -/
theorem Audio.configure_off (t : Audio) (a : AudioConfigArgs) (now : Nat) (h1 : t.ch1.applied = appliedGain t.ch1)
    (hk : t.link = true) (hl : a.link = false) :
    t.configure a now = { t with ch1 := configuredChannel t.ch1 a.ch1 now, link := false, ch2 :=
      { t.ch2 with
        source := a.ch2.source, setGain := t.ch1.setGain
        reduction := if (a.ch2.source = .auto ∧ a.ch1.source ≠ .auto) ∨ (a.ch2.limiter = false ∧ t.ch2.limiter = true) then 0
          else (configuredChannel t.ch1 a.ch1 now).reduction
        input := a.ch2.input, limiter := a.ch2.limiter, agcMax := a.ch2.agcMax
        settling := (configuredChannel t.ch2 a.ch2 now).settling
        applied := if (configuredChannel t.ch2 a.ch2 now).settling.isSome then 0
          else t.ch1.setGain -
            (if (a.ch2.source = .auto ∧ a.ch1.source ≠ .auto) ∨ (a.ch2.limiter = false ∧ t.ch2.limiter = true) then 0
              else (configuredChannel t.ch1 a.ch1 now).reduction)
        attack := 0, quiet := 0, rise := 0, release := 0, fall := 0 } } := by
  unfold Audio.configure
  rw [ChannelRec.configure_eq _ _ _ h1]
  simp only [Audio.follow, hk, ChannelRec.configure2, hl, if_true, Bool.false_eq_true, if_false]
  rw [ChannelRec.configure_eq _ _ _ rfl]
  simp [Audio.setLink, configuredChannel, ChannelRec.apply, ChannelRec.unlinked]

/-! ## The level event -/

/-- The meter at a level (R149). -/
theorem ChannelRec.meter_at (c : ChannelRec) (l : Int) :
    ∃ p h, ({ c with level := l } : ChannelRec).meter l = { c with level := l, peak := p, hold := h } ∧
    (c.peak ≤ l → p = l ∧ h = 1000) ∧ (l < c.peak → 0 < c.hold → p = c.peak ∧ h = c.hold - 1) ∧
    (l < c.peak → c.hold = 0 → p = max l (c.peak - 2) ∧ h = 0) := by
  unfold ChannelRec.meter
  simp only
  split_ifs with h1 h2
  · exact ⟨l, 1000, rfl, fun _ => ⟨rfl, rfl⟩, fun h => by omega, fun h => by omega⟩
  · exact ⟨c.peak, c.hold - 1, rfl, fun h => by omega, fun _ _ => ⟨rfl, rfl⟩, fun _ h => by omega⟩
  · have : c.hold = 0 := by omega
    exact ⟨_, c.hold, rfl, fun h => by omega, fun _ h => by omega, fun _ _ => ⟨rfl, this⟩⟩

/-- The AGC's step (R151). -/
theorem ChannelRec.agc_steps (c : ChannelRec) (hs : c.settling = none) : AgcStep c c.agc := by
  unfold AgcStep ChannelRec.agc ChannelRec.setGainTo ChannelRec.apply
  simp only [appliedGain, hs]
  refine ⟨?_, ?_, ?_, ?_⟩
  · split_ifs <;> rfl
  · intro h
    rw [if_pos h]
    refine ⟨?_, ?_, ?_, ?_⟩
    · split_ifs <;> rfl
    · split_ifs <;> rfl
    · intro h0; rw [if_pos (by omega)]; simp [h0]
    · intro h0; rw [if_neg (by omega)]; exact ⟨rfl, rfl, rfl⟩
  · intro h1 h2
    rw [if_neg (by omega), if_pos h1]; exact ⟨rfl, rfl, rfl, rfl, rfl⟩
  · intro h
    rw [if_neg (by omega), if_neg (by omega)]
    refine ⟨?_, ?_, ?_, ?_⟩
    · split_ifs <;> rfl
    · intro h1; rw [if_pos h1]; exact ⟨rfl, rfl, rfl, rfl⟩
    · intro h1 h2; rw [if_neg (by omega), if_pos (by omega)]; exact ⟨rfl, rfl, rfl, rfl⟩
    · intro h1 h2; rw [if_neg (by omega), if_neg (by omega)]; exact ⟨rfl, rfl, rfl, rfl⟩

/-- The limiter's step (R152). -/
theorem ChannelRec.limit_steps (c : ChannelRec) (hs : c.settling = none) : LimiterStep c (c.limit c.level) := by
  unfold LimiterStep ChannelRec.limit ChannelRec.apply
  simp only [appliedGain, hs]
  refine ⟨?_, ?_, ?_, ?_⟩
  · split_ifs <;> rfl
  · intro h; rw [if_pos h]; exact ⟨rfl, rfl, rfl, rfl⟩
  · intro h1 h2; rw [if_neg (by omega), if_pos h1]; exact ⟨rfl, rfl, rfl, rfl⟩
  · intro h
    rw [if_neg (by omega), if_neg (by omega)]
    refine ⟨?_, ?_, ?_⟩
    · intro h1; rw [if_pos h1]; exact ⟨rfl, rfl, rfl, rfl⟩
    · intro h1 h2; rw [if_neg (by omega), if_pos (by omega)]; exact ⟨rfl, rfl, rfl, rfl⟩
    · intro h1 h2; rw [if_neg (by omega), if_neg (by omega)]; exact ⟨rfl, rfl, rfl, rfl⟩

/-- The AGC and the limiter leave the over condition (R150). -/
theorem ChannelRec.control_isOver (c : ChannelRec) (l : Int) : (c.control l).isOver = c.isOver := by
  unfold ChannelRec.control ChannelRec.agc ChannelRec.limit ChannelRec.setGainTo ChannelRec.apply
  cases c.source <;> simp only <;> split_ifs <;> rfl

/-- The clip log after the over condition of a channel went from `old` to `new` (R138, R150). -/
def ClipLog.overMoved (l : ClipLog) (ch : Channel) (old new : Bool) : ClipLog :=
  match ch with
  | .ch1 => { l with over1 := if new = old then l.over1 else new, records := l.records.map fun r => r.withOver (new && !old) false }
  | .ch2 => { l with over2 := if new = old then l.over2 else new, records := l.records.map fun r => r.withOver false (new && !old) }

/-- No over condition begins: a record stands (R138). -/
theorem ClipRec.withOver_false (r : ClipRec) : r.withOver false false = r := by unfold ClipRec.withOver; split_ifs <;> simp

/-- The records of a log, each that is OPEN set so again. -/
theorem ClipLog.opened_again (l : ClipLog) : l = { records := l.records.map fun r => if r.state = .opened then { r with state := .opened } else r, over1 := l.over1, over2 := l.over2 } := by
  have : (l.records.map fun r => if r.state = .opened then { r with state := .opened } else r) = l.records := by
    conv_rhs => rw [← List.map_id l.records]
    apply List.map_congr_left; intro r _; split_ifs with h
    · simp [← h]
    · rfl
  rw [this]

/-- What the work on a channel does at a level event (R147 to R152). -/
theorem State.workChannel_worked (ch : Channel) (linked : Bool) (r : ResultRec) (s : State) : ∃ m,
    ChannelWorked (s.audio.channel ch) m r linked ∧ s.workChannel ch linked r = { s with
      audio := s.audio.setChannel m ch
      log := s.log.overMoved ch (s.audio.channel ch).isOver m.isOver
      ovl.warnings.audioOver := if m.isOver then .timed (s.clock + 1000000) else s.ovl.warnings.audioOver } := by
  unfold State.workChannel
  by_cases hr : r.status = .invalid
  · refine ⟨_, ⟨fun _ => rfl, fun h => absurd hr h⟩, ?_⟩
    rw [if_pos hr]
    unfold State.freeze State.endOver
    cases ch <;> simp only [Audio.channel, Audio.setChannel] <;> split_ifs with h <;> simp_all [ClipLog.overMoved, ClipRec.withOver_false, ClipLog.overEnds, ClipLog.setCopy, Bool.false_eq_true]
  · rw [if_neg hr]
    simp only
    have hl : levelOf r.value = ((r.value * 600 / 4095 : Nat) : Int) - 600 := rfl
    generalize levelOf r.value = l at *
    obtain ⟨p, h, hm, m1, m2, m3⟩ := ChannelRec.meter_at (s.audio.channel ch) l
    rw [hm]
    let X : ChannelRec := { s.audio.channel ch with level := l, peak := p, hold := h, isOver := decide (-10 ≤ l), overFlag := (s.audio.channel ch).overFlag || decide (-10 ≤ l) }
    have T : State.testOver ch l { s with audio := s.audio.setChannel { s.audio.channel ch with level := l, peak := p, hold := h } ch } = { s with audio := s.audio.setChannel X ch, log := s.log.overMoved ch (s.audio.channel ch).isOver X.isOver, ovl.warnings.audioOver := if X.isOver then .timed (s.clock + 1000000) else s.ovl.warnings.audioOver } := by
      unfold State.testOver State.endOver
      by_cases hh : l < -10
      · have : ¬ (-10 ≤ l) := by omega
        have hX : X = { s.audio.channel ch with level := l, peak := p, hold := h, isOver := false } := by simp [X, this]
        rw [hX]
        cases ch <;> simp only [Audio.channel, Audio.setChannel, hh, if_true] <;> split_ifs with h <;> simp_all [ClipLog.overMoved, ClipRec.withOver_false, ClipLog.overEnds, ClipLog.setCopy, Bool.false_eq_true]
      · have : (-10 ≤ l) := by omega
        have hX : X = { s.audio.channel ch with level := l, peak := p, hold := h, isOver := true, overFlag := true } := by simp [X, this]
        rw [hX]
        cases ch <;> simp only [Audio.channel, Audio.setChannel, hh, if_false] <;> split_ifs with h <;> simp_all [ClipLog.overMoved, ClipLog.overBegins, ClipLog.setCopy, State.warn, State.setWarned, Warnings.setEntry, ClipLog.mapOpen, ClipRec.withOver, ClipRec.setOver]
        all_goals first | done | rfl | (refine ⟨?_, rfl⟩; exact ClipLog.opened_again s.log)
    rw [T]
    have MA : MeterAt (s.audio.channel ch) X l := ⟨rfl, m1, m2, m3⟩
    cases linked
    · simp only [Bool.false_eq_true, if_false]
      have C : (({ s with audio := s.audio.setChannel X ch, log := s.log.overMoved ch (s.audio.channel ch).isOver X.isOver, ovl.warnings.audioOver := if X.isOver then .timed (s.clock + 1000000) else s.ovl.warnings.audioOver } : State).audio.channel ch) = X := by cases ch <;> rfl
      rw [C]
      refine ⟨X.control l, ⟨fun h => absurd h hr, fun _ => ⟨X, by rw [← hl]; exact MA, ?_, ?_⟩⟩, ?_⟩
      · rintro (h | h)
        · unfold ChannelRec.control; rw [if_pos (by exact h)]
        · simp at h
      · intro hset _
        have hx : X.settling = none := hset
        have hsrc : X.source = (s.audio.channel ch).source := rfl
        have hlim : X.limiter = (s.audio.channel ch).limiter := rfl
        unfold ChannelRec.control
        rw [if_neg (by simp [hx])]
        refine ⟨fun h => ?_, fun h h2 => ?_, fun h h2 => ?_⟩
        · rw [hsrc, h]; exact X.agc_steps hx
        · rw [hsrc, hlim, h2]
          have := X.limit_steps hx
          cases h3 : (s.audio.channel ch).source <;> first | exact absurd h3 h | exact this
        · rw [hsrc, hlim, h2]
          cases h3 : (s.audio.channel ch).source <;> first | exact absurd h3 h | rfl
      · rw [ChannelRec.control_isOver]; cases ch <;> rfl
    · refine ⟨X, ⟨fun h => absurd h hr, fun _ => ⟨X, by rw [← hl]; exact MA, fun _ => rfl, fun _ h => by simp at h⟩⟩, rfl⟩


/-- What a taken pair of levels does (R147 to R152, R155). -/
theorem State.takeLevels_taken (a b : ResultRec) (s : State) : ∃ (u : State) (m : ChannelRec), u = s.takeLevels (a, b) ∧
    u = { s with
      audio := { s.audio with ch1 := u.audio.ch1, ch2 := u.audio.ch2, mailbox := none }
      log := { over1 := if u.audio.ch1.isOver = s.audio.ch1.isOver then s.log.over1 else u.audio.ch1.isOver
               over2 := if u.audio.ch2.isOver = s.audio.ch2.isOver then s.log.over2 else u.audio.ch2.isOver
               records := s.log.records.map fun r => r.withOver (u.audio.ch1.isOver && !s.audio.ch1.isOver)
                 (u.audio.ch2.isOver && !s.audio.ch2.isOver) }
      ovl.warnings.audioOver := if u.audio.ch1.isOver = true ∨ u.audio.ch2.isOver = true then .timed (s.clock + 1000000)
        else s.ovl.warnings.audioOver } ∧
    ChannelWorked s.audio.ch1 u.audio.ch1 a false ∧ ChannelWorked s.audio.ch2 m b s.audio.link ∧
    u.audio.ch2 = if s.audio.link then
        { m with
          source := u.audio.ch1.source, setGain := u.audio.ch1.setGain, reduction := u.audio.ch1.reduction
          applied := if m.settling.isSome then 0 else u.audio.ch1.setGain - u.audio.ch1.reduction }
      else m := by
  obtain ⟨m1, h1, e1⟩ := State.workChannel_worked .ch1 false a { s with audio.mailbox := none }
  obtain ⟨m2, h2, e2⟩ := State.workChannel_worked .ch2 s.audio.link b ({ s with audio.mailbox := none }.workChannel .ch1 false a)
  refine ⟨_, m2, rfl, ?_⟩
  have two : ∀ r : ClipRec, ∀ x y, (r.withOver x false).withOver false y = r.withOver x y := by
    intro r x y
    unfold ClipRec.withOver
    by_cases h : r.state = .opened <;> simp [h]
  unfold State.takeLevels
  rw [e2, e1]
  rw [e1] at h2
  simp only [Audio.channel, Audio.setChannel, ClipLog.overMoved] at *
  rcases Bool.eq_false_or_eq_true s.audio.link with hk | hk
  · simp only [Audio.follow, hk, if_true] at *
    refine ⟨?_, h1, h2, rfl⟩
    cases m1.isOver <;> cases m2.isOver <;> simp [two, Function.comp_def, ChannelRec.apply]
  · simp only [Audio.follow, hk, Bool.false_eq_true, if_false] at *
    refine ⟨?_, h1, h2, trivial⟩
    cases m1.isOver <;> cases m2.isOver <;> simp [two, Function.comp_def]

end Sys2Proof.Machine
end

