-- ==== Sys2Proof/Laws/Drive.lean ====
section
/-! SUPPORT. The lens drive, the stabiliser and the converter: what a halt, an update of a copy, a pair and a free converter leave. -/

namespace Sys2Proof.Machine

/-- What a halt does to the zoom (R64). -/
theorem State.haltAxis_zoom (r : AbandonReason) (s : State) :
    let u := s.haltAxis .zoom r
    u.lens.focus = s.lens.focus ∧ u.lens.presets = s.lens.presets ∧ u.lens.demand = s.lens.demand ∧ u.lens.zoom.owner = .none ∧
        u.lens.zoom.vcmd = 0 ∧ u.lens.zoom.duty = 0 ∧ u.lens.zoom.position = s.lens.zoom.position := by
  simp only [State.haltAxis]
  split <;> simp [State.abandonHoming, State.endHold, State.setAxis, State.axis, Lens.axis, Lens.setAxis, Lens.stopDrive,
      AxisRec.released]

/-- What a halt does to the focus (R64). -/
theorem State.haltAxis_focus (r : AbandonReason) (s : State) :
    let u := s.haltAxis .focus r
    u.lens.zoom = s.lens.zoom ∧ u.lens.presets = s.lens.presets ∧ u.lens.demand = s.lens.demand ∧ u.lens.focus.owner = .none ∧
        u.lens.focus.vcmd = 0 ∧ u.lens.focus.duty = 0 ∧ u.lens.focus.position = s.lens.focus.position := by
  simp only [State.haltAxis]
  split <;> simp [State.abandonHoming, State.endHold, State.setAxis, State.axis, Lens.axis, Lens.setAxis, Lens.stopDrive,
      AxisRec.released]

/-- What a halt does to the lens drive (R64). -/
theorem State.haltLens_lens (r : AbandonReason) (s : State) :
    let l := (s.haltLens r).lens
    l.zoom.owner = .none ∧ l.zoom.vcmd = 0 ∧ l.zoom.duty = 0 ∧ l.zoom.position = s.lens.zoom.position ∧
    l.focus.owner = .none ∧ l.focus.vcmd = 0 ∧ l.focus.duty = 0 ∧ l.focus.position = s.lens.focus.position ∧
        l.floating = true ∧ l.override = none ∧ l.demand = s.lens.demand ∧ l.presets = s.lens.presets := by
  obtain ⟨a1, a2, a3, a4, a5, a6, a7⟩ := State.haltAxis_zoom r s
  obtain ⟨b1, b2, b3, b4, b5, b6, b7⟩ := State.haltAxis_focus r (s.haltAxis .zoom r)
  simp only [State.haltLens]
  exact ⟨by rw [b1]; exact a4, by rw [b1]; exact a5, by rw [b1]; exact a6, by rw [b1]; exact a7, b4, b5, b6, by rw [b7, a1],
    trivial, trivial, by rw [b3, a3], by rw [b2, a2]⟩

/-- An update of a copy re-evaluates the state (R67). -/
theorem State.stabUpdate_stab (c : Conditions) (s : State) :
    (s.stabUpdate c).stab = ({ s.stab with cond := c } : Stabiliser).reevaluate := by
  simp only [State.stabUpdate, State.stabBecomes]; split <;> rfl

/-- Out of RUN no re-evaluation leaves ACTIVE (R67). -/
theorem Stabiliser.reevaluate_of_not_run (t : Stabiliser) (h : t.cond.run = false) : t.reevaluate.isActive = false ∧
    t.reevaluate.cond = t.cond := by
  have hi : t.implied = .off ∨ t.implied = .standby := by
    unfold Stabiliser.implied; split <;> simp [h]
  unfold Stabiliser.reevaluate
  split
  · next hf => refine ⟨?_, rfl⟩; unfold Stabiliser.isFault at hf; unfold Stabiliser.isActive; cases ht : t.state <;> simp_all
  · rcases hi with hi | hi <;> rw [hi] <;> simp only [] <;> split
    · next he => simp [Stabiliser.isActive, he]
    · simp only [Stabiliser.enter]; split <;> simp [Stabiliser.isActive, Stabiliser.leaveActive]
    · next he => simp [Stabiliser.isActive, he]
    · simp only [Stabiliser.enter]; split <;> simp [Stabiliser.isActive, Stabiliser.leaveActive]

/-- A sample event that takes a pair in ACTIVE (R71). -/
theorem State.sample_of_pair (S : State) (pr sub) (m : S.stab.mailbox = some pr) (h : S.stab.state = .active sub) :
  S.sample = if (S.takePair pr).stab.isActive then (S.takePair pr).activeSample sub else S.takePair pr := by
  simp only [State.sample, m, h]

/-- A request at a busy converter touches the pending set and a miss count alone (R26, R27). -/
theorem State.askConverter_of_busy (S : State) (g) (a : S.conv.activity ≠ .idle) : (S.askConverter g).stab.yaw = S.stab.yaw ∧
    (S.askConverter g).stab.pitch = S.stab.pitch ∧ (S.askConverter g).lens = S.lens ∧ (S.askConverter g).port = S.port ∧
    (S.askConverter g).stab.state = S.stab.state ∧ (S.askConverter g).stab.mailbox = S.stab.mailbox ∧
    (S.askConverter g).stab.missedRun = S.stab.missedRun ∧ (S.askConverter g).stab.railRun = S.stab.railRun ∧
    (S.askConverter g).stab.cond = S.stab.cond ∧ (S.askConverter g).stab.gains = S.stab.gains := by
  simp only [State.askConverter, a, false_and, ite_false]
  split
  · cases g <;> simp [State.miss]
  · simp

/-- Offset learning writes the offset, the remainder and its run (R79). -/
theorem GyroAxis.learn_keeps (x : GyroAxis) (r : Int) : (x.learn r).value = x.value ∧ (x.learn r).status = x.status ∧
    (x.learn r).acc = x.acc ∧ (x.learn r).traw = x.traw ∧ (x.learn r).target = x.target ∧ (x.learn r).duty = x.duty := by
  simp only [GyroAxis.learn]; (repeat' split) <;> simp

/-- The pan test writes the sub-state, its run and the cleared runs (R78). -/
theorem Stabiliser.panTest_keeps (t : Stabiliser) (sub a b) (h : t.state = .active sub) :
    (∃ sub', (t.panTest sub a b).state = .active sub') ∧
    ((t.panTest sub a b).yaw = t.yaw ∨ (t.panTest sub a b).yaw = t.yaw.panned) ∧
     ((t.panTest sub a b).pitch = t.pitch ∨ (t.panTest sub a b).pitch = t.pitch.panned) ∧
    (t.panTest sub a b) = { t with state := (t.panTest sub a b).state, panExit := (t.panTest sub a b).panExit, yaw := (t.panTest sub a b).yaw, pitch := (t.panTest sub a b).pitch } := by
  cases sub <;> simp only [Stabiliser.panTest] <;> (repeat' split) <;> (cases t; simp_all)

/-- A converter that becomes free with nothing waiting is IDLE (R28). -/
theorem State.becomeFree_of_none (n) (s : State) (o : s.conv.owed = false) (p : s.conv.pending = ⟨false,false,false,false⟩) :
    s.becomeFree (n+1) = { s with conv.activity := .idle } := by
  simp [State.becomeFree, o, p, GroupSet.highest]

end Sys2Proof.Machine
end

