-- ==== Sys2Proof/Laws/Stabiliser.lean ====
section
/-! SUPPORT. The stabiliser: what its operations do, in the words of Safety.lean. -/

namespace Sys2Proof.Machine

/-- The conditions as one Bool (R67). -/
theorem Conditions.allHold_iff (c : Conditions) :
    c.allHold ↔ (c.run && c.zoomHomed && c.gyroEnabled && c.gyroValid) = true := by
  simp [Conditions.allHold, and_assoc]

/-- What an update of the copies under a setting does (R66 to R68, R70). -/
theorem State.stabUpdate_follows (on : Bool) (c : Conditions) (s : State) :
    StabFollows on c s ({ s with stab.setting := on }.stabUpdate c) := by
  refine ⟨_, rfl, fun r h => ?_, fun h => ⟨fun h1 h2 => ⟨fun sub hs => ?_, fun hs => ?_⟩, ?_⟩⟩
  · simp [State.stabUpdate, State.stabBecomes, Stabiliser.reevaluate, Stabiliser.isFault, h]
  · have := (c.allHold_iff).1 h2
    simp [State.stabUpdate, State.stabBecomes, Stabiliser.reevaluate, Stabiliser.isFault, Stabiliser.isActive, Stabiliser.implied, hs, h1, this]
  · have := (c.allHold_iff).1 h2
    cases hst : s.stab.state <;> simp_all [State.stabUpdate, State.stabBecomes, Stabiliser.reevaluate, Stabiliser.isFault, Stabiliser.isActive, Stabiliser.implied, Stabiliser.enter, Stabiliser.blocking, State.post]
  · rintro st b (⟨h1, h2, rfl, rfl⟩ | ⟨rfl, rfl, rfl⟩)
    · have h3 : ¬(((c.run = true ∧ c.zoomHomed = true) ∧ c.gyroEnabled = true) ∧ c.gyroValid = true) := by
        unfold Conditions.allHold at h2; tauto
      subst h1
      cases hst : s.stab.state with
      | fault r => exact absurd hst (h r)
      | _ => simp [hst, h3, State.stabUpdate, State.stabBecomes, Stabiliser.reevaluate, Stabiliser.isFault, Stabiliser.isActive, Stabiliser.implied, Stabiliser.enter, Stabiliser.blocking, State.post, blockedBy, blockingOf, leftActive, Stabiliser.leaveActive, centredAxis, GyroAxis.centred]
    · cases hst : s.stab.state <;> simp_all [State.stabUpdate, State.stabBecomes, Stabiliser.reevaluate, Stabiliser.isFault, Stabiliser.isActive, Stabiliser.implied, Stabiliser.enter, Stabiliser.blocking, State.post, leftActive, Stabiliser.leaveActive, centredAxis, GyroAxis.centred]

/-- What an update of the copies does (R67, R68, R70). -/
theorem State.stabUpdate_follows_setting (c : Conditions) (s : State) :
    StabFollows s.stab.setting c s (s.stabUpdate c) := State.stabUpdate_follows s.stab.setting c s

/-- What a setting given to the stabiliser does (R66, R69). -/
theorem State.stabSetting_taken (on : Bool) (s : State) : StabSettingTaken on s (s.stabSetting on) := by
  refine ⟨fun h => ?_, fun r h => ⟨fun h1 => ?_, fun h1 h2 => ?_, fun h1 h2 => ?_⟩⟩
  · have : s.stab.isFault = false := by
      unfold Stabiliser.isFault; cases hs : s.stab.state <;> simp_all
    unfold State.stabSetting
    rw [if_neg (by simp [this])]
    exact State.stabUpdate_follows on s.stab.cond s
  · subst h1; simp [State.stabSetting, Stabiliser.isFault, h]
  · rw [Conditions.allHold_iff] at h2
    subst h1
    simp [State.stabSetting, Stabiliser.isFault, h, State.stabClear, State.stabBecomes, Stabiliser.implied, h2, Stabiliser.blocking, State.condition, State.setWarned, Warnings.setEntry, State.post]
  · have h3 : ¬(((s.stab.cond.run = true ∧ s.stab.cond.zoomHomed = true) ∧ s.stab.cond.gyroEnabled = true) ∧ s.stab.cond.gyroValid = true) := by
      unfold Conditions.allHold at h2; tauto
    subst h1
    simp [State.stabSetting, Stabiliser.isFault, h, State.stabClear, State.stabBecomes, Stabiliser.implied, h3, Stabiliser.blocking, State.condition, State.setWarned, Warnings.setEntry, State.post, blockedBy, blockingOf]

/-- The gain the model computes is that of R76. -/
theorem gainAt_gainOf (g : Vector Nat 17) (position span : Int) : GainOf g position span (gainAt g position span) := by
  intro hs zoom hz
  have hc : clampInt 0 span position = zoom := by unfold clampInt; omega
  refine ⟨fun h => ?_, fun i f hf h0 h1 => ?_⟩
  · unfold gainAt
    have : (16 * zoom).tdiv span = 16 := by rw [h]; exact Int.mul_tdiv_cancel _ (by omega)
    simp [hc, this, Vector.get, List.getD]
  · have hz0 : 0 ≤ 16 * zoom := by omega
    have hi : (16 * zoom).tdiv span = i.val := by
      rw [Int.tdiv_eq_ediv_of_nonneg hz0, hf]
      rw [Int.add_comm, Int.add_mul_ediv_right _ _ (by omega), Int.ediv_eq_zero_of_lt h0 h1, Int.zero_add]
    have hm : (16 * zoom).tmod span = f := by
      rw [Int.tmod_eq_emod_of_nonneg hz0, hf, Int.add_comm, Int.add_mul_emod_self_right, Int.emod_eq_of_lt h0 h1]
    unfold gainAt
    simp only [hc, hi, hm]
    rw [if_neg (by omega)]
    have e1 : g.toList.getD i.val 0 = g.get i.castSucc := by
      have : i.val < 17 := by omega
      simp [Vector.get, List.getD, this]
    have e2 : g.toList.getD (i.val + 1) 0 = g.get i.succ := by
      have : i.val + 1 < 17 := by omega
      simp [Vector.get, List.getD, this]
    rw [Int.toNat_natCast, e1, e2]

/-- What the computation of one axis does (R74, R75, R77). -/
theorem GyroAxis.compute_computed (x : GyroAxis) (sub : SubState) (gain : Int) (r : ResultRec) :
    AxisComputed sub gain r x ((x.take r).compute sub gain) := by
  unfold GyroAxis.compute GyroAxis.take accumulate rateAt rawTarget leakOf clampInt
  refine ⟨rfl, ?_, rfl, ?_, rfl, fun h => ?_, fun h => ?_⟩
  · cases sub <;> dsimp only <;> omega
  · dsimp only; omega
  · exact if_pos h
  · dsimp only at h ⊢
    rw [if_neg (by omega)]
    cases sub <;> simp

/-- What a step of offset learning does (R79). -/
theorem GyroAxis.learn_learned (x : GyroAxis) (r : Int) : AxisLearned r x (x.learn r) := by
  unfold GyroAxis.learn
  refine ⟨fun h => if_pos h, fun h h' => ?_, fun h h' => ?_⟩
  · rw [if_neg (by omega), if_pos h']
  · rw [if_neg (by omega), if_neg (by omega)]
    simp only [clampInt]
    congr 1
    omega

/-- What the pan test and the learning do after the computation (R78, R79). -/
theorem State.computed_panTested (sub : SubState) (gain : Int) (s : State) (hs : s.stab.state = .active sub)
    (hg : gain = gainAt s.stab.gains s.lens.zoom.position s.lens.zoom.span) :
    PanTestedAndLearned sub (rateAt s.stab.yaw) (rateAt s.stab.pitch) (s.stab.yaw.compute sub gain) (s.stab.pitch.compute sub gain)
      s (s.stabBecomes (s.stab.compute sub s.lens.zoom.position s.lens.zoom.span)) := by
  refine ⟨_, _, _, GyroAxis.learn_learned _ _, GyroAxis.learn_learned _ _, rfl, ?_, ?_, ?_, ?_⟩
  · rintro rfl h
    subst hg
    simp only [Stabiliser.compute, Stabiliser.panTest]
    rw [if_pos h]
    simp [Stabiliser.learn, State.stabBecomes, hs, State.post, Stabiliser.blocking, GyroAxis.panned]
  · rintro rfl h h'
    subst hg
    simp only [Stabiliser.compute, Stabiliser.panTest]
    rw [if_neg (by omega)]
    simp [Stabiliser.learn, State.stabBecomes, hs]
  · rintro rfl h
    subst hg
    simp only [Stabiliser.compute, Stabiliser.panTest]
    rw [if_pos h]
    simp [Stabiliser.learn, State.stabBecomes, hs, State.post, Stabiliser.blocking]
  · rintro rfl h
    subst hg
    simp only [Stabiliser.compute, Stabiliser.panTest]
    rw [if_neg (by omega)]
    simp [Stabiliser.learn, State.stabBecomes, hs]

end Sys2Proof.Machine
end

