-- ==== Sys2Proof/Laws/Control.lean ====
section
/-! SUPPORT. The control event: what its operations do, in the words of Safety.lean. -/

namespace Sys2Proof.Machine

/-- The target speed the model computes is that of R41. -/
theorem Lens.targetSpeed_is (l : Lens) (ax : Axis) : TargetSpeed l ax (l.targetSpeed ax) := by
  refine ⟨fun h => ?_, fun h1 h2 => ?_, fun h1 h2 => ?_, fun h1 h2 => ?_, fun h1 h2 => ?_, fun t speed h1 h2 h3 => ?_⟩
  · unfold Lens.targetSpeed; simp [h]
  · subst h2; unfold Lens.targetSpeed; simp [h1]
  · unfold Lens.targetSpeed; simp [h1, AxisRec.phase, h2]
  · unfold Lens.targetSpeed; simp [h1, AxisRec.phase, h2]
  · unfold Lens.targetSpeed; simp [h1, h2]
  · have hg : (l.axis ax).gotoTargetSpeed = if (l.axis ax).position < t then (speed : Int) else if t < (l.axis ax).position then -(speed : Int) else 0 := by
      unfold AxisRec.gotoTargetSpeed; simp [h1, h2]
    have : l.targetSpeed ax = (l.axis ax).gotoTargetSpeed := by
      rcases h3 with ⟨h3, rfl⟩ | h3 | ⟨h3, h4⟩ | ⟨h3, h4⟩
      · unfold Lens.targetSpeed; simp [h3]
      · unfold Lens.targetSpeed; simp [h3]
      · unfold Lens.targetSpeed; simp [h3, h4]
      · unfold Lens.targetSpeed; simp [h3, AxisRec.phase, h4]
    rw [this, hg]
    exact ⟨fun h => if_pos h, fun h => by rw [if_neg (by omega), if_pos h]⟩

/-- The limited target speed the model computes is that of R42. -/
theorem Lens.limitedSpeed_is (l : Lens) (ax : Axis) (goal : Int) : LimitedSpeed l ax goal (l.limitedSpeed ax goal) := by
  refine ⟨l.speedLimit ax, _, (l.axis ax).distance goal, _, rfl, rfl, ?_, ?_, ?_, rfl, ?_, ?_⟩
  · intro t h; unfold AxisRec.distance; simp [h]
  · intro h h'; unfold AxisRec.distance; simp [h, h']
  · intro h h'; unfold AxisRec.distance; simp [h, not_lt.2 h']
  · intro h
    unfold Lens.limitedSpeed clampInt AxisRec.capped
    dsimp only
    simp only [decide_eq_true_eq]
    revert h; generalize (if (l.axis ax).homing = .homed ∨ (l.axis ax).homing = .homing .park then min (l.speedLimit ax) (40 * (l.axis ax).distance goal) else l.speedLimit ax) = cap; intro h
    omega
  · intro h
    unfold Lens.limitedSpeed clampInt AxisRec.capped
    dsimp only
    simp only [decide_eq_true_eq]
    revert h; generalize (if (l.axis ax).homing = .homed ∨ (l.axis ax).homing = .homing .park then min (l.speedLimit ax) (40 * (l.axis ax).distance goal) else l.speedLimit ax) = cap; intro h
    omega

/-- What the end of a hold writes (R52). -/
theorem State.endHold_eq (ax : Axis) (o : MotionOutcome) (s : State) : s.endHold ax o = { s with
    lens := (s.lens.setAxis (unheld (s.axis ax)) ax).stopDrive ax
    port := heldEnds s.port ax o (s.axis ax) } := by
  unfold State.endHold State.motionDone heldEnds
  cases (s.axis ax).owner <;> rfl

/-- When the motion state is FAULT (R38). -/
theorem motionOf_fault (a : AxisRec) : motionOf a = .fault ↔ a.fault = true ∧ a.owner ≠ .homing := by
  unfold motionOf
  split
  · simp_all
  · split <;> [simp_all; skip]
    split <;> simp_all

/-- An axis record that was replaced is read back. -/
theorem Lens.setAxis_axis (l : Lens) (a : AxisRec) (ax : Axis) : (l.setAxis a ax).axis ax = a := by cases ax <;> rfl

/-- The later of two replacements of an axis record stands. -/
theorem Lens.setAxis_setAxis (l : Lens) (a b : AxisRec) (ax : Axis) : (l.setAxis a ax).setAxis b ax = l.setAxis b ax := by cases ax <;> rfl

/-- What gap, ramp, release and duty do at a limited speed (R43, R44). -/
theorem Lens.ramped (l : Lens) (ax : Axis) (limited : Int) : ∃ b, Ramped l ax limited b ∧
    (let l' := (l.setAxis ((l.axis ax).ramp (l.gap ax) limited) ax).releaseRocker ax
     l'.setAxis ((l'.axis ax).drive (l'.vmax ax)) ax) = l.setAxis b ax := by
  obtain ⟨r, hr⟩ : ∃ r, r = (l.axis ax).ramp (l.gap ax) limited := ⟨_, rfl⟩
  have hrr : r = { l.axis ax with gap := r.gap, vcmd := r.vcmd } := by
    rw [hr]; unfold AxisRec.ramp; split <;> [rfl; split <;> [rfl; split <;> [rfl; split <;> rfl]]]
  refine ⟨_, ⟨l.axis ax, r.vcmd, r.gap, rfl, ?_, ?_, ?_, rfl⟩, ?_⟩
  · intro h; rw [hr]; unfold AxisRec.ramp; rw [if_pos h]; exact ⟨rfl, rfl⟩
  · intro h h'; rw [hr]; unfold AxisRec.ramp; rw [if_neg (by omega), if_pos h']; exact ⟨h, rfl⟩
  · intro h h'
    have h'' : ¬(l.axis ax).pause.isSome = true := by simp [h']
    refine ⟨fun h1 => ?_, fun h1 => ⟨?_, fun h2 => ?_, fun h2 => ?_⟩⟩
    · rw [hr]; unfold AxisRec.ramp; rw [if_neg (by omega), if_neg h'', if_pos h1]; exact ⟨rfl, rfl⟩
    · rw [hr]; unfold AxisRec.ramp; rw [if_neg (by omega), if_neg h'', if_neg h1]; split <;> exact h
    · rw [hr]; unfold AxisRec.ramp; rw [if_neg (by omega), if_neg h'', if_neg h1, if_pos h2]
    · rw [hr]; unfold AxisRec.ramp; rw [if_neg (by omega), if_neg h'', if_neg h1, if_neg (by omega)]
      simp only [clampInt]; omega
  · rw [← hr]
    cases ax
    · dsimp only [Lens.releaseRocker, Lens.setAxis, Lens.axis, Lens.vmax]
      have hpo : r.owner = l.zoom.owner := by rw [hrr]; rfl
      have hpp : r.pause = l.zoom.pause := by rw [hrr]; rfl
      by_cases hc : r.owner = .operator ∧ l.demand = 0 ∧ r.vcmd = 0
      · rw [if_pos hc]
        have hc' : True ∧ l.zoom.owner = .operator ∧ l.demand = 0 ∧ r.vcmd = 0 := ⟨trivial, hpo ▸ hc.1, hc.2⟩
        simp only [true_and]
        rw [if_pos hc'.2]
        rw [hrr]
        simp [AxisRec.drive, AxisRec.released, unheld, dutyOf, Lens.axis, hc.2.2]
      · rw [if_neg hc]
        simp only [true_and]
        rw [if_neg (by rw [← hpo]; exact hc)]
        rw [hrr]
        clear hrr hr
        by_cases hp : l.zoom.pause.isSome = true <;> by_cases hv : r.vcmd = 0 <;> simp [AxisRec.drive, dutyOf, Lens.axis, hp, hv]
    · dsimp only [Lens.releaseRocker, Lens.setAxis, Lens.axis, Lens.vmax]
      rw [hrr]
      clear hrr hr
      by_cases hp : l.focus.pause.isSome = true <;> by_cases hv : r.vcmd = 0 <;> simp [AxisRec.drive, dutyOf, Lens.axis, hp, hv]

/-- LENS_FAULT while an axis has its fault flag set (R46). -/
theorem State.lensFault_placed (s : State) (h : s.lens.zoom.fault = true ∨ s.lens.focus.fault = true) :
    s.lensFault = { s with ovl.warnings.lensFault := .placed } := by
  simp [State.lensFault, State.condition, State.setWarned, Warnings.setEntry, h]

/-- What the stall watch does (R45, R46). -/
theorem State.stallWatch_watched (ax : Axis) (s : State) (b : AxisRec) (h : s.axis ax = b) :
    StallWatched ax b s (s.stallWatch ax) := by
  subst h
  have hset : ∀ a, s.setAxis ax a = { s with lens := s.lens.setAxis a ax } := fun _ => rfl
  refine ⟨fun h => ?_, fun start h1 h2 hs => ⟨fun h3 => ?_, fun h3 => ?_⟩⟩
  · have e : (s.axis ax).watchRun s.clock = { s.axis ax with dutyRun := none } := by
      unfold AxisRec.watchRun; simp only [if_pos h]
    unfold State.stallWatch
    simp only [e, AxisRec.stalled]
    rfl
  · have e : (s.axis ax).watchRun s.clock = { s.axis ax with dutyRun := some start } := by
      unfold AxisRec.watchRun; rw [hs, if_neg (by rintro (h | h); exacts [h1 h, by omega])]
    have hst : ({ s.axis ax with dutyRun := some start } : AxisRec).stalled s.clock = false := by
      show decide (max start ((s.axis ax).lastEdge.getD 0) + 50000 ≤ s.clock) = false
      exact decide_eq_false (by omega)
    unfold State.stallWatch
    simp only [e, hst]
    rfl
  · have e : (s.axis ax).watchRun s.clock = { s.axis ax with dutyRun := some start } := by
      unfold AxisRec.watchRun; rw [hs, if_neg (by rintro (h | h); exacts [h1 h, by omega])]
    have hst : ({ s.axis ax with dutyRun := some start } : AxisRec).stalled s.clock = true := by
      show decide (max start ((s.axis ax).lastEdge.getD 0) + 50000 ≤ s.clock) = true
      exact decide_eq_true h3
    refine ⟨fun h4 => ?_, fun t₁ h4 h5 => ?_⟩
    · have hsu : suspectHeld { s.axis ax with dutyRun := some start } s.clock = false := by
        unfold suspectHeld
        cases hx : (s.axis ax).suspect with
        | none => rfl
        | some t => exact decide_eq_false (by have := h4 t hx; unfold suspectTime; omega)
      unfold State.stallWatch
      simp only [e, hst, hsu]
      rfl
    · have hsu : suspectHeld { s.axis ax with dutyRun := some start } s.clock = true := by
        unfold suspectHeld
        simp only [h4]
        exact decide_eq_true h5
      unfold State.stallWatch
      simp only [e, hst, hsu, if_true]
      unfold State.confirmStall
      rw [State.endHold_eq]
      rw [State.lensFault_placed]
      · cases ax <;> simp [State.setAxis, State.axis, Lens.setAxis, Lens.axis, Lens.stopDrive, unheld, heldEnds]
      · cases ax <;> simp [State.setAxis, State.axis, Lens.setAxis, Lens.axis, Lens.stopDrive, unheld, heldEnds]

/-- The stall watch of a record that is written first (R45). -/
theorem StallWatched.of_setAxis (ax : Axis) (b : AxisRec) (s t : State) (h : StallWatched ax b { s with lens := s.lens.setAxis b ax } t) :
    StallWatched ax b s t := by
  unfold StallWatched at *
  simpa [Lens.setAxis_setAxis] using h

/-- What a control event does from its target speed on (R42 to R46). -/
theorem State.controlSpeed_taken (ax : Axis) (goal : Int) (s : State) : SpeedTaken ax goal s (s.controlSpeed ax goal) := by
  obtain ⟨b, hb, he⟩ := s.lens.ramped ax (s.lens.limitedSpeed ax goal)
  refine ⟨_, b, s.lens.limitedSpeed_is ax goal, hb, ?_⟩
  apply StallWatched.of_setAxis
  have hc : s.controlSpeed ax goal = { s with lens := s.lens.setAxis b ax }.stallWatch ax := by
    unfold State.controlSpeed
    dsimp only at he ⊢
    rw [he]
  rw [hc]
  apply State.stallWatch_watched
  exact Lens.setAxis_axis _ _ _

/-- What the rocker does at a control event (R53). -/
theorem State.claimAt_claims (ax : Axis) (s : State) : RockerClaims ax s (s.claimAt ax) := by
  refine ⟨fun h h1 h2 h3 h4 => ?_, fun h => ?_⟩
  · subst h
    have hm : motionOf s.lens.zoom ≠ .fault := by rw [Ne, motionOf_fault]; simp [h3]
    unfold State.claimAt State.rockerClaim
    rcases h4 with h4 | h4 | h4 <;>
    · simp only [h4, h2]
      simp only [ne_eq, not_false_eq_true, hm, and_self, State.endHold_eq]
      simp [heldEnds, State.axis, Lens.axis, Lens.setAxis, Lens.stopDrive, unheld, h4, h1, h2]
  · cases ax
    · unfold State.claimAt State.rockerClaim
      dsimp only
      rw [if_neg]
      rintro ⟨a, b, c, d⟩
      rw [Ne, motionOf_fault] at c
      rcases h with h | h | h | h | h | h
      · cases h
      · exact a h
      · simp [b] at h
      · cases ho : s.lens.zoom.owner <;> simp_all
      · simp [h] at d
      · simp [h] at d
    · rfl

/-- What the arrival of a goto does (R41). -/
theorem State.arrive_arrives (ax : Axis) (s : State) : GotoArrives ax s (s.arrive ax) := by
  refine ⟨fun h => ?_, fun h => ?_⟩
  · unfold State.arrive
    rcases h with h | h <;> simp only [h, State.endHold_eq, heldEnds] <;>
      cases ax <;> simp [State.setAxis, State.axis, Lens.setAxis, Lens.axis, Lens.stopDrive, unheld]
  · unfold State.arrive
    rcases h with h | h <;> simp only [h] <;> cases ax <;> rfl

/-- What the arrival of a PARK goto does (R49). -/
theorem State.completeHoming_completes (ax : Axis) (s : State) : HomingCompletes ax s (s.completeHoming ax) := by
  refine ⟨_, _, rfl, rfl, ?_, ?_⟩
  · rintro rfl
    simp [State.completeHoming, State.setAxis, State.axis, Lens.setAxis, Lens.axis, State.lensFault, State.condition, State.setWarned,
      Warnings.setEntry, State.post, AxisRec.released, unheld]
  · rintro rfl
    refine ⟨vmap (fun _ p => if s.lens.zoom.span < p then s.lens.zoom.span else p) s.lens.presets, ?_, ?_⟩
    · intro n; simp [vmap]
    · have := State.stabUpdate_follows_setting { s.stab.cond with zoomHomed := true }
        ({ ({ s with
          lens := { s.lens with zoom := { unheld s.lens.zoom with homing := .homed, spanBefore := none, vcmd := 0, homingTimer := none, fault := false }, presets := vmap (fun _ p => if s.lens.zoom.span < p then s.lens.zoom.span else p) s.lens.presets }
          ovl.warnings.lensFault := if s.lens.focus.fault then .placed else .absent
          port := s.port.post (.homeDone .zoom (.homed s.lens.zoom.span)) } : State) with clock := s.clock })
      convert this using 1
      show State.stabUpdate _ _ = State.stabUpdate _ _
      congr 1
      simp [State.axis, Lens.setAxis, Lens.axis, unheld]

/-- What the abandoning of a homing run does (R50, R67). -/
theorem State.abandonHoming_abandons (ax : Axis) (r : AbandonReason) (s v : State)
    (h : v = { s with
      lens := s.lens.setAxis { unheld (s.axis ax) with
        vcmd := 0, homing := .abandoned r, homingTimer := none
        span := (s.axis ax).spanBefore.getD (s.axis ax).span, spanBefore := none } ax
      port := s.port.post (.homeDone ax (.abandoned r)) }) :
    (ax = .focus → s.abandonHoming ax r = v) ∧
    (ax = .zoom → StabFollows s.stab.setting { s.stab.cond with zoomHomed := false } v (s.abandonHoming ax r)) := by
  subst h
  refine ⟨?_, ?_⟩
  · rintro rfl; rfl
  · rintro rfl; exact State.stabUpdate_follows_setting _ _

end Sys2Proof.Machine
end

