-- ==== Sys2Proof/Laws/Overlay.lean ====
section
/-! SUPPORT. The overlay: the two layers, dirty rows, and what a field change marks. -/

namespace Sys2Proof.Machine

/-- A displayed cell depends on its host cell and the table (R164). -/
theorem Overlay.displayedCell_congr (o o' : Overlay) (page : Fin 4) (row : Fin 16) (column : Fin 40) (hf : o'.fields = o.fields)
    (hh : o'.hostCell page row column = o.hostCell page row column) :
        o'.displayedCell page row column = o.displayedCell page row column := by
  unfold Overlay.displayedCell; rw [hf, hh]

/-- Two displayed rows differ where one of their cells does. -/
theorem Overlay.displayedRow_ne_iff (o o' : Overlay) (page : Fin 4) (row : Fin 16) :
    o.displayedRow page row ≠ o'.displayedRow page row ↔ ∃ c, o'.displayedCell page row c ≠ o.displayedCell page row c := by
  constructor
  · intro h; by_contra hc; push Not at hc; apply h; apply vector_ext_get; intro i; simp [Overlay.displayedRow, hc i]
  · rintro ⟨c, hc⟩ h; apply hc; have := congrArg (fun v => v.get c) h; simpa [Overlay.displayedRow, vector_get_ofFn] using this.symm

/-- The write of a host layer (R176). -/
theorem Overlay.setCells_becomes (o : Overlay) (page : Fin 4) (cells : Fin 16 → Fin 40 →
    Cell) : LayerBecomes o (o.setCells page cells) page cells := by
  refine ⟨rfl, fun p hp => ?_, ?_, fun r c => ?_, fun r => ?_⟩
  · simp [Overlay.setCells, Overlay.markChanged, vector_get_set, Ne.symm hp]
  · simp [Overlay.setCells, Overlay.markChanged, vector_get_set]
  · simp [Overlay.hostCell, Overlay.setCells, Overlay.markChanged, vector_get_set]
  · have hx : ∀ c, (o.setCells page cells).displayedCell page r c = ({ o with pages := o.pages.set page { o.pages.get page with cells := .ofFn fun r => .ofFn fun c => cells r c } } : Overlay).displayedCell page r c := by
      intro c; apply Overlay.displayedCell_congr; rfl; simp [Overlay.hostCell, Overlay.setCells, Overlay.markChanged, vector_get_set]
    simp only [hx, ← Overlay.displayedRow_ne_iff]
    simp only [Overlay.setCells, Overlay.markChanged, vector_get_set, vector_get_ofFn, if_true, Bool.or_eq_true, decide_eq_true_eq]

/-- The layer that a write leaves, in another form. -/
theorem LayerBecomes.congr {o o' : Overlay} {page cells cells'} (h : LayerBecomes o o' page cells) (hc : ∀ r c, cells r c = cells' r c) : LayerBecomes o o' page cells' := by
  have : cells = cells' := by funext r c; exact hc r c
  exact this ▸ h

/-- One dirty row (R176). -/
theorem Overlay.markRow_marks (o : Overlay) (p : Fin 4) (r : Fin 16) : MarksRows o (o.markRow p r) p fun x => decide (x = r) := by
  refine ⟨rfl, fun q hq => ?_, ?_, ?_, fun x => ?_⟩ <;> simp [Overlay.markRow, vector_get_set, *]
  · simp [hq.symm]
  · by_cases hx : x = r
    · simp [hx]
    · simp [hx, Ne.symm hx]

/-- Every row of a page (R176). -/
theorem Overlay.markPage_marks (o : Overlay) (p : Fin 4) : MarksRows o (o.markPage p) p fun _ => true := by
  refine ⟨rfl, fun q hq => ?_, ?_, ?_, fun x => ?_⟩ <;> simp [Overlay.markPage, vector_get_set, *]
  · simp [hq.symm]

/-- Nothing is marked. -/
theorem MarksRows.refl (o : Overlay) (p : Fin 4) : MarksRows o o p fun _ => false := by
  refine ⟨rfl, fun q hq => rfl, rfl, rfl, fun x => ?_⟩; simp

/-- Marks add up. -/
theorem MarksRows.trans {o o' o'' : Overlay} {p f g} (h : MarksRows o o' p f) (h' : MarksRows o' o'' p g) :
    MarksRows o o'' p fun r => f r || g r := by
  obtain ⟨a1, a2, a3, a4, a5⟩ := h; obtain ⟨b1, b2, b3, b4, b5⟩ := h'
  refine ⟨?_, fun q hq => (b2 q hq).trans (a2 q hq), b3.trans a3, b4.trans a4, fun r => ?_⟩
  · rw [b1, a1]
  · rw [b5, a5, Bool.or_assoc]

/-- What the hand-off of one live text leaves of a page (R165). -/
theorem Overlay.handField_pages (o : Overlay) (k : FieldKind) (text : List Cell) (p : Fin 4) :
    let o' := o.handField k text
    o'.displayed = o.displayed ∧ o'.menu = o.menu ∧ (o'.pages.get p).cells = (o.pages.get p).cells ∧
        (∀ r, (o.pages.get p).dirty.get r = true → (o'.pages.get p).dirty.get r = true) ∧
        (∀ k', (o'.fields.entry k').enable = (o.fields.entry k').enable) := by
  have he : ∀ (x : LiveField) k', x.enable = (o.fields.entry k).enable →
      ((o.fields.setEntry x k).entry k').enable = (o.fields.entry k').enable := by
    intro x k' hx; cases k <;> cases k' <;> first | exact hx | rfl
  simp only [Overlay.handField]
  split
  · exact ⟨rfl, rfl, rfl, fun _ h => h, fun _ => rfl⟩
  · split
    · simp only [Overlay.markRow]
      refine ⟨trivial, trivial, ?_, fun r h => ?_, fun k' => he _ _ rfl⟩
      · rw [vector_get_set]; split
        · next hh => rw [← hh]
        · rfl
      · rw [vector_get_set]; split
        · next hh => rw [vector_get_set]; split
                     · rfl
                     · rw [hh]; exact h
        · exact h
    · exact ⟨rfl, rfl, rfl, fun _ h => h, fun k' => he _ _ rfl⟩

/-- What the end of a step leaves of a page (R165). -/
theorem publish_pages (s : State) (p : Fin 4) :
    (publish s).ovl.displayed = s.ovl.displayed ∧ (publish s).ovl.menu = s.ovl.menu ∧
        ((publish s).ovl.pages.get p).cells = (s.ovl.pages.get p).cells ∧ (∀ r, (s.ovl.pages.get p).dirty.get r = true →
        ((publish s).ovl.pages.get p).dirty.get r = true) ∧
        (∀ k', ((publish s).ovl.fields.entry k').enable = (s.ovl.fields.entry k').enable) := by
  have key : ∀ (l : List FieldKind) (o : Overlay),
    let o' := l.foldl (fun o k => o.handField k (render s k)) o
    o'.displayed = o.displayed ∧ o'.menu = o.menu ∧ (o'.pages.get p).cells = (o.pages.get p).cells ∧
        (∀ r, (o.pages.get p).dirty.get r = true → (o'.pages.get p).dirty.get r = true) ∧
        (∀ k', (o'.fields.entry k').enable = (o.fields.entry k').enable) := by
    intro l
    induction l with
    | nil => intro o; exact ⟨rfl, rfl, rfl, fun _ h => h, fun _ => rfl⟩
    | cons k l ih =>
      intro o
      obtain ⟨a1, a2, a3, a4, a5⟩ := ih (o.handField k (render s k))
      obtain ⟨b1, b2, b3, b4, b5⟩ := Overlay.handField_pages o k (render s k) p
      exact ⟨a1.trans b1, a2.trans b2, a3.trans b3, fun r h => a4 r (b4 r h), fun k' => (a5 k').trans (b5 k')⟩
  exact key _ _

/-- What the hand-off of one live text leaves of the overlay (R165). -/
theorem Overlay.handField_keeps (o : Overlay) (k : FieldKind) (text : List Cell) :
    let o' := o.handField k text
    o' = { o with pages := o'.pages, fields := o'.fields } ∧ (∀ p, (o'.pages.get p).cursor = (o.pages.get p).cursor) ∧
      ∀ k', o'.fields.entry k' = { o.fields.entry k' with text := (o'.fields.entry k').text } := by
  have he : ∀ k', (o.fields.setEntry { o.fields.entry k with text := text } k).entry k' =
      { o.fields.entry k' with text := ((o.fields.setEntry { o.fields.entry k with text := text } k).entry k').text } := by
    intro k'; cases k <;> cases k' <;> rfl
  simp only [Overlay.handField]
  split
  · exact ⟨rfl, fun _ => rfl, fun _ => rfl⟩
  · split
    · refine ⟨rfl, fun p => ?_, he⟩
      simp only [Overlay.markRow, vector_get_set]
      split
      · next hh => rw [← hh]
      · rfl
    · exact ⟨rfl, fun _ => rfl, he⟩

/-- What the end of a step leaves of the overlay: texts and dirty rows alone may change (R165, R176). -/
theorem publish_keeps (s : State) :
    (publish s).ovl = { s.ovl with pages := (publish s).ovl.pages, fields := (publish s).ovl.fields } ∧
      (∀ p, ((publish s).ovl.pages.get p).cursor = (s.ovl.pages.get p).cursor) ∧
      ∀ k, (publish s).ovl.fields.entry k = { s.ovl.fields.entry k with text := ((publish s).ovl.fields.entry k).text } := by
  have key : ∀ (l : List FieldKind) (o : Overlay),
    let o' := l.foldl (fun o k => o.handField k (render s k)) o
    o' = { o with pages := o'.pages, fields := o'.fields } ∧ (∀ p, (o'.pages.get p).cursor = (o.pages.get p).cursor) ∧
      ∀ k', o'.fields.entry k' = { o.fields.entry k' with text := (o'.fields.entry k').text } := by
    intro l
    induction l with
    | nil => intro o; exact ⟨rfl, fun _ => rfl, fun _ => rfl⟩
    | cons k l ih =>
      intro o
      obtain ⟨a1, a2, a3⟩ := ih (o.handField k (render s k))
      obtain ⟨b1, b2, b3⟩ := Overlay.handField_keeps o k (render s k)
      refine ⟨?_, fun p => (a2 p).trans (b2 p), fun k' => ?_⟩
      · simp only [List.foldl_cons]
        rw [a1, b1]
      · simp only [List.foldl_cons]
        rw [a3 k', b3 k']
  exact key _ _

end Sys2Proof.Machine
end

