-- ==== Sys2Proof/Laws/Port.lean ====
section
/-! SUPPORT. The command port: frames, the queue, the release of an entry. -/

namespace Sys2Proof.Machine

/-- Every kind has its code in the catalogue. -/
theorem kindOf_kindCode (k : Kind) : (kindOf (kindCode k)).isSome = true := by cases k <;> rfl

/-- The catalogue and the well-formedness check agree. -/
theorem kindOf_isSome_eq_catalogued : ∀ kind : Byte, (kindOf kind).isSome = catalogued kind := by decide

/-- What a request command is: `request` of its kind, its TAG and its owner. -/
theorem exec_eq_request (i : Instr) (k : Kind) (tag : Byte) (h : requestOf i = some (k, tag)) :
    ∃ owner, ∀ s, exec i s = request k tag owner s := by
  cases i <;> simp only [requestOf, Option.some.injEq, Prod.mk.injEq, reduceCtorEq] at h <;>
    (obtain ⟨rfl, rfl⟩ := h; exact ⟨_, fun s => rfl⟩)

/-- The characters of a frame after LEN, while the frame is not whole. -/
theorem character_fold_inFrame (chars : List Byte) :
    ∀ (pre : List Byte) (len : Byte) (p : Port), p.assembler = .inFrame (len :: pre) →
    pre.length + chars.length < len.toNat + 3 → 
    chars.foldl Port.character p = {p with assembler := .inFrame (len :: (pre ++ chars))} := by
  induction chars with
  | nil => intro pre len p h _; simp [← h]
  | cons c cs ih =>
    intro pre len p h hl
    simp only [List.length_cons] at hl
    rw [List.foldl_cons]
    have : p.character c = {p with assembler := .inFrame (len :: (pre ++ [c]))} := by
      simp only [Port.character, h]
      rw [if_pos (by simp; omega)]
    rw [this, ih (pre ++ [c]) len _ rfl (by simp; omega)]
    simp

/-- A whole frame from a hunting assembler. -/
theorem character_fold_frame (kind tag check : Byte) (payload : List Byte) (p : Port) (hp : p.assembler = .hunting) (hl : payload.length ≤ 128) :
   ([0xA5, BitVec.ofNat 8 payload.length, kind, tag] ++ payload ++ [check]).foldl Port.character p
    = (({p with assembler := .inFrame (BitVec.ofNat 8 payload.length :: ([kind, tag] ++ payload)) }) :
        Port).frameEnd (BitVec.ofNat 8 payload.length :: ([kind, tag] ++ payload ++ [check])) := by
  have hn : (BitVec.ofNat 8 payload.length).toNat = payload.length := by simp; omega
  have e : [0xA5, BitVec.ofNat 8 payload.length, kind, tag] ++ payload ++ [check] = [0xA5, BitVec.ofNat 8 payload.length] ++ ([kind, tag] ++ payload) ++ [check] := by simp
  rw [e, List.foldl_append, List.foldl_append]
  have h0 : [0xA5, BitVec.ofNat 8 payload.length].foldl Port.character p = {p with assembler := .inFrame [BitVec.ofNat 8 payload.length]} := by
    simp only [List.foldl_cons, List.foldl_nil, Port.character, hp, if_true]
    rw [if_neg (by simp only [oversize, hn, decide_eq_true_eq]; omega)]
  rw [h0, character_fold_inFrame ([kind, tag] ++ payload) [] _ _ rfl (by rw [hn]; simp +arith)]
  simp only [List.nil_append, List.foldl_cons, List.foldl_nil, Port.character]
  rw [if_neg (by rw [hn]; simp)]

/-- A byte sum from any start. -/
theorem byteSum_from (l : List Byte) (x : Byte) : l.foldl (· + ·) x = x + byteSum l := by
  induction l generalizing x with
  | nil => simp [byteSum]
  | cons a l ih => simp only [byteSum, List.foldl_cons]; rw [ih, ih (0 + a)]; simp [BitVec.add_assoc]

/-- The check byte brings the sum to zero. -/
theorem byteSum_checkByte (l : List Byte) : byteSum (l ++ [checkByte l]) = 0 := by
  simp only [byteSum, List.foldl_append, List.foldl_cons, List.foldl_nil, checkByte]
  exact BitVec.add_right_neg _

/-- A line break keeps a queue of taken requests. -/
theorem dropUntaken_of_taken : ∀ q : List Entry, (∀ x ∈ q, x.state = .taken) → dropUntaken q = q := by
  intro q; induction q with
  | nil => intro _; rfl
  | cons e es ih => intro h; simp [dropUntaken, h e (by simp), ih (fun x hx => h x (by simp [hx]))]

/-- A line break keeps the request in hand and the taken ones. -/
theorem dropUntaken_at_inHand : ∀ (a b : List Entry) (e : Entry), (∀ x ∈ a, x.state = .taken) → e.state ≠ .taken →
    dropUntaken (a ++ e :: b) = a ++ e :: b.filter fun x => x.state = .taken := by
  intro a b e; induction a with
  | nil => intro _ h; simp [dropUntaken, h]
  | cons x es ih => intro h h'; simp [dropUntaken, h x (by simp), ih (fun x hx => h x (by simp [hx])) h']

/-- The oldest taken entry is the one released. -/
theorem releaseEntry_at : ∀ (a b : List Entry) (e : Entry), (∀ x ∈ a, x.state ≠ .taken) → e.state = .taken →
    releaseEntry (a ++ e :: b) = a ++ b := by
  intro a b e; induction a with
  | nil => intro _ h; simp [releaseEntry, h]
  | cons x es ih => intro h h'; simp [releaseEntry, h x (by simp), ih (fun x hx => h x (by simp [hx])) h']

/-- A transmitter with nothing waiting stays as it is. -/
theorem Port.kick_of_empty (p : Port) (h1 : p.tx = none) (h2 : p.replies = []) (h3 : p.notices = []) : p.kick = p := by
  unfold Port.kick; rw [h1, h2, h3]

/-- The outcome of a step whose state is known. -/
theorem finish_eq {s t : State} (h : s = t) : finish s = .next (settle t) := by rw [h]; rfl

/-! ## The request queue, the notice queue and the transmitter -/

/-- The request in hand becomes what its taking makes of it; the requests before it are taken (R196). -/
theorem setInHand_at (st : EntryState) : ∀ (a b : List Entry) (e : Entry), (∀ x ∈ a, x.state = .taken) → e.state ≠ .taken →
    setInHand st (a ++ e :: b) = a ++ { e with state := st } :: b := by
  intro a b e; induction a with
  | nil => intro _ h; simp [setInHand, h]
  | cons x es ih => intro h h'; simp [setInHand, h x (by simp), ih (fun x hx => h x (by simp [hx])) h']

/-- The request in hand is the oldest that is not taken (R196). -/
theorem Port.inHand_at (p : Port) (a b : List Entry) (e : Entry) (hq : p.queue = a ++ e :: b) (ha : ∀ x ∈ a, x.state = .taken)
    (he : e.state ≠ .taken) : p.inHand = some e := by
  unfold Port.inHand
  rw [hq, List.find?_append, List.find?_eq_none.mpr (by simpa using ha)]
  simp [he]

/-- No request is in hand where every request held is taken (R196). -/
theorem Port.inHand_none (p : Port) (h : ∀ x ∈ p.queue, x.state = .taken) : p.inHand = none :=
  List.find?_eq_none.mpr (by simpa using h)

/-- Which request the port passes (R195, R196). -/
theorem Port.takes_iff (p : Port) (kind tag : Byte) : p.takes kind tag = true ↔
    (∃ before e rest, p.queue = before ++ e :: rest ∧ (∀ x ∈ before, x.state = .taken) ∧ e.state = .untaken ∧ e.kind = kind ∧
      e.tag = tag) ∨ ((∀ x ∈ p.queue, x.state = .taken) ∧ p.queue.length < 4) := by
  unfold Port.takes
  cases h : p.inHand with
  | none =>
    have hall : ∀ x ∈ p.queue, x.state = .taken := by simpa using List.find?_eq_none.mp h
    simp only [decide_eq_true_eq]
    refine ⟨fun hl => .inr ⟨hall, hl⟩, ?_⟩
    rintro (⟨a, e, b, hq, -, he, -⟩ | ⟨-, hl⟩)
    · have := hall e (by rw [hq]; simp)
      rw [he] at this; exact absurd this (by decide)
    · exact hl
  | some e =>
    simp only [decide_eq_true_eq]
    constructor
    · rintro ⟨h1, h2, h3⟩
      obtain ⟨-, a, b, hq, ha⟩ := List.find?_eq_some_iff_append.mp h
      exact .inl ⟨a, e, b, hq, by simpa using ha, h1, h2, h3⟩
    · rintro (⟨a, e', b, hq, ha, he, hk, ht⟩ | ⟨hall, -⟩)
      · have := p.inHand_at a b e' hq ha (by rw [he]; decide)
        rw [h] at this; cases this
        exact ⟨he, hk, ht⟩
      · rw [p.inHand_none hall] at h; cases h

end Sys2Proof.Machine
end

