-- ==== Sys2Proof/Laws/Recorder.lean ====
section
/-! SUPPORT. The record supervisor and the clip log: what a stop, a failed start, a begun clip and a closed slot leave. -/

namespace Sys2Proof.Machine

/-- The test of the warnings writes two kinds (R107, R125). -/
theorem State.testWarnings_eq (s : State) : s.testWarnings = {s with ovl.warnings := {s.ovl.warnings with
   cardError := if s.recorder.cardError then .placed else .absent,
   mediaFull := if s.recorder.mediaFull then .placed else .absent}} := by
  simp [State.testWarnings, State.condition, State.setWarned, Warnings.setEntry]

/-- A beep request writes the beeper alone (R21). -/
theorem State.beep_eq (p : Pattern) (s : State) : s.beep p = {s with controls.beeper :=
   if s.controls.beepEnable = true ∧ s.controls.beeper = none then some ⟨p, s.clock + patternTime p⟩ else s.controls.beeper} := by
  unfold State.beep; split_ifs <;> rfl

/-- A change of media low with the tally lit (R123, R127). -/
theorem State.setMediaLow_eq (low : Bool) (s : State) (h : s.recorder.mediaLow = false) (h2 : s.recorder.tally = .lit) (h3 : s.recorder.lampOn = false) (h4 : s.recorder.blinkTimer = none): s.setMediaLow low = {s with
    recorder := {s.recorder with mediaLow := low, tally := if low then .blink4 else .lit, lampOn := low, blinkTimer := if low then some (s.clock + 125000) else none},
    ovl.warnings.mediaLow := if low then .placed else s.ovl.warnings.mediaLow} := by
  unfold State.setMediaLow
  cases low
  · rw [if_pos h.symm]; 
    rcases s with ⟨_,_,_,_,_,_,⟨⟩,_,_,_,_,_,_,_⟩; simp at h h2 h3 h4; simp [h, h2, h3, h4]
  · rw [if_neg (by simp [h])]; simp [State.condition, State.setWarned, Warnings.setEntry, State.tally, Recorder.setTally, blinkHalf]

/-- What a stop leaves (R119). -/
theorem State.stopRecording_eq (s : State) (r : EndReason) (n : Nat) (hc : s.recorder.clip = some n) : s.stopRecording r = { s with
        recorder := { s.recorder with
          state := .stopping, accountTimer := none, mediaLow := false, endLabel := some s.tc.stamp
          closeTimer := some (s.clock + 3000000), tally := .off, lampOn := false, blinkTimer := none }
        tc.recState := .stopping, supply.recState := .stopping, ovl.warnings.mediaLow := .absent
        controls.beeper := if s.controls.beepEnable = true ∧ s.controls.beeper = none then some ⟨.double, s.clock + 140000⟩
          else s.controls.beeper
        port := s.port.post (.recEnd n r s.tc.stamp) } := by
  simp only [State.stopRecording, State.beep_eq, hc, State.post, State.tally, Recorder.setTally, State.condition,
      State.setWarned, Warnings.setEntry, State.setRecState]; rfl

/-- What a failed start leaves (R117). -/
theorem State.failStart_eq (s : State) (r : FailReason) (n : Nat) (hc : s.recorder.clip = some n) : s.failStart r = { s with
        recorder := { s.recorder with
          state := .standby, confirmTimer := none, startSet := ⟨false, false⟩, clip := none
          tally := .off, lampOn := false, blinkTimer := none }
        tc.recState := .standby, supply.recState := .standby, ovl.warnings.recFailed := .timed (s.clock + 3000000)
        controls.beeper := if s.controls.beepEnable = true ∧ s.controls.beeper = none then some ⟨.reject, s.clock + 150000⟩
          else s.controls.beeper
        port := s.port.post (.recFailed n r) } := by
  simp only [State.failStart, State.beep_eq, hc, State.post, State.tally, Recorder.setTally, State.warn, State.setWarned,
      Warnings.setEntry, State.setRecState]; rfl

/-- Time left depends on the slots and the settings alone (R123). -/
theorem timeLeft_congr : ∀ (u v : State), u.recorder.mode = v.recorder.mode → u.log = v.log → u.clock = v.clock →
    u.recorder.slotA = v.recorder.slotA → u.recorder.slotB = v.recorder.slotB → u.recorder.bitrate = v.recorder.bitrate →
    u.timeLeft = v.timeLeft := by
  intro u v a b c d e f
  have : ∀ sl, u.recorder.slot sl = v.recorder.slot sl := by intro sl; cases sl <;> assumption
  unfold State.timeLeft State.relayTarget Recorder.reserve Recorder.isActive
  simp only [a, b, c, d, e, f, this]

/-- The test of time left (R123). -/
theorem State.testTimeLeft_eq (s : State) (h : s.recorder.mediaLow = false) (h2 : s.recorder.tally = .lit) (h3 : s.recorder.lampOn = false) (h4 : s.recorder.blinkTimer = none): s.testTimeLeft = {s with
    recorder := {s.recorder with mediaLow := decide (s.timeLeft ≤ 60 * rateOf s.recorder.bitrate), tally := if s.timeLeft ≤ 60 * rateOf s.recorder.bitrate then .blink4 else .lit, lampOn := decide (s.timeLeft ≤ 60 * rateOf s.recorder.bitrate), blinkTimer := if s.timeLeft ≤ 60 * rateOf s.recorder.bitrate then some (s.clock + 125000) else none},
    ovl.warnings.mediaLow := if s.timeLeft ≤ 60 * rateOf s.recorder.bitrate then .placed else s.ovl.warnings.mediaLow} := by
  unfold State.testTimeLeft; rw [State.setMediaLow_eq _ _ h h2 h3 h4]; simp

/-- What a confirmed start leaves (R115, R116, R133). -/
theorem State.beginClip_eq (s : State) (n : Nat) (hm : s.recorder.mediaLow = false) : 
        s.beginClip n = { s with
          recorder := (s.beginClip n).recorder, log := (s.beginClip n).log, tc.recState := .recording, supply.recState := .recording
          ovl.warnings := (s.beginClip n).ovl.warnings
          controls.beeper := if s.controls.beepEnable = true ∧ s.controls.beeper = none then some ⟨.short, s.clock + 40000⟩
            else s.controls.beeper } ∧
        (s.beginClip n).recorder = { s.recorder with
          state := .recording, confirmTimer := none, startSet := ⟨false, false⟩
          nextClip := if n = 9999 then 1 else n + 1, accountTimer := some (s.clock + 1000000)
          slotA := if s.recorder.startSet.a then { s.recorder.slotA with state := .active } else s.recorder.slotA
          slotB := if s.recorder.startSet.b then { s.recorder.slotB with state := .active } else s.recorder.slotB
          mediaLow := decide ((s.beginClip n).timeLeft ≤ 60 * rateOf s.recorder.bitrate)
          tally := if (s.beginClip n).timeLeft ≤ 60 * rateOf s.recorder.bitrate then .blink4 else .lit
          lampOn := decide ((s.beginClip n).timeLeft ≤ 60 * rateOf s.recorder.bitrate)
          blinkTimer := if (s.beginClip n).timeLeft ≤ 60 * rateOf s.recorder.bitrate then some (s.clock + 125000) else none } ∧
        (s.beginClip n).log = { s.log with records :=
          { number := n, state := .opened, start := s.tc.stamp, endLabel := none, dayRoll := false, userBits := s.tc.userBits
            zoom := if s.lens.zoom.homing = .homed then some s.lens.zoom.position else none
            focus := if s.lens.focus.homing = .homed then some s.lens.focus.position else none
            goodShot := false, over1 := s.log.over1, over2 := s.log.over2
            segments := (if s.recorder.startSet.a then [⟨.a, s.tc.stamp, .inProgress⟩] else []) ++
              (if s.recorder.startSet.b then [⟨.b, s.tc.stamp, .inProgress⟩] else [])
            marks := [] } :: (s.log.records.filter fun r => r.number ≠ n).take 63 } := by
  have hb : s.beginClip n = (State.testWarnings { s with
          recorder := { s.recorder with
          state := .recording, confirmTimer := none, startSet := ⟨false, false⟩
          nextClip := if n = 9999 then 1 else n + 1, accountTimer := some (s.clock + 1000000)
          slotA := if s.recorder.startSet.a then { s.recorder.slotA with state := .active } else s.recorder.slotA
          slotB := if s.recorder.startSet.b then { s.recorder.slotB with state := .active } else s.recorder.slotB
          tally := .lit, lampOn := false, blinkTimer := none },
          log := { s.log with records :=
          { number := n, state := .opened, start := s.tc.stamp, endLabel := none, dayRoll := false, userBits := s.tc.userBits
            zoom := if s.lens.zoom.homing = .homed then some s.lens.zoom.position else none
            focus := if s.lens.focus.homing = .homed then some s.lens.focus.position else none
            goodShot := false, over1 := s.log.over1, over2 := s.log.over2
            segments := (if s.recorder.startSet.a then [⟨.a, s.tc.stamp, .inProgress⟩] else []) ++
              (if s.recorder.startSet.b then [⟨.b, s.tc.stamp, .inProgress⟩] else [])
            marks := [] } :: (s.log.records.filter fun r => r.number ≠ n).take 63 },
          tc.recState := .recording, supply.recState := .recording
          controls.beeper := if s.controls.beepEnable = true ∧ s.controls.beeper = none then some ⟨.short, s.clock + 40000⟩
            else s.controls.beeper }).testTimeLeft := by
    simp only [State.beginClip, State.testSlots, State.beep_eq]
    rw [if_pos (by rw [State.testWarnings_eq]; rfl)]; rfl
  rw [State.testWarnings_eq] at hb
  generalize hX : (State.mk _ _ _ _ _ _ _ _ _ _ _ _ _ _) = X at hb
  have h1 : X.recorder.mediaLow = false := by subst hX; exact hm
  have h2 : X.recorder.tally = .lit := by subst hX; rfl
  have h3 : X.recorder.lampOn = false := by subst hX; rfl
  have h4 : X.recorder.blinkTimer = none := by subst hX; rfl
  rw [State.testTimeLeft_eq X h1 h2 h3 h4] at hb
  have hT : (s.beginClip n).timeLeft = X.timeLeft := by rw [hb]; exact timeLeft_congr _ _ rfl rfl rfl rfl rfl rfl
  rw [hT, hb]
  generalize X.timeLeft = T
  subst hX
  exact ⟨rfl, rfl, rfl⟩

/-- What the close of a clip does to one slot (R120, R135). -/
theorem State.closeSlot_eq (s : State) (sl : Slot) (o : CloseOutcome) : s.closeSlot sl o = {s with
   recorder := s.recorder.setSlot (if (s.recorder.slot sl).state = .active then
          { s.recorder.slot sl with
            state := if o = .writeError then .error .writeError
              else if (s.recorder.slot sl).remaining = 0 then .full
              else if (s.recorder.slot sl).protect then .writeProtected else .ready }
        else s.recorder.slot sl) sl,
   log := if (s.recorder.slot sl).state = .active then s.log.segmentOutcome sl (if o = .writeError then .writeError else .ok) else s.log } := by
  unfold State.closeSlot
  by_cases h : (s.recorder.slot sl).state = .active
  · rw [if_pos h, if_pos h, if_pos h]
    cases o <;> simp [State.setSlot, SlotRec.closed, SlotRec.readied]
    all_goals
      by_cases h0 : (s.recorder.slot sl).remaining = 0 <;> simp [h0, Nat.pos_of_ne_zero]
  · rw [if_neg h, if_neg h, if_neg h]; cases sl <;> rfl

/-- Two changes of the OPEN record are one. -/
theorem ClipLog.mapOpen_mapOpen (l : ClipLog) (f g : ClipRec →
    ClipRec) (hf : ∀ r, (f r).state = r.state) : (l.mapOpen f).mapOpen g = l.mapOpen (fun r => g (f r)) := by
  simp only [ClipLog.mapOpen, List.map_map]
  congr 1; apply List.map_congr_left; intro r _
  simp only [Function.comp_apply]
  by_cases h : r.state = .opened <;> simp [h, hf]

/-- Outside RECORDING the slot test is the test of the warnings. -/
theorem State.testSlots_of_not_recording (s : State) (h : s.recorder.state ≠ .recording) : s.testSlots = s.testWarnings := by
  unfold State.testSlots; rw [if_neg (by rw [State.testWarnings_eq]; exact h)]

/-- A slot in ERROR is a card error (R107). -/
theorem Recorder.cardError_of_error (r : Recorder) (sl : Slot) (e : SlotError) (h : (r.slot sl).state = .error e) :
    r.cardError = true := by
  cases sl <;> simp [Recorder.cardError, h]

end Sys2Proof.Machine
end

