-- ==== Sys2Proof/Laws/Starts.lean ====
section
/-! SUPPORT. Starts, stops and slots: what the operations do, in the words of Safety.lean. -/

namespace Sys2Proof.Machine

/-- A REJECT beep request writes the beeper alone (R15, R21). -/
theorem State.beep_reject_eq (s : State) : s.beep .reject = rejected s := by
  unfold State.beep rejected Controls.beeped
  split <;> rfl

/-- A beep request writes the beeper alone (R21). -/
theorem State.beep_eq_beeped (p : Pattern) (s : State) :
    s.beep p = { s with controls.beeper := s.controls.beeped p s.clock } := by
  unfold State.beep Controls.beeped
  split <;> rfl

/-- What the failure of a start does (R117). -/
theorem State.failStart_failed (n : Nat) (reason : FailReason) (s : State) (h : s.recorder.clip = some n) :
    s.failStart reason = startFailed n reason s := by
  simp [State.failStart, State.beep_eq_beeped, startFailed, h, State.setRecState, State.tally, Recorder.setTally, State.post, State.warn, State.setWarned, Warnings.setEntry, warnTime, SlotSet.empty, Controls.beeped]

/-- What the stop of a recording does (R119). -/
theorem State.stopRecording_made (n : Nat) (reason : EndReason) (s : State) (h : s.recorder.clip = some n) :
    s.stopRecording reason = stopMade n reason s := by
  simp [State.stopRecording, State.beep_eq_beeped, stopMade, h, State.setRecState, State.tally, Recorder.setTally, State.post, State.condition, State.setWarned, Warnings.setEntry, closeTime, Controls.beeped]

/-- The start set that a start forms, and its current slot (R113). -/
theorem Recorder.formStartSet_formed (r : Recorder) (set : SlotSet) (cur : Slot) (h : StartSetFormed r set cur) :
    r.formStartSet = set ∧ r.startCurrent = cur ∧ set.isEmpty = false := by
  rcases h with ⟨h1, h2, rfl, rfl⟩ | ⟨h1, h2, h3, rfl, rfl⟩ | ⟨h1, h2, rfl, rfl⟩
  · cases hm : r.mode <;> simp_all [Recorder.formStartSet, Recorder.startCurrent, SlotSet.only] <;>
      cases r.current <;> simp_all [SlotSet.put, SlotSet.empty, SlotSet.isEmpty]
  · simp [Recorder.formStartSet, Recorder.startCurrent, SlotSet.only, h1, h2, h3]
    cases r.current <;> simp [SlotSet.put, SlotSet.empty, SlotSet.isEmpty, otherSlot]
  · simp [Recorder.formStartSet, Recorder.startCurrent, h1, SlotSet.isEmpty]
    cases ha : r.usable .a <;> simp_all

/-- When no start set can be formed (R113). -/
theorem Recorder.formStartSet_none (r : Recorder) (h : NoStartSet r) : r.formStartSet.isEmpty = true := by
  have e : ∀ b sl, (SlotSet.empty.put b sl).isEmpty = !b := by intro b sl; cases sl <;> cases b <;> rfl
  rcases h with ⟨h1, h2⟩ | ⟨h1, h2⟩
  · simp [Recorder.formStartSet, h1, h2, e]
  · have : ∀ sl, r.usable sl = false := by intro sl; cases sl <;> assumption
    cases hm : r.mode <;> simp [Recorder.formStartSet, hm, this, e]
    rfl

/-- What an accepted start does (R114). -/
theorem State.acceptStart_accepted (set : SlotSet) (cur : Slot) (s : State) (h : StartSetFormed s.recorder set cur) :
    s.acceptStart = startAccepted set cur s := by
  obtain ⟨h1, h2, -⟩ := Recorder.formStartSet_formed _ _ _ h
  simp [State.acceptStart, startAccepted, h1, h2, State.setRecState, State.tally, Recorder.setTally, State.post, confirmTime, blinkHalf]

/-- What REC_TOGGLE does (R118). -/
theorem State.recToggle_taken (s : State) : ToggleTaken s s.recToggle := by
  unfold State.recToggle
  refine ⟨fun h => if_pos h, fun h => ⟨fun h1 => ?_, fun n h1 h2 => ?_, fun h1 h2 => ⟨fun h3 => ?_, fun h3 set cur h4 => ?_⟩⟩⟩
  · rcases h1 with h1 | h1 <;> simp [h, h1, State.beep_reject_eq]
  · simp [h, h1, State.stopRecording_made n .operator s h2, inhibitTime]
  · have : ∃ r, s.recorder.startRefusal = some r := by
      unfold Recorder.startRefusal
      rcases h3 with h3 | h3 | h3
      · simp [h1, h2, h3]
      · simp [h1, h2, h3]
      · by_cases hl : s.recorder.supplyState = .low ∨ s.recorder.supplyState = .cutoff <;>
          simp [h1, h2, hl, Recorder.formStartSet_none _ h3]
    obtain ⟨r, hr⟩ := this
    simp [h, h1, hr, State.beep_reject_eq]
    rfl
  · have : s.recorder.startRefusal = none := by
      obtain ⟨e1, -, e3⟩ := Recorder.formStartSet_formed _ _ _ h4
      unfold Recorder.startRefusal
      rcases h3 with h3 | h3 <;> simp [h1, h2, h3, e1, e3]
    simp [h, h1, this, State.acceptStart_accepted set cur s h4, inhibitTime]

/-- What a panel mark does (R139). -/
theorem State.panelMark_taken (s : State) : MarkTaken s s.panelMark := by
  unfold State.panelMark State.markDecision
  refine ⟨fun h => ?_, fun r h1 h2 => ⟨fun h => ?_, fun h => ?_⟩⟩
  · cases hs : s.recorder.state <;> simp_all [State.beep_reject_eq]
  · simp [h1, h2, State.beep_reject_eq, Nat.not_lt.2 h]
  · simp [h1, h2, h, State.appendMark, State.post, ClipLog.mapOpen]

/-- What GOOD_SHOT does (R140). -/
theorem State.goodShot_taken (s : State) : GoodShotTaken s s.goodShot := by
  unfold State.goodShot
  refine ⟨fun h => ?_, fun r rest h1 h2 => ?_⟩
  · rcases h with h | h
    · cases hs : s.recorder.state <;> simp_all [State.beep_reject_eq]
    · cases hs : s.recorder.state <;> simp_all [State.beep_reject_eq]
  · simp [h1, h2, State.post]

/-- The time left that the model computes is that of R124. -/
theorem State.timeLeft_is (s : State) : TimeLeftIs s.recorder s.log s.timeLeft := by
  refine ⟨fun ha hb => ?_, fun sl h1 h2 => ⟨fun h3 h4 h5 h6 => ?_, fun h3 => ?_⟩⟩
  · simp [State.timeLeft, Recorder.isActive, Recorder.slot, ha, hb]
  · cases sl <;> simp_all [State.timeLeft, Recorder.isActive, Recorder.slot, otherSlot, State.relayTarget, Recorder.reserve]
  · cases sl
    · simp only [Recorder.slot, otherSlot] at *
      have : ¬(s.recorder.mode = .relay ∧ s.relayTarget .b = true) := by
        rintro ⟨hm, h⟩
        simp [State.relayTarget, Recorder.slot, Recorder.reserve] at h
        have h := of_decide_eq_true h
        rcases h3 with h3 | h3 | h3 | h3
        · exact h3 hm
        · exact h3 h.1
        all_goals omega
      simp [State.timeLeft, Recorder.isActive, Recorder.slot, otherSlot, h1, h2, this]
    · simp only [Recorder.slot, otherSlot] at *
      have : ¬(s.recorder.mode = .relay ∧ s.relayTarget .a = true) := by
        rintro ⟨hm, h⟩
        simp [State.relayTarget, Recorder.slot, Recorder.reserve] at h
        have h := of_decide_eq_true h
        rcases h3 with h3 | h3 | h3 | h3
        · exact h3 hm
        · exact h3 h.1
        all_goals omega
      simp [State.timeLeft, Recorder.isActive, Recorder.slot, otherSlot, h1, h2, this]

/-- When a slot is usable (R101). -/
theorem Recorder.usable_iff (r : Recorder) (sl : Slot) :
    r.usable sl = true ↔ (r.slot sl).state = .ready ∧ 2 * rateOf r.bitrate ≤ (r.slot sl).remaining := by
  simp [Recorder.usable, SlotRec.usable]

/-- What the test of the two slot warnings does (R110). -/
theorem State.testWarnings_warned (s : State) : ∃ w, s.testWarnings = { s with ovl.warnings := w } ∧
    SlotWarned s.recorder s.ovl.warnings w := by
  refine ⟨_, State.testWarnings_eq s, rfl, ?_, ?_, ?_, ?_⟩
  · dsimp only; split <;> simp
  · dsimp only; split <;> simp
  · dsimp only
    split
    · rename_i h
      simp only [true_iff]
      unfold Recorder.cardError at h
      rcases ha : s.recorder.slotA.state with _ | _ | _ | _ | _ | _ | e
      case error => exact ⟨.a, e, ha⟩
      all_goals
        rcases hb : s.recorder.slotB.state with _ | _ | _ | _ | _ | _ | e
        case error => exact ⟨.b, e, hb⟩
        all_goals simp [Recorder.slot, ha, hb] at h
    · rename_i h
      simp only [reduceCtorEq, false_iff]
      rintro ⟨sl, e, he⟩
      exact h (Recorder.cardError_of_error _ sl e he)
  · have hs : ∀ P : Slot → Prop, (∃ sl, P sl) ↔ (P .a ∨ P .b) := fun P =>
      ⟨fun ⟨sl, h⟩ => by cases sl <;> tauto, fun h => by rcases h with h | h; exacts [⟨_, h⟩, ⟨_, h⟩]⟩
    have ha : ∀ P : Slot → Prop, (∀ sl, P sl) ↔ (P .a ∧ P .b) := fun P =>
      ⟨fun h => ⟨h _, h _⟩, fun h sl => by cases sl <;> tauto⟩
    have hm : s.recorder.mediaFull = true ↔ (∃ sl, (s.recorder.slot sl).state = .full) ∧
      ∀ sl, (s.recorder.slot sl).state = .ready → (s.recorder.slot sl).remaining < 2 * rateOf s.recorder.bitrate := by
      rw [hs, ha]
      have e1 := Recorder.usable_iff s.recorder .a
      have e2 := Recorder.usable_iff s.recorder .b
      cases h1 : s.recorder.usable .a <;> cases h2 : s.recorder.usable .b <;>
        simp_all [Recorder.mediaFull, Recorder.slot]
    rw [← hm]
    dsimp only
    split <;> simp_all

/-- What the tests at a change of a slot do (R110, R124). -/
theorem State.testSlots_tested (s : State) : SlotsTested s s.testSlots := by
  obtain ⟨w, hw, hq⟩ := s.testWarnings_warned
  have hst : s.testWarnings.recorder = s.recorder := by rw [hw]
  by_cases hr : s.recorder.state = .recording
  · refine ⟨{ w with mediaLow := lowWarned s.recorder.mediaLow (decide (s.timeLeft ≤ 60 * rateOf s.recorder.bitrate)) s.ovl.warnings.mediaLow }, fun h => absurd hr h, fun _ => ⟨s.timeLeft, _, s.timeLeft_is, rfl, ?_, ?_⟩⟩
    · unfold State.testSlots State.testTimeLeft State.setMediaLow
      have hml : w.mediaLow = s.ovl.warnings.mediaLow := by rw [hq.1]
      have htl : s.testWarnings.timeLeft = s.timeLeft := by rw [hw]; rfl
      simp only [hst, hr, if_true, htl]
      split
      · rename_i h
        rw [hw]
        simp only [Recorder.lowTested, lowWarned, h, if_true]
        rw [← hml]
      · rename_i h
        rw [hw]
        simp only [Recorder.lowTested, lowWarned, h, if_false]
        cases hb : decide (s.timeLeft ≤ 60 * rateOf s.recorder.bitrate) <;>
          simp [State.condition, State.setWarned, Warnings.setEntry, State.tally, Recorder.setTally, blinkHalf, hr]
    · obtain ⟨q1, q2, q3, q4, q5⟩ := hq
      exact ⟨by rw [q1], q2, q3, q4, q5⟩
  · refine ⟨w, fun _ => ⟨?_, hq⟩, fun h => absurd h hr⟩
    rw [State.testSlots_of_not_recording s hr, hw]

/-- What the loss of a slot of the start set does (R116). -/
theorem State.reformStart_reformed (reason : FailReason) (s : State) : StartReformed reason s (s.reformStart reason) := by
  unfold State.reformStart
  refine ⟨fun h => if_neg h, fun n left h1 h2 hl => ?_⟩
  rw [if_pos h1]
  subst hl
  refine ⟨fun h => ?_, fun h h3 h4 => ?_, fun h h3 => ?_⟩
  · have : SlotSet.isEmpty ⟨s.recorder.startSet.a && s.recorder.usable .a, s.recorder.startSet.b && s.recorder.usable .b⟩ = false := by
      cases ha : (s.recorder.startSet.a && s.recorder.usable .a) <;> cases hb : (s.recorder.startSet.b && s.recorder.usable .b) <;> simp_all [SlotSet.isEmpty]
    have e : s.recorder.reformed = { s.recorder with startSet := ⟨s.recorder.startSet.a && s.recorder.usable .a, s.recorder.startSet.b && s.recorder.usable .b⟩ } := by
      unfold Recorder.reformed
      exact if_neg (by simp [this])
    simp only [e, this]
    rfl
  · have e : s.recorder.reformed = { s.recorder with
        startSet := SlotSet.only (otherSlot s.recorder.current), current := otherSlot s.recorder.current } := by
      unfold Recorder.reformed
      simp only [h]
      exact if_pos ⟨rfl, h3, h4⟩
    have : (SlotSet.only (otherSlot s.recorder.current)).isEmpty = false := by cases s.recorder.current <;> rfl
    simp only [e, this]
    rfl
  · have e : s.recorder.reformed = { s.recorder with startSet := ⟨false, false⟩ } := by
      unfold Recorder.reformed
      simp only [h]
      exact if_neg (by rintro ⟨-, a, b⟩; rcases h3 with h3 | h3; exacts [h3 a, by simp [h3] at b])
    simp only [e]
    rw [if_pos (by rfl), State.failStart_failed n reason _ (by exact h2)]
    rfl

/-- What the loss of an ACTIVE slot does (R125). -/
theorem State.loseActive_lost (sl : Slot) (o : SegOutcome) (reason : EndReason) (s : State) :
    SlotLost sl o reason s (s.loseActive sl o reason) := by
  refine ⟨_, rfl, fun h => ?_, fun n h1 h2 h3 h4 => ?_⟩
  · unfold State.loseActive
    rw [if_neg]
    · rfl
    · rintro ⟨a, b⟩
      simp [Recorder.activeSet, SlotSet.isEmpty, Recorder.isActive, Recorder.slot] at b
      rcases h with h | h | h
      exacts [h a, of_decide_eq_false b.1 h, of_decide_eq_false b.2 h]
  · unfold State.loseActive
    rw [if_pos]
    · exact State.stopRecording_made n _ _ h2
    · exact ⟨h1, by simp [Recorder.activeSet, SlotSet.isEmpty, Recorder.isActive, Recorder.slot, h3, h4]⟩

end Sys2Proof.Machine
end

