-- ==== Sys2Proof/Laws/Panel.lean ====
section
/-! SUPPORT. Presses, releases and detents: what the operations do, in the words of Safety.lean. -/

namespace Sys2Proof.Machine

/-- What `State.token` does (R18). -/
theorem State.token_made (w : BitVec 16) (s : State) : TokenMade w s (s.token w) := by
  refine ⟨fun h => ?_, fun h => ?_⟩
  · unfold State.token
    rw [if_pos h]
    rcases hq : s.controls.tokens with _ | ⟨x, xs⟩ <;> simp [State.post]
  · unfold State.token
    rw [if_neg (by omega), State.beep_reject_eq]
    rfl

/-- What `State.tokenIf` does (R18). -/
theorem State.tokenIf_made (b : Bool) (w : BitVec 16) (s : State) : TokenMadeIf (b = true) w s (s.tokenIf b w) := by
  cases b
  · exact ⟨fun h => absurd h (by decide), fun _ => rfl⟩
  · exact ⟨fun _ => s.token_made w, fun h => absurd rfl h⟩

/-- What a panel recall does (R58). -/
theorem State.panelRecall_taken (n : Fin 8) (s : State) : RecallTaken n s (s.panelRecall n) := by
  unfold State.panelRecall
  refine ⟨fun h => ?_, fun h1 h2 h3 => ?_⟩
  · rw [if_pos (by rw [motionOf_fault]; rcases h with h | h | h | h <;> simp [h]; tauto), State.beep_reject_eq]
  · rw [if_neg (by rw [motionOf_fault]; rcases h3 with h | h | h <;> simp [h, h1, h2])]
    unfold State.recall
    rw [State.endHold_eq]
    rfl

/-- What a panel store does (R57). -/
theorem State.panelStore_taken (n : Fin 8) (s : State) : StoreTaken n s (s.panelStore n) := by
  unfold State.panelStore
  refine ⟨fun h => ?_, fun h1 h2 => ?_⟩
  · rw [if_neg (by tauto), State.beep_reject_eq]
  · rw [if_pos ⟨h1, h2⟩, State.beep_eq_beeped]

/-- What FOCUS_MODE_TOGGLE does (R59). -/
theorem State.focusToggle_toggled (s : State) : FocusModeToggled s s.focusToggle := by
  unfold State.focusToggle State.setFocusMode
  refine ⟨fun h => ?_, fun h h' => ?_, fun h h' => ?_⟩
  · simp [h]
  · simp [h, h']
  · simp only [h, h']
    simp
    rw [State.endHold_eq]
    simp [State.axis, Lens.axis, Lens.setAxis, Lens.stopDrive, unheld]

/-- What a detent of the focus ring does (R60). -/
theorem State.ringDetent_taken (up : Bool) (s : State) : RingTaken up s (s.ringDetent up) := by
  refine ⟨if up then s.lens.detentStep s.clock else -s.lens.detentStep s.clock, _, _, rfl, ?_, ?_, ?_, rfl, ?_, ?_⟩
  · rintro ⟨a, b, h, ha, hb⟩
    unfold Lens.detentStep detentWindow
    rw [h]
    cases up <;> simp [ha, hb]
  · intro h
    have : s.lens.detentStep s.clock = 8 := by
      unfold Lens.detentStep detentWindow
      split
      · rename_i a b hl
        rw [if_neg fun hc => h ⟨a, b, hl, hc⟩]
      · rfl
    cases up <;> simp [this]
  · have : 0 < s.lens.detentStep s.clock := by
      unfold Lens.detentStep
      split
      · split <;> decide
      · decide
    cases up <;> simp [this]; omega
  · intro h
    unfold State.ringDetent
    simp only [motionOf_fault]
    rw [if_pos]
    · rfl
    · show (s.lens.focus.fault = true ∧ s.lens.focus.owner ≠ .homing) ∨ s.lens.focus.owner = .homing
      tauto
  · intro h1 h2
    unfold State.ringDetent
    simp only [motionOf_fault]
    rw [if_neg]
    · by_cases ho : s.lens.focus.owner = .operator
      · simp only [ho, if_true, State.beginGoto, State.startOverride, State.setAxis, Lens.setAxis, State.axis, Lens.axis, Lens.vmax,
          AxisRec.ringTarget, Lens.recordDetent]
        split <;> rfl
      · simp only [ho, if_false, State.endHold_eq, State.beginGoto, State.startOverride, State.setAxis, Lens.setAxis, State.axis, Lens.axis, Lens.vmax,
          AxisRec.ringTarget, Lens.recordDetent, Lens.stopDrive]
        split <;> rfl
    · show ¬((s.lens.focus.fault = true ∧ s.lens.focus.owner ≠ .homing) ∨ s.lens.focus.owner = .homing)
      simp [h1, h2]

/-- What a change of a channel writes (R155). -/
theorem State.setChannel_eq (ch : Channel) (c : ChannelRec) (s : State) :
    s.setChannel ch c = { s with audio := channelSet ch c s.audio } ∨ (ch = .ch2 ∧ s.audio.link = true) := by
  cases ch
  · left
    cases h : s.audio.link <;> simp [State.setChannel, Audio.follow, channelSet, Audio.setChannel, ChannelRec.apply, appliedGain, h]
  · cases h : s.audio.link
    · left; simp [State.setChannel, Audio.follow, channelSet, Audio.setChannel, h]
    · right; simp

/-- What a detent of an audio knob does (R153). -/
theorem State.knobDetent_taken (ch : Channel) (up : Bool) (s : State) : KnobTaken ch up s (s.knobDetent ch up) := by
  refine ⟨fun h => ?_, fun h1 h2 gain hg => ?_⟩
  · unfold State.knobDetent
    rw [if_pos h, State.beep_reject_eq]
  · have hn : ¬(ch = .ch2 ∧ s.audio.link = true) := by rintro ⟨rfl, h⟩; simp_all
    unfold State.knobDetent
    rw [if_neg (by rintro (h | h); exacts [hn h, h h2])]
    subst hg
    have key := fun c => (State.setChannel_eq ch c s).resolve_right hn
    have e : ∀ g, ((s.audio.channel ch).setSource .panel).setGainTo g = { s.audio.channel ch with
        source := .panel, setGain := g
        applied := if (s.audio.channel ch).settling.isSome then 0 else g - (s.audio.channel ch).reduction } := by
      intro g
      unfold ChannelRec.setSource ChannelRec.setGainTo ChannelRec.apply appliedGain
      split
      · rename_i h; rw [← h]
      · rfl
    by_cases hs : (s.audio.channel ch).source = .panel <;> simp [key, e, hs, State.post]

/-- What AUDIO_AUTO does (R154). -/
theorem State.audioAuto_toggled (ch : Channel) (s : State) : AudioToggled ch s (s.audioAuto ch) := by
  unfold State.audioAuto
  refine ⟨fun h => ?_, fun h1 => ?_⟩
  · rw [if_pos h, State.beep_reject_eq]
  · have hn : ¬(ch = .ch2 ∧ s.audio.link = true) := by rintro ⟨rfl, h⟩; simp_all
    have key := fun c => (State.setChannel_eq ch c s).resolve_right hn
    rw [if_neg hn]
    cases hc : (s.audio.channel ch).source <;>
      simp [key, hc, ChannelRec.setSource, State.post, ChannelRec.apply, appliedGain]

/-- What MENU_TOGGLE does (R175). -/
theorem State.menuToggle_toggled (s : State) : MenuToggled s s.menuToggle := by
  unfold State.menuToggle Overlay.setMenu
  refine ⟨fun h => ?_, fun page h1 h2 h3 => ?_⟩
  · refine ⟨{ s.ovl.display 3 with menu := true, saved := some s.ovl.displayed }, ?_, ?_⟩
    · simp [h, State.post]
    · unfold Overlay.display
      by_cases hd : s.ovl.displayed = 3
      · have := MarksRows.refl { s.ovl with menu := true, saved := some s.ovl.displayed } 3
        rw [if_pos hd.symm, if_pos hd]
        convert this using 1
        · simp only [hd]
        · funext r; simp [hd]
      · have := Overlay.markPage_marks { s.ovl with menu := true, saved := some s.ovl.displayed, displayed := 3, batch := s.ovl.batch.map fun b => { b with waiting := [] } } 3
        rw [if_neg (Ne.symm hd), if_neg hd]
        convert this using 1
        · rfl
        · funext r; simp [hd]
  · refine ⟨{ s.ovl.display page with menu := false, saved := none }, ?_, ?_⟩
    · simp [h1, h3, State.post]
    · unfold Overlay.display
      by_cases hd : page = 3
      · have := MarksRows.refl { s.ovl with menu := false, saved := none } page
        rw [if_pos (hd.trans h2.symm), if_pos hd]
        convert this using 1
        · simp only [hd, h2]
        · funext r; simp [hd]
      · have := Overlay.markPage_marks { s.ovl with menu := false, saved := none, displayed := page, batch := s.ovl.batch.map fun b => { b with waiting := [] } } page
        have hd' : page ≠ s.ovl.displayed := fun h => hd (h.trans h2)
        simp only [if_neg hd', if_neg hd]
        convert this using 1
        · rfl
        · funext r; simp [hd]

/-- When the assign set is empty (R13). -/
theorem Controls.assignEmpty_iff (c : Controls) : c.assignEmpty = true ↔ ∀ j, c.assign.get j = false := by
  unfold Controls.assignEmpty
  rw [List.all_eq_true]
  constructor
  · intro h j
    have := h (c.assign.get j) (by simp [Vector.get])
    simpa using this
  · intro h x hx
    obtain ⟨j, hj, rfl⟩ := List.getElem_of_mem hx
    have := h ⟨j, by simpa using hj⟩
    simp [Vector.get] at this
    simpa using this

/-- The layer a press resolves in is that of R12. -/
theorem State.resolvesIn_iff (s : State) (i : Fin 24) (layer : Layer) : ResolvesIn s i layer ↔ s.resolve i = some layer := by
  have ha := s.controls.assignEmpty_iff
  have hn : (∃ j, s.controls.assign.get j = true) ↔ ¬∀ j, s.controls.assign.get j = false := by
    simp
  unfold ResolvesIn State.resolve State.layerInForce
  rw [hn, ← ha]
  cases hl : s.controls.lock <;> cases hm : s.ovl.menu <;> cases he : s.controls.assignEmpty <;> simp [@eq_comm Layer layer]
  all_goals
    cases hx : (s.controls.keymap.plain.get i).action <;> simp [passesLock]

/-- What the action of a press does (R15). -/
theorem State.pressAction_acted (h : Held) (s : State) : PressActed h s (s.pressAction h) := by
  unfold PressActed State.pressAction
  cases ha : h.entry.action <;> dsimp only
  case recToggle => exact s.recToggle_taken
  case mark => exact s.panelMark_taken
  case goodShot => exact s.goodShot_taken
  case stabToggle => exact s.stabSetting_taken _
  case focusModeToggle => exact s.focusToggle_toggled
  case preset n =>
    exact ⟨fun hk => by rw [if_pos hk]; exact s.panelRecall_taken n, fun hk => if_neg (by rw [hk]; decide)⟩
  case audioAuto ch => exact s.audioAuto_toggled ch
  case menuToggle => exact s.menuToggle_toggled
  case flush =>
    unfold State.flush flushed flushToken
    rcases s.controls.tokens with _ | ⟨x, xs⟩ <;> simp [State.post]

/-- What a detent does (R7, R17). -/
theorem State.detent_routed (e : Encoder) (up : Bool) (s : State) : DetentRouted e up s (s.detent e up) := by
  rintro kind rfl
  have ha := s.controls.assignEmpty_iff
  refine ⟨fun h => ⟨?_, fun he => ?_⟩, fun h h' => ?_, fun h h' => ⟨?_, ?_, ?_, ?_, ?_⟩⟩
  · rintro rfl; unfold State.detent; rw [if_pos h]; exact s.ringDetent_taken up
  · unfold State.detent; rw [if_pos h]; cases e <;> first | rfl | exact absurd rfl he
  · unfold State.detent; simp [h, State.layerInForce, h']; exact s.token_made _
  · rintro rfl; unfold State.detent; simp [h, State.layerInForce, h']
    cases s.controls.assignEmpty <;> exact s.ringDetent_taken up
  · rintro rfl hj; unfold State.detent; simp [h, State.layerInForce, h', ha.2 hj]; exact s.token_made _
  · rintro rfl ⟨j, hj⟩
    have : s.controls.assignEmpty = false := by
      rw [Bool.eq_false_iff, Ne, ha]; intro hx; simp [hx j] at hj
    unfold State.detent; simp [h, State.layerInForce, h', this]; exact s.token_made _
  · rintro rfl; unfold State.detent; simp [h, State.layerInForce, h']
    cases s.controls.assignEmpty <;> exact s.knobDetent_taken _ up
  · rintro rfl; unfold State.detent; simp [h, State.layerInForce, h']
    cases s.controls.assignEmpty <;> exact s.knobDetent_taken _ up

/-- A record made silent (R4, R5). -/
theorem Held.silenced_eq (h : Held) : h.silenced = silencedHeld h := by
  unfold Held.silenced silencedHeld; cases h.long <;> rfl

/-- What entry to SHUTDOWN does in STARTING (R126). -/
theorem State.recPower_starting (n : Nat) (u : State) (h1 : u.recorder.state = .starting) (h2 : u.recorder.clip = some n) :
    u.recPower .shutdown = startFailed n .shutdown { u with recorder.power := .shutdown } := by
  unfold State.recPower
  simp only [h1]
  exact State.failStart_failed n _ _ h2

/-- What entry to SHUTDOWN does in RECORDING (R126). -/
theorem State.recPower_recording (n : Nat) (u : State) (h1 : u.recorder.state = .recording) (h2 : u.recorder.clip = some n) :
    u.recPower .shutdown = stopMade n .shutdown { u with recorder.power := .shutdown } := by
  unfold State.recPower
  simp only [h1]
  exact State.stopRecording_made n _ _ h2

/-- What the begin of a shutdown does (R188). -/
theorem State.beginShutdown_begun (r : ShutdownReason) (s : State) (h : s.supply.power = .run ∨ s.supply.power = .standby) :
    ShutdownBegun r s (s.beginShutdown r) := by
  obtain ⟨a, ha⟩ : ∃ a, a = ({ s with supply.power := .shutdown, supply.exit := none, supply.shutdown := some ⟨r, .waiting⟩ : State }).scannerPower s.supply.power .shutdown := ⟨_, rfl⟩
  have hst : a.stab = s.stab := by rw [ha]; simp
  have hrc : a.recorder = s.recorder := by rw [ha]; simp
  have htc : a.tc = s.tc := by rw [ha]; simp
  have e1 : ((a.stabPower .shutdown).timecodePower s.supply.power .shutdown).recorder = s.recorder := by simp [hrc]
  refine ⟨a, a.stabPower .shutdown, (a.stabPower .shutdown).timecodePower s.supply.power .shutdown,
    ((a.stabPower .shutdown).timecodePower s.supply.power .shutdown).recPower .shutdown, ?_, ?_, ?_, ?_, ?_, ?_, ?_⟩
  · rw [ha]
    unfold State.scannerPower State.setRocker
    have hs : Held.silenced = silencedHeld := funext Held.silenced_eq
    by_cases hd : s.controls.rocker.demand = 0
    · simp only [Rocker.rest, Controls.silence, hd, State.rockerDemand, vmap, hs, if_true]
    · simp only [Rocker.rest, Controls.silence, hd, Ne.symm hd, State.rockerDemand, vmap, hs, if_false]
      simp
  · unfold State.stabPower
    have := State.stabUpdate_follows s.stab.setting { s.stab.cond with run := false, gyroValid := false } a
    rw [hst]
    convert this using 1
    rw [← hst]; simp
  · have e1 : (a.stabPower .shutdown).tc = s.tc := by simp [htc]
    unfold State.timecodePower
    rcases h with h | h <;> simp only [h]
    · simp
    · unfold State.reportDifference State.reportReference
      rw [e1]
      by_cases hp : s.tc.present = s.tc.reported
      · simp [hp]
      · rw [if_neg hp]
        simp only [true_and, Ne, hp, not_false_eq_true, if_true]
        cases hq : s.tc.present <;> simp [State.condition, State.setWarned, Warnings.setEntry, State.post, htc, hq]
  · intro n h1 h2
    exact State.recPower_starting n _ (by rw [e1]; exact h1) (by rw [e1]; exact h2)
  · intro n h1 h2
    exact State.recPower_recording n _ (by rw [e1]; exact h1) (by rw [e1]; exact h2)
  · intro h1
    unfold State.recPower
    rw [e1]
    rcases h1 with h1 | h1 <;> simp only [h1]
  · unfold State.beginShutdown State.setPower
    rw [ha]
    rcases h with h | h <;> simp [h, State.lensPower, State.audioPower, Overlay.onPower, Overlay.dropWaiting, State.post]

/-- What the modifier changes of a press are (R13). -/
theorem State.pressModifiers_eq (i : Fin 24) (h : Held) (s : State) :
    s.pressModifiers i h = { s with controls := s.controls.withPress i h } := by
  unfold State.pressModifiers Controls.withPress State.setAssign
  cases ha : h.entry.action <;> cases hk : h.kind <;> simp

/-- What the modifier changes of a release are (R13). -/
theorem State.releaseModifiers_eq (i : Fin 24) (h : Held) (s : State) :
    s.releaseModifiers i h = { s with controls := s.controls.withRelease i h } := by
  unfold State.releaseModifiers Controls.withRelease State.setAssign
  cases hl : h.lockedOut <;> cases ha : h.entry.action <;> cases hk : h.kind <;> simp

/-- What a call for a calibration does (R31 to R33). -/
theorem State.callCalibration_called (s : State) : CalibrationCalled s s.callCalibration := by
  unfold State.callCalibration State.beginCalibration calibrationTime
  refine ⟨fun h => ?_, fun v h => by simp [h], fun e h => by simp [h]⟩
  simp only [h]
  refine ⟨_, rfl, fun e he ha => ?_, fun hn => ?_⟩
  · simp [Port.answerAccepted, he, ha]
  · unfold Port.answerAccepted
    split
    · rename_i e he; exact if_neg (hn e he)
    · rfl

/-- What a wake does in STANDBY (R187). -/
theorem State.wake_taken (i : Fin 24) (s : State) (h : s.supply.power = .standby) : WakeTaken i s (s.wake i) := by
  unfold State.wake
  refine ⟨fun he => ?_, fun he => ?_⟩
  · rw [if_neg]; rintro ⟨_, hn⟩; simp [hn] at he
  · rw [if_pos ⟨h, he⟩]; exact State.callCalibration_called _

/-- What the action of a release does (R16). -/
theorem State.releaseAction_acted (h : Held) (s : State) (hp : s.supply.power = .run) (h1 : h.lockedOut = false) (h2 : h.silent = false) :
    ReleaseActed h s (s.releaseAction h) := by
  refine ⟨fun h => by simp_all, fun _ => ⟨fun ha hk => ?_, fun n _ ha hk hl => ?_, fun ha hb => ?_⟩⟩
  · unfold State.releaseAction; simp only [ha, hk]; exact s.beginShutdown_begun _ (.inl hp)
  · unfold State.releaseAction; simp only [ha, hk, hl, if_true]; exact s.panelRecall_taken n
  · unfold State.releaseAction
    cases hx : h.entry.action <;> cases hk : h.kind <;> simp_all

end Sys2Proof.Machine
end

