-- ==== Sys2Proof/Laws/Power.lean ====
section
/-! SUPPORT. Changes of the power state and of the supply state: what the operations do, in the words of Safety.lean. -/

namespace Sys2Proof.Machine

/-- An update of the stabiliser's copies touches the stabiliser and the port, from these alone (R67). -/
theorem State.stabUpdate_eq (c : Conditions) (s : State) : s.stabUpdate c =
    let t := ({ s.stab with cond := c } : Stabiliser).reevaluate
    { s with stab := t, port := if t.state = s.stab.state then s.port else s.port.post (.stabState t.state t.blocking) } := by
  simp only [State.stabUpdate, State.stabBecomes]; split <;> rfl

/-- What the halt of the zoom does (R50, R64). -/
theorem State.haltAxis_zoom_eq (r : AbandonReason) (s : State) (a : State)
    (ha : a = { s with
      lens.zoom := haltedAxis s.lens.zoom r
      lens.driveTimer := if s.lens.zoom.owner = .homing then s.lens.driveTimer else none
      port := haltedPort s.port .zoom r s.lens.zoom }) :
    s.haltAxis .zoom r = if s.lens.zoom.owner = .homing then a.stabUpdate { s.stab.cond with zoomHomed := false } else a := by
  subst ha
  unfold State.haltAxis
  have e : s.axis .zoom = s.lens.zoom := rfl
  by_cases h : s.lens.zoom.owner = .homing
  · simp only [e, h, if_true, State.abandonHoming, State.stabZoom, haltedAxis, haltedPort]
    rw [State.stabUpdate_eq, State.stabUpdate_eq]
    rfl
  · simp only [e, h, if_false, State.endHold_eq]
    simp only [State.setAxis, State.axis, Lens.axis, Lens.setAxis, Lens.stopDrive, haltedAxis, haltedPort, unheld, h, if_false]

/-- What the halt of the focus does (R50, R64). -/
theorem State.haltAxis_focus_eq (r : AbandonReason) (s : State) : s.haltAxis .focus r = { s with
    lens.focus := haltedAxis s.lens.focus r, port := haltedPort s.port .focus r s.lens.focus } := by
  unfold State.haltAxis
  have e : s.axis .focus = s.lens.focus := rfl
  by_cases h : s.lens.focus.owner = .homing
  · simp only [e, h, if_true, State.abandonHoming, haltedAxis, haltedPort]
    rfl
  · simp only [e, h, if_false, State.endHold_eq]
    simp only [State.setAxis, State.axis, Lens.axis, Lens.setAxis, Lens.stopDrive, haltedAxis, haltedPort, unheld, h, if_false]

/-- What the halt of both axes does (R50, R64). -/
theorem State.haltLens_halted (r : AbandonReason) (s : State) : LensHalted r s (s.haltLens r) := by
  have hz := State.haltAxis_zoom_eq r s _ rfl
  refine ⟨_, s.haltAxis .zoom r, rfl, fun h => hz.trans (if_neg h), fun h => ?_, ?_⟩
  · rw [hz.trans (if_pos h)]
    exact State.stabUpdate_follows_setting _ _
  · unfold State.haltLens
    rw [State.haltAxis_focus_eq, (State.haltAxis_zoom r s).1]

/-- What STANDBY leaves of the scanner and of the rocker (R5, R10). -/
theorem State.scannerPower_rests (old new : PowerState) (s : State) (h : new = .standby ∨ new = .shutdown) :
    s.scannerPower old new = { s with
      controls.switches := .ofFn fun i => { s.controls.switches.get i with
        polls := 0, held := (s.controls.switches.get i).held.map silencedHeld }
      controls.rocker := { s.controls.rocker with demand := 0, invalidRun := 0, railRun := 0, cleanRun := 0 }
      lens.demand := if s.controls.rocker.demand = 0 then s.lens.demand else 0
      lens.blocked := if s.controls.rocker.demand = 0 then s.lens.blocked else false } := by
  have hs : Held.silenced = silencedHeld := funext Held.silenced_eq
  rcases h with rfl | rfl <;>
  · unfold State.scannerPower State.setRocker
    by_cases hd : s.controls.rocker.demand = 0
    · simp only [Rocker.rest, Controls.silence, hd, vmap, hs, if_true]
    · simp only [Rocker.rest, Controls.silence, hd, Ne.symm hd, State.rockerDemand, vmap, hs, if_false]
      simp

/-- What entry to STANDBY does in the audio level unit (R160, R138). -/
theorem State.audioPower_standby (s : State) : s.audioPower .standby = { s with
    audio := { s.audio with power := .standby, ch1 := restedChannel s.audio.ch1, ch2 := restedChannel s.audio.ch2 }
    log.over1 := if s.audio.ch1.isOver then false else s.log.over1
    log.over2 := if s.audio.ch2.isOver then false else s.log.over2 } := by
  unfold State.audioPower State.endOver
  cases h1 : s.audio.ch1.isOver <;> cases h2 : s.audio.ch2.isOver <;>
    simp [h1, h2, Audio.channel, Audio.setChannel, ClipLog.overEnds, ClipLog.setCopy, ChannelRec.rest, restedChannel]

/-- What entry to STANDBY does (R186). -/
theorem State.setPower_standby (s : State) : StandbyEntered s (s.setPower .standby) := by
  obtain ⟨a, ha⟩ : ∃ a, a = ({ s with supply.power := .standby : State }).scannerPower s.supply.power .standby := ⟨_, rfl⟩
  refine ⟨a, a.haltLens .standby, (a.haltLens .standby).stabPower .standby, ?_, State.haltLens_halted _ _, ?_, ?_⟩
  · rw [ha, State.scannerPower_rests _ _ _ (.inl rfl)]
  · unfold State.stabPower
    convert State.stabUpdate_follows_setting _ (a.haltLens .standby) using 2
    simp
  · unfold State.setPower
    rw [ha]
    simp [State.lensPower, State.timecodePower, State.recPower, State.audioPower_standby, Overlay.onPower, Overlay.dropWaiting]

/-- What a begin of homing does (R47). -/
theorem State.beginHoming_begun (ax : Axis) (s : State) : HomingBegun ax s (s.beginHoming ax) := by
  unfold State.beginHoming
  rw [State.endHold_eq]
  refine ⟨_, rfl, ?_, ?_⟩
  · rintro rfl; rfl
  · rintro rfl
    exact State.stabUpdate_follows_setting { s.stab.cond with zoomHomed := false } _

/-- What a report of the reference does (R93). -/
theorem State.reportDifference_reported (s : State) : ReferenceReported s s.reportDifference := by
  unfold State.reportDifference State.reportReference
  refine ⟨fun h => if_pos h, fun h => ?_⟩
  rw [if_neg h]
  cases hq : s.tc.present <;> simp [State.condition, State.setWarned, Warnings.setEntry, State.post, hq]

/-- A report of the reference leaves the overlay's copy of the power state. -/
theorem State.reportDifference_ovlPower (s : State) : s.reportDifference.ovl.power = s.ovl.power := by
  unfold State.reportDifference State.reportReference State.condition State.setWarned State.post
  split_ifs <;> rfl

/-- What an entry to RUN does in the scanner (R4 to R6). -/
theorem Controls.resumed (s : State) (old : PowerState) : ∃ k, s.scannerPower old .run = { s with controls := k } ∧
    ScannerResumed (old = .init) s.pins s.controls k := by
  by_cases h : old = .init
  · subst h
    refine ⟨s.controls.startUp.readEncoders s.pins, by simp only [State.scannerPower], ?_⟩
    unfold Controls.readEncoders Controls.startUp
    refine ⟨rfl, rfl, rfl, rfl, rfl, fun _ => ⟨fun i => ?_, ?_, fun i => ?_⟩, fun h => absurd rfl h⟩
    · simp [Controls.silentHeld, vmap]
    · simp [Controls.activeWith, and_assoc]
    · simp [Controls.activeWith]
  · refine ⟨s.controls.resume.readEncoders s.pins, ?_, ?_⟩
    · cases old <;> first | exact absurd rfl h | simp only [State.scannerPower]
    · unfold Controls.readEncoders Controls.resume
      refine ⟨rfl, rfl, rfl, rfl, rfl, fun h' => absurd h' h, fun _ => ⟨fun i => ?_, rfl, rfl⟩⟩
      simp [vmap]

/-- What entry to RUN does (R185). -/
theorem State.setPower_run (s : State) : RunEntered s (s.setPower .run) := by
  obtain ⟨k, hk, hr⟩ := Controls.resumed { s with supply.power := .run } s.supply.power
  have e : s.setPower .run = (let b := ({ s with supply.power := .run, controls := k } : State).lensRun s.supply.power
      let d := (b.stabPower .run).reportDifference
      { d with recorder.power := .run, audio.power := .run, ovl := d.ovl.onPower .run }) := by
    unfold State.setPower
    simp only [hk, State.lensPower, State.timecodePower, State.recPower]
    simp [State.audioPower]
  rw [e]
  clear e hk
  have hp : ((({ s with supply.power := .run, controls := k } : State).lensRun s.supply.power).stabPower .run).reportDifference.ovl.power =
      s.ovl.power := by rw [State.reportDifference_ovlPower]; simp
  refine ⟨k, _, ({ s with supply.power := .run, controls := k } : State).lensRun s.supply.power, _, _, hr, rfl, fun h => ?_,
    fun h => ?_, ?_, State.reportDifference_reported _, rfl, fun h => ?_, fun h => ?_⟩
  · exact ⟨_, State.beginHoming_begun _ _, by rw [State.lensRun, if_pos h]; exact State.beginHoming_begun _ _⟩
  · rw [State.lensRun, if_neg h]; rfl
  · unfold State.stabPower
    convert State.stabUpdate_follows_setting _ (({ s with supply.power := .run, controls := k } : State).lensRun s.supply.power) using 2
    simp
  · dsimp only; unfold Overlay.onPower; rw [if_neg (by rw [hp]; simp [h])]; rfl
  · dsimp only; unfold Overlay.onPower; rw [if_pos (by rw [hp]; simp [h])]; exact Overlay.markPage_marks _ _

/-- The power state stands when the record supervisor is handed a supply state. -/
theorem State.recSupply_power (st : SupplyState) (s : State) : (s.recSupply st).supply.power = s.supply.power := by
  unfold State.recSupply State.failStart State.stopRecording State.setRecState
  split <;> simp [State.post]

/-- What a change of the supply state does (R184). -/
theorem State.supplyState_taken (p : Supply) (new : SupplyState) (s : State) (hp : new = p.level) (hn : new ≠ s.supply.state)
    (h1 : p.state = s.supply.state) (h2 : p.power = s.supply.power) :
    SupplyStateTaken p new s ({ s with supply := p } : State).supplyState := by
  have e : ({ s with supply := p } : State).supplyState =
      ({ s with supply := { p with state := new } } : State).supplyChanged s.supply.state new := by
    unfold State.supplyState
    simp only [← hp, h1, hn, if_false]
  rw [e]
  unfold State.supplyChanged
  dsimp only
  generalize hb : (if s.supply.state = SupplyState.normal ∧ new = .warn then _ else _ : State) = b
  refine ⟨_, b, rfl, fun h => ?_, fun n h h' h'' => ?_, fun n h h' h'' => ?_, fun h h' => ?_, fun h => ?_⟩
  · subst hb
    have hr : ∀ u : State, u.recorder.state = s.recorder.state → u.recSupply new = { u with recorder.supplyState := new } := by
      intro u hu
      unfold State.recSupply
      rw [hu]
      rcases h with rfl | rfl | h | h
      · rfl
      · rfl
      · rw [h]; cases new <;> rfl
      · rw [h]; cases new <;> rfl
    obtain ⟨v, hv⟩ : ∃ v : State, v = ({ s with supply := { p with state := new } } : State).post (.supplyState new p.effective p.dcPresent) :=
      ⟨_, rfl⟩
    rw [← hv, hr v (by rw [hv]; rfl)]
    subst hv
    by_cases hw : s.supply.state = .normal ∧ new = .warn
    · simp [hw, State.supplyWarnings, State.condition, State.setWarned, Warnings.setEntry, State.post, State.beep_eq_beeped, Controls.beeped]
    · simp only [hw, if_false]
      cases new <;> simp [State.supplyWarnings, State.condition, State.setWarned, Warnings.setEntry, State.post]
  · subst hb
    have hw : ¬(s.supply.state = .normal ∧ new = .warn) := by rintro ⟨-, rfl⟩; simp at h
    simp only [hw, if_false]
    have hr : ∀ u : State, u.recorder.state = .starting → u.recorder.clip = some n →
        u.recSupply new = startFailed n .supply { u with recorder.supplyState := new } := by
      intro u hu hc
      unfold State.recSupply
      rw [hu]
      rcases h with rfl | rfl <;> exact State.failStart_failed n _ _ hc
    obtain ⟨v, hv⟩ : ∃ v : State, v = ({ s with supply := { p with state := new } } : State).post (.supplyState new p.effective p.dcPresent) :=
      ⟨_, rfl⟩
    rw [← hv, hr v (by rw [hv]; exact h') (by rw [hv]; exact h'')]
    subst hv
    rcases h with rfl | rfl <;> simp [State.supplyWarnings, State.condition, State.setWarned, Warnings.setEntry, State.post, startFailed, Controls.beeped] <;> rfl
  · subst hb
    have hw : ¬(s.supply.state = .normal ∧ new = .warn) := by rintro ⟨-, rfl⟩; simp at h
    simp only [hw, if_false]
    have hr : ∀ u : State, u.recorder.state = .recording → u.recorder.clip = some n →
        u.recSupply new = stopMade n .supply { u with recorder.supplyState := new } := by
      intro u hu hc
      unfold State.recSupply
      rw [hu]
      rcases h with rfl | rfl <;> exact State.stopRecording_made n _ _ hc
    obtain ⟨v, hv⟩ : ∃ v : State, v = ({ s with supply := { p with state := new } } : State).post (.supplyState new p.effective p.dcPresent) :=
      ⟨_, rfl⟩
    rw [← hv, hr v (by rw [hv]; exact h') (by rw [hv]; exact h'')]
    subst hv
    rcases h with rfl | rfl <;> simp [State.supplyWarnings, State.condition, State.setWarned, Warnings.setEntry, State.post, stopMade, Controls.beeped] <;> rfl
  · rw [if_pos h]
    have : b.supply.power = s.supply.power := by subst hb; rw [← h2]; split <;> simp [State.supplyWarnings, State.post, State.recSupply_power]
    exact State.beginShutdown_begun _ _ (by rw [this]; exact h')
  · by_cases hc : new = .cutoff
    · rw [if_pos hc]
      have : b.supply.power = s.supply.power := by subst hb; rw [← h2]; split <;> simp [State.supplyWarnings, State.post, State.recSupply_power]
      have h := h.resolve_left (by simp [hc])
      unfold State.beginShutdown
      rw [this]
      rcases h with h | h <;> rw [h]
    · rw [if_neg hc]

end Sys2Proof.Machine
end

