-- ==== Sys2Proof/Laws/Reports.lean ====
section
/-! SUPPORT. What the live fields show and what the reports carry, in the words of Safety.lean. -/

namespace Sys2Proof.Machine

/-! ## Live fields -/

/-- A text of the model as cells in one style (R165). -/
theorem styled_codesOf (style : Style) (text : String) : styled style (codesOf text) = cellsIn style (charCodes text) := by
  simp [styled, codesOf, cellsIn, charCodes]

/-- The segment count of a peak (R149). -/
theorem segmentCount_cast (peak : Int) : (segmentCount peak : Int) = max 0 (min 10 ((peak + 600).tdiv 60)) := by
  unfold segmentCount clampInt
  omega

/-- A number of at most three digits, right-aligned in three cells (R166). -/
theorem padLeft_three (n : Nat) (h : n ≤ 999) :
    padLeft 3 (shortNumber n) = (threeCells n).map (BitVec.ofNat 8) := by
  unfold padLeft shortNumber threeCells
  split_ifs with h1 h2
  · simp [digits, digit, Nat.mod_eq_of_lt h1, List.replicate]
  · have : n / 10 % 10 = n / 10 := by omega
    simp [digits, digit, this]
  · have : n / 10 / 10 % 10 = n / 100 := by omega
    simp [digits, digit, this]

/-- The text of a slot (R166). -/
theorem media_shows (letter : Nat) (b : Bitrate) (r : SlotRec) :
    MediaShows letter b r (styled .normal (mediaText (BitVec.ofNat 8 letter) b r)) := by
  have h := padLeft_three (minutesOf b r.remaining) (by unfold minutesOf; omega)
  unfold minutesOf at h
  unfold MediaShows mediaText minutesOf
  cases r.state <;> simp [styled, cellsIn, charCodes, codesOf, h]

/-- The text of a channel (R166). -/
theorem audio_shows (number : Nat) (c : ChannelRec) :
    AudioShows number c (styled .normal (audioText (BitVec.ofNat 8 number) c)) := by
  intro k hk
  have hs : segmentCount c.peak = k := by have := segmentCount_cast c.peak; omega
  unfold audioText
  rw [hs]
  cases c.overFlag <;> simp [styled, cellsIn]

/-- The kind the WARNING field shows has the highest priority of the set (R168). -/
theorem Warnings.top_shown (w : Warnings) : ShownWarning w w.top := by
  have hin : ∀ k, (w.entry k).isIn = true ↔ w.entry k ≠ .absent := by intro k; cases w.entry k <;> simp [Warned.isIn]
  have hmem : ∀ k : WarnKind, k ∈ allWarnings := by intro k; cases k <;> decide
  have hsorted : allWarnings.Pairwise fun a b => (warningRow a).1 ≤ (warningRow b).1 := by decide
  refine ⟨fun h k => ?_, fun k h => ?_⟩
  · have := List.find?_eq_none.mp h k (hmem k)
    rw [hin] at this
    exact not_not.mp this
  · obtain ⟨h1, before, after, h2, h3⟩ := List.find?_eq_some_iff_append.mp h
    refine ⟨(hin k).mp h1, fun k' h' => ?_⟩
    have hk' := hmem k'
    rw [h2] at hsorted hk'
    rcases List.mem_append.mp hk' with hb | hb
    · have := h3 k' hb
      rw [(hin k').mpr h'] at this
      exact absurd this (by decide)
    · rcases List.mem_cons.mp hb with rfl | hb
      · exact le_refl _
      · exact (List.pairwise_cons.mp (List.pairwise_append.mp hsorted).2.1).1 k' hb

/-- One kind is shown (R168). -/
theorem ShownWarning.unique {w : Warnings} {a b : Option WarnKind} (ha : ShownWarning w a) (hb : ShownWarning w b) : a = b := by
  have hinj : ∀ k k' : WarnKind, (warningRow k).1 = (warningRow k').1 → k = k' := by
    intro k k'; cases k <;> cases k' <;> decide
  cases a with
  | none => cases b with
    | none => rfl
    | some k => exact absurd (ha.1 rfl k) (hb.2 k rfl).1
  | some k => cases b with
    | none => exact absurd (hb.1 rfl k) (ha.2 k rfl).1
    | some k' =>
      have h1 := (ha.2 k rfl).2 k' (hb.2 k' rfl).1
      have h2 := (hb.2 k' rfl).2 k (ha.2 k rfl).1
      rw [hinj k k' (Nat.le_antisymm h1 h2)]

/-- WARNING (R168). -/
theorem warning_shows (w : Warnings) :
    (ShownWarning w none → warningCells w = cellsIn .normal (List.replicate 16 0x20)) ∧
      ∀ k, ShownWarning w (some k) → warningCells w = cellsIn (if (warningRow k).1 ≤ 3 then .blink else .inverse)
        (charCodes (warningRow k).2 ++ List.replicate (16 - (warningRow k).2.length) 0x20) := by
  refine ⟨fun h => ?_, fun k h => ?_⟩ <;> (unfold warningCells; rw [← h.unique w.top_shown])
  · rfl
  · cases k <;> decide

/-- ZOOM_BAR (R166). -/
theorem zoomBar_shows (a : AxisRec) (n : Nat) (h : a.homing = .homed) (hs : 0 < a.span)
    (hn : (n : Int) = (10 * max 0 (min a.span a.position)).tdiv a.span) :
    styled .normal (zoomBarText a) = cellsIn .normal ([0x57] ++ List.replicate n 0x3D ++ List.replicate (10 - n) 0x20 ++ [0x54]) := by
  have hc : clampInt 0 a.span a.position = max 0 (min a.span a.position) := by unfold clampInt; omega
  have h0 : 0 ≤ max 0 (min a.span a.position) := by omega
  have hle : (10 * max 0 (min a.span a.position)).tdiv a.span ≤ 10 := by
    rw [Int.tdiv_eq_ediv_of_nonneg (by omega)]
    apply Int.ediv_le_of_le_mul hs
    have : max 0 (min a.span a.position) ≤ a.span := by omega
    omega
  have hf : zoomFill a = n := by
    unfold zoomFill
    rw [hc, ← hn]
    unfold clampInt
    omega
  unfold zoomBarText
  rw [if_pos h, hf]
  simp [styled, cellsIn, padRight]

/-- Every live field shows what its row says (R165, R166, R168). -/
theorem render_shows (s : State) (k : FieldKind) : FieldShows s k (render s k) := by
  cases k <;> unfold FieldShows render <;> dsimp only
  case timecode => cases h : s.tc.rate <;> simp [h, styled, cellsIn, timecodeText, digits, digit, twoDigits]
  case recState => cases s.recorder.state <;> exact styled_codesOf _ _
  case clipNo =>
    intro n hn
    have h : s.recorder.shownClip = n := by
      unfold Recorder.shownClip
      rcases hn with ⟨h, rfl⟩ | ⟨h, h'⟩
      · simp [h]
      · cases hs : s.recorder.state <;> simp_all
    unfold clipNoText
    rw [h]
    simp [styled, cellsIn, digits, digit, twoDigits, Nat.div_div_eq_div_mul]
  case supply =>
    rintro t source rfl rfl
    unfold supplyText shortNumber padLeft
    refine ⟨fun h => ?_, fun h h' => ?_⟩
    · have h1 : s.supply.effective / 100 / 10 < 10 := by omega
      cases s.supply.dcPresent <;> simp [styled, cellsIn, h1, digits, digit, Nat.mod_eq_of_lt h1]
    · have h1 : ¬ s.supply.effective / 100 / 10 < 10 := by omega
      have h2 : s.supply.effective / 100 / 10 < 100 := by omega
      have h3 : s.supply.effective / 100 / 10 / 10 % 10 = s.supply.effective / 100 / 100 := by omega
      cases s.supply.dcPresent <;> simp [styled, cellsIn, h1, h2, h3, digits, digit]
  case mediaA => exact media_shows 0x41 _ _
  case mediaB => exact media_shows 0x42 _ _
  case zoomBar =>
    refine ⟨fun h => ?_, fun n h hs hn => zoomBar_shows _ n h hs hn⟩
    unfold zoomBarText
    rw [if_neg h]
    decide
  case focus =>
    unfold focusText
    cases s.lens.mode <;> cases s.lens.override <;> exact styled_codesOf _ _
  case stab =>
    unfold stabText
    rcases s.stab.state with _ | _ | sub | _
    case active => cases sub <;> exact styled_codesOf _ _
    all_goals exact styled_codesOf _ _
  case audio1 => exact audio_shows 0x31 _
  case audio2 => exact audio_shows 0x32 _
  case warning => exact warning_shows _

/-! ## Reports -/

/-- The motion state of an axis (R38). -/
theorem motionOf_is (a : AxisRec) : MotionIs a (motionOf a) := by
  unfold MotionIs motionOf
  refine ⟨fun h1 h2 => by simp [h1, h2], fun h => ?_⟩
  have hn : ¬(a.fault = true ∧ a.owner ≠ .homing) := by rcases h with h | h <;> simp [h]
  rw [if_neg hn]
  refine ⟨fun h => if_pos h, fun h => ?_⟩
  rw [if_neg (by omega)]
  exact ⟨fun h => if_pos h, fun h1 h2 => if_neg (by simp [h1, h2])⟩

/-- CONTROLS_GET (R22). -/
theorem Controls.report_reported (c : Controls) : ControlsReported c c.report := by
  refine ⟨rfl, fun i => ⟨?_, fun h => ?_, fun h' h => ?_⟩⟩ <;> simp [Controls.report, vmap, Vector.get_ofFn, *]

/-- ADC_GET (R35). -/
theorem Converter.report_reported (c : Converter) : AdcReported c c.report := by
  refine ⟨rfl, fun h => ?_, fun v h => ?_, fun t h => ?_⟩ <;> simp [Converter.report, h, Activity.name]

/-- One axis of LENS_GET (R63). -/
theorem AxisRec.report_reported (now : Nat) (a : AxisRec) : AxisReported now a (a.report now) := by
  refine ⟨rfl, motionOf_is a, ?_⟩
  unfold AxisRec.report suspectHeld
  cases a.suspect <;> simp [suspectTime]
  exact decide_eq_true_iff

/-- LENS_GET (R63). -/
theorem Lens.report_reported (now : Nat) (l : Lens) : LensReported now l (l.report now) :=
  ⟨rfl, l.zoom.report_reported now, l.focus.report_reported now⟩

/-- STAB_GET (R83). -/
theorem Stabiliser.report_reported (t : Stabiliser) : StabReported t t.report := rfl

/-- TC_GET (R98). -/
theorem Timecode.report_reported (t : Timecode) : TcReported t t.report := rfl

/-- REC_GET (R129). -/
theorem State.recReport_reported (s : State) : RecReported s s.recReport := ⟨rfl, s.timeLeft_is, rfl, rfl⟩

/-- AUDIO_GET (R159). -/
theorem Audio.report_reported (now : Nat) (t : Audio) : AudioReported now t (t.report now) :=
  ⟨rfl, ⟨rfl, segmentCount_cast _⟩, rfl, segmentCount_cast _⟩

/-- OVL_GET (R179). -/
theorem State.ovlReport_reported (s : State) (page : Fin 4) (row : Fin 16) : OvlReported s page row (s.ovlReport page row) := by
  refine ⟨?_, s.ovl.warnings.top_shown, fun k left => ?_, fun c => ⟨rfl, ?_⟩⟩
  · unfold State.ovlReport
    rcases s.ovl.pages with ⟨⟨l⟩, h⟩
    match l, h with
    | [a, b, c, d], _ => rfl
  · have hmem : ∀ k : WarnKind, k ∈ allWarnings := by intro k; cases k <;> decide
    simp only [State.ovlReport, Warnings.report, List.mem_filterMap]
    constructor
    · rintro ⟨k', -, h⟩
      cases hw : s.ovl.warnings.entry k' <;> simp only [hw] at h
      · exact absurd h (by simp)
      · cases h; exact .inl ⟨hw, rfl⟩
      · cases h; exact .inr ⟨_, hw, rfl⟩
    · rintro (⟨h, rfl⟩ | ⟨t, h, rfl⟩) <;> exact ⟨k, hmem k, by simp [h, msLeft, wholeMs]⟩
  · simp [State.ovlReport, Overlay.displayedRow, Vector.get_ofFn]

/-- SUPPLY_GET (R191). -/
theorem Supply.report_reported (p : Supply) : SupplyReported p p.report := rfl

/-- STATUS_GET (R200). -/
theorem State.status_reported (s : State) : StatusReported s s.status := by
  refine ⟨rfl, motionOf_is _, motionOf_is _, ?_, fun k => ?_⟩
  · have : allWarnings.Nodup := by decide
    exact List.Nodup.filter _ this
  · have hmem : k ∈ allWarnings := by cases k <;> decide
    simp only [State.status, Warnings.kinds, List.mem_filter, hmem, true_and]
    cases s.ovl.warnings.entry k <;> simp [Warned.isIn]

end Sys2Proof.Machine
end

