-- ==== Sys2Proof/Tests/Slice0.lean ====
section
/-! SUPPORT. The author's tests: ill-formed commands that WellFormed refuses, the manual's worked figures on single steps, and for each
statement with hypotheses a state and operands that meet them. Expected values come from the rule or the worked example cited. -/

set_option maxRecDepth 100000

namespace Sys2Proof.Tests
open Sys2Proof Sys2Proof.Machine

/-! ## States that the tests start from -/

/-- The part in RUN with an idle converter that passed its self-check. -/
def up : State :=
  { State.reset with
    supply.power := .run, recorder.power := .run, audio.power := .run, ovl.power := .run, lens.floating := false
    stab.cond.run := true
    conv := { Converter.powerOn with activity := .idle, parties := ⟨false, false, false⟩, selfCheck := true } }

/-- `up` with both axes HOMED. -/
def homed : State :=
  { up with
    lens := { up.lens with
      zoom := { AxisRec.powerOn 16000 with homing := .homed }, focus := { AxisRec.powerOn 24000 with homing := .homed } }
    stab.cond.zoomHomed := true }

/-- `homed` with the stabiliser ACTIVE in NORMAL. -/
def active : State := { homed with stab.state := .active .normal, stab.cond.gyroValid := true }

/-- `up` with another power state. -/
def inPower (p : PowerState) : State :=
  { up with supply.power := p, recorder.power := p, audio.power := p, ovl.power := p }

/-- `up` in a record state, with clip 5 in hand and slot A ACTIVE. -/
def clip (r : RecState) : State :=
  { up with
    recorder := { up.recorder with
      state := r, clip := some 5, slotA := { up.recorder.slotA with state := .active, remaining := 400000, present := true } }
    tc.recState := r, supply.recState := r }

/-- `up` with a slot A in a state. -/
def slotA (st : SlotState) : State := { up with recorder.slotA := { up.recorder.slotA with state := st } }

/-- An OPEN clip record of clip 5 on slot A. -/
def open5 : ClipRec :=
  { number := 5, state := .opened, start := ⟨⟨10, 0, 0, 0⟩, false⟩, endLabel := none, dayRoll := false, userBits := 0, zoom := none
    focus := none, goodShot := false, over1 := false, over2 := false
    segments := [⟨.a, ⟨⟨10, 0, 0, 0⟩, false⟩, .inProgress⟩], marks := [] }

/-- The CLOSED record of a clip. -/
def closed (n : Nat) : ClipRec := { open5 with number := n, state := .closed, endLabel := some ⟨⟨10, 0, 1, 0⟩, false⟩ }

/-- What a command leaves. -/
def after (i : Instr) (s : State) : State :=
  match exec i s with
  | .next t => t
  | _ => s

/-- The reply that an idle transmitter takes at the end of a request command. -/
def replyOf (i : Instr) (s : State) : Option (Result × Reason) :=
  match (after i s).port.tx with
  | some (.reply r _) => some (r.result, r.reason)
  | _ => none

/-! ## WellFormed refuses an ill-formed command at each of its checks -/

theorem test_wf_frame : Instr.wf (.frameReceived []) = false := by decide
theorem test_wf_unknownKind : Instr.wf (.unknownKind 0 0x01) = false ∧ Instr.wf (.unknownKind 0 0x3E) = false := by decide
theorem test_wf_inputConfig : Instr.wf (.inputConfig 0 (.given ⟨4294967296, true, .activeLow, .momentary, false⟩)) = false := by decide
theorem test_wf_keymapSet : Instr.wf (.keymapSet 0 (.given ⟨.plain, 4294967296, bareEntry .token⟩)) = false := by decide
theorem test_wf_keymapGet : Instr.wf (.keymapGet 0 (.given ⟨.plain, 4294967296⟩)) = false := by decide
theorem test_wf_rockerSet : Instr.wf (.rockerSet 0 (.given ⟨4294967296, 0, 1⟩)) = false ∧
    Instr.wf (.rockerSet 0 (.given ⟨0, 4294967296, 1⟩)) = false ∧ Instr.wf (.rockerSet 0 (.given ⟨0, 0, 4294967296⟩)) = false := by
  decide
theorem test_wf_adcEnable : Instr.wf (.adcEnable 0 (.given (List.replicate 129 0))) = false ∧
    Instr.wf (.adcEnable 0 (.given [4294967296])) = false := by decide
theorem test_wf_zoomGoto : Instr.wf (.zoomGoto 0 (.given ⟨2147483648, 1⟩)) = false ∧
    Instr.wf (.zoomGoto 0 (.given ⟨-2147483649, 1⟩)) = false ∧ Instr.wf (.zoomGoto 0 (.given ⟨0, 4294967296⟩)) = false := by decide
theorem test_wf_focusGoto : Instr.wf (.focusGoto 0 (.given ⟨2147483648, 1⟩)) = false ∧
    Instr.wf (.focusGoto 0 (.given ⟨0, 4294967296⟩)) = false := by decide
theorem test_wf_zoomDrive : Instr.wf (.zoomDrive 0 (.given ⟨2147483648, 1⟩)) = false ∧
    Instr.wf (.zoomDrive 0 (.given ⟨0, 4294967296⟩)) = false := by decide
theorem test_wf_presets : Instr.wf (.presetRecall 0 (.given 4294967296)) = false ∧
    Instr.wf (.presetSet 0 (.given ⟨4294967296, none⟩)) = false ∧
    Instr.wf (.presetSet 0 (.given ⟨1, some 2147483648⟩)) = false := by decide
theorem test_wf_lensConfig : Instr.wf (.lensConfig 0 (.given ⟨4294967296, 0, 0, 0⟩)) = false ∧
    Instr.wf (.lensConfig 0 (.given ⟨0, 4294967296, 0, 0⟩)) = false ∧
    Instr.wf (.lensConfig 0 (.given ⟨0, 0, 4294967296, 0⟩)) = false ∧
    Instr.wf (.lensConfig 0 (.given ⟨0, 0, 0, 4294967296⟩)) = false := by decide
theorem test_wf_gainTable : Instr.wf (.stabGainTableSet 0 (.given (List.replicate 65 0))) = false ∧
    Instr.wf (.stabGainTableSet 0 (.given [65536])) = false := by decide
theorem test_wf_offset : Instr.wf (.stabOffsetSet 0 (.given ⟨.yaw, 4294967296⟩)) = false := by decide
theorem test_wf_tcSet : Instr.wf (.tcSet 0 (.given ⟨256, 0, 0, 0⟩)) = false ∧ Instr.wf (.tcSet 0 (.given ⟨0, 256, 0, 0⟩)) = false ∧
    Instr.wf (.tcSet 0 (.given ⟨0, 0, 256, 0⟩)) = false ∧ Instr.wf (.tcSet 0 (.given ⟨0, 0, 0, 128⟩)) = false := by decide
theorem test_wf_clips : Instr.wf (.clipNumberSet 0 (.given 4294967296)) = false ∧
    Instr.wf (.recConfirm 0 (.given 4294967296)) = false ∧ Instr.wf (.clipClosed 0 (.given ⟨4294967296, .ok, .ok⟩)) = false ∧
    Instr.wf (.clipRead 0 (.given (.byIndex 4294967296))) = false ∧
    Instr.wf (.clipRead 0 (.given (.byNumber 4294967296))) = false := by decide
theorem test_wf_cards : Instr.wf (.cardReport 0 (.given ⟨.a, .ok, 4294967296⟩)) = false ∧
    Instr.wf (.mediaUpdate 0 (.given ⟨.a, 4294967296⟩)) = false := by decide
theorem test_wf_audio :
    Instr.wf (.audioConfig 0 (.given ⟨⟨.mic, .panel, true, 4294967296⟩, ⟨.mic, .panel, true, 0⟩, false⟩)) = false ∧
    Instr.wf (.audioConfig 0 (.given ⟨⟨.mic, .panel, true, 0⟩, ⟨.mic, .panel, true, 4294967296⟩, false⟩)) = false ∧
    Instr.wf (.audioGainSet 0 (.given ⟨4294967296, 0⟩)) = false ∧ Instr.wf (.audioGainSet 0 (.given ⟨1, 4294967296⟩)) = false := by
  decide
theorem test_wf_ovlWrite : Instr.wf (.ovlWrite 0 (.given ⟨4294967296, 0, 0, .normal, []⟩)) = false ∧
    Instr.wf (.ovlWrite 0 (.given ⟨0, 4294967296, 0, .normal, []⟩)) = false ∧
    Instr.wf (.ovlWrite 0 (.given ⟨0, 0, 4294967296, .normal, []⟩)) = false ∧
    Instr.wf (.ovlWrite 0 (.given ⟨0, 0, 0, .normal, List.replicate 129 0⟩)) = false := by decide
theorem test_wf_ovlFill : Instr.wf (.ovlFill 0 (.given ⟨4294967296, 0, 0, 0, .normal, 0⟩)) = false ∧
    Instr.wf (.ovlFill 0 (.given ⟨0, 4294967296, 0, 0, .normal, 0⟩)) = false ∧
    Instr.wf (.ovlFill 0 (.given ⟨0, 0, 4294967296, 0, .normal, 0⟩)) = false ∧
    Instr.wf (.ovlFill 0 (.given ⟨0, 0, 0, 0, .normal, 4294967296⟩)) = false := by decide
theorem test_wf_ovlScroll : Instr.wf (.ovlScroll 0 (.given ⟨4294967296, 0, 0, 0, 0, 0, .up, .normal⟩)) = false ∧
    Instr.wf (.ovlScroll 0 (.given ⟨0, 4294967296, 0, 0, 0, 0, .up, .normal⟩)) = false ∧
    Instr.wf (.ovlScroll 0 (.given ⟨0, 0, 4294967296, 0, 0, 0, .up, .normal⟩)) = false ∧
    Instr.wf (.ovlScroll 0 (.given ⟨0, 0, 0, 4294967296, 0, 0, .up, .normal⟩)) = false ∧
    Instr.wf (.ovlScroll 0 (.given ⟨0, 0, 0, 0, 4294967296, 0, .up, .normal⟩)) = false ∧
    Instr.wf (.ovlScroll 0 (.given ⟨0, 0, 0, 0, 0, 4294967296, .up, .normal⟩)) = false := by decide
theorem test_wf_pages : Instr.wf (.ovlClear 0 (.given 4294967296)) = false ∧
    Instr.wf (.ovlPageSelect 0 (.given 4294967296)) = false ∧ Instr.wf (.ovlGet 0 (.given ⟨4294967296, 0⟩)) = false ∧
    Instr.wf (.ovlGet 0 (.given ⟨0, 4294967296⟩)) = false := by decide
theorem test_wf_cursors : Instr.wf (.ovlCursor 0 (.given ⟨4294967296, 0, 0, true⟩)) = false ∧
    Instr.wf (.ovlCursor 0 (.given ⟨0, 4294967296, 0, true⟩)) = false ∧
    Instr.wf (.ovlCursor 0 (.given ⟨0, 0, 4294967296, true⟩)) = false := by decide
theorem test_wf_fields : Instr.wf (.ovlFieldSet 0 (.given ⟨.stab, true, 4294967296, 0, 0⟩)) = false ∧
    Instr.wf (.ovlFieldSet 0 (.given ⟨.stab, true, 0, 4294967296, 0⟩)) = false ∧
    Instr.wf (.ovlFieldSet 0 (.given ⟨.stab, true, 0, 0, 4294967296⟩)) = false := by decide
theorem test_wf_supplySet : Instr.wf (.supplySet 0 (.given ⟨4294967296, 0, 0⟩)) = false ∧
    Instr.wf (.supplySet 0 (.given ⟨0, 4294967296, 0⟩)) = false ∧ Instr.wf (.supplySet 0 (.given ⟨0, 0, 4294967296⟩)) = false := by
  decide

/-! ## The manual's worked figures -/

/-- Section 11.1: STATUS_GET with TAG 07h is sent A5h, 00h, 01h, 07h, F8h. -/
theorem test_frame_statusGet : (after (.frameReceived [0xA5, 0x00, 0x01, 0x07, 0xF8]) up).port.queue =
    [⟨0x01, 0x07, some [], .untaken⟩] := by decide

/-- R194: a wrong CHECK brings nothing and sets the link-error latch. -/
theorem test_frame_badCheck : (after (.frameReceived [0xA5, 0x00, 0x01, 0x07, 0xF9]) up).port.linkError = true := by decide

/-- R17: 1101h, 4124h and 0013h. -/
theorem test_token_words : tokenWord 17 .press .plain = 0x1101 ∧ tokenWord (encoderCode .dial) .detentUp .menu = 0x4124 ∧
    tokenWord 0 .long .assign = 0x0013 := by decide

/-- Section 1.3.1: OK 3,000 demands 256, OK 1,000 demands −315. -/
theorem test_rocker_demand : rockerDemandOf ⟨2048, 80, 1800⟩ 3000 = 256 ∧ rockerDemandOf ⟨2048, 80, 1800⟩ 1000 = -315 := by decide

/-- Section 1.3.1: the third RAIL result after four INVALID ones is the fault. -/
theorem test_rocker_fault :
    let k := [⟨2, 0, .invalid⟩, ⟨2, 4095, .rail⟩, ⟨2, 4095, .rail⟩, ⟨2, 4095, .rail⟩].foldl Rocker.result Rocker.powerOn
    k.state = .fault ∧ k.demand = 0 ∧ k.railRun = 3 := by decide

/-- R8, R9: a result delivered in STANDBY moves the run counts and the state, and the demand stays 0. -/
theorem test_rocker_counts_outside_run :
    (Rocker.powerOn.resultIn .standby ⟨2, 3000, .ok⟩).demand = 0 ∧
    ({ Rocker.powerOn with railRun := 2 }.resultIn .standby ⟨2, 4095, .rail⟩).state = .fault := by decide

/-- Section 2.4: raw codes corrected by the offset. -/
theorem test_converted_records : convertedRecord 5 2 2100 = ⟨2, 2095, .ok⟩ ∧ convertedRecord 5 2 3 = ⟨2, 0, .ok⟩ ∧
    convertedRecord 5 2 0 = ⟨2, 0, .rail⟩ ∧ convertedRecord 5 2 4095 = ⟨2, 4090, .rail⟩ ∧
    convertedRecord (-10) 2 4090 = ⟨2, 4095, .ok⟩ ∧ convertedRecord (-10) 2 4095 = ⟨2, 4095, .rail⟩ := by decide

/-- Section 2.8.1: a reference of 2,059 gives offset 11, PASSED. -/
theorem test_calibration : (after (.calibrationEnd 2059) { up with
      conv.activity := .calibrating 2505, conv.parties := ⟨false, false, true⟩ }).port.tx =
    some (.notice (.adcDone true 11 2059)) := by decide

/-- R40: the two worked speeds. -/
theorem test_speeds : speedOf 16 4000 = 4000 ∧ speedOf 1 3333 = 300 ∧ captureEdges 4000 = 16 ∧ captureEdges 300 = 1 := by decide

/-- R49: a span of 15,872 is accepted, and a preset at 16,000 becomes 15,872. -/
theorem test_span_clamps_presets : spanAccepted .zoom 15872 = true ∧
    ((homed.lens.clampPresets 15872).presets.get 0, ({ homed.lens with presets := .replicate 8 16000 }.clampPresets 15872).presets.get 3) =
      (0, 15872) := by decide

/-- R60: detents UP at 0, 4 and 9 ms step 8, 8 and 32 counts; one at 30 ms steps 8. -/
theorem test_abandoned_span_kept :
    ((after (.homingTimeout .focus) { up with lens.focus := { up.lens.focus with
      homing := .homing .park, homingTimer := some 9, span := 19200, spanBefore := some 24000 } }).lens.focus.span) = 24000 := by decide

theorem test_detent_steps : ({ homed.lens with detents := [] }.detentStep 0, { homed.lens with detents := [0] }.detentStep 4000,
    { homed.lens with detents := [4000, 0] }.detentStep 9000, { homed.lens with detents := [9000, 4000] }.detentStep 30000) =
      (8, 8, 32, 8) := by decide

/-- Section 3.9, 1 ms: the first control event of ZOOM_GOTO(12,000, 3,000) gives v_cmd 400 and duty 142. -/
theorem test_control_ramp :
    let s := after (.controlEvent .zoom) (after (.zoomGoto 0 (.given ⟨12000, 3000⟩))
      { homed with lens.zoom.position := 2000 })
    (s.lens.zoom.vcmd, s.lens.zoom.duty) = (400, 142) := by decide

/-- Section 3.9, 700 ms: the rocker at −315 claims a PRESET zoom, which reverses through the gap. -/
theorem test_control_claim :
    let s := after (.controlEvent .zoom) { homed with
      lens := { homed.lens with
        demand := -315
        zoom := { homed.lens.zoom with
          position := 3637, owner := .preset, move := some .goto, target := some 4000, gotoSpeed := some 1500, vcmd := 1500 } } }
    (s.lens.zoom.owner, s.lens.zoom.vcmd, s.lens.zoom.gap, s.lens.zoom.duty) = (.operator, 0, 3, 0) ∧
      s.port.tx = some (.notice (.motionDone .zoom .preempted .preset 3637)) := by decide

/-- Section 3.9, 1,600 ms: ZOOM_GOTO(20,000, 9,000) is CLAMPED to 16,000 at 8,000. -/
theorem test_goto_clamped :
    let s := after (.zoomGoto 0 (.given ⟨20000, 9000⟩)) homed
    s.lens.zoom.target = some 16000 ∧ s.lens.zoom.gotoSpeed = some 8000 ∧
      replyOf (.zoomGoto 0 (.given ⟨20000, 9000⟩)) homed = some (.clamped, .none) := by decide

/-- Section 4.6: gain, accumulators, targets, duties and learning of the worked sample event. -/
theorem test_sample_event :
    let s := after .sampleEvent { active with
      lens.zoom.position := 9500
      stab := { active.stab with
        yaw := { GyroAxis.powerOn with acc := 100000 }
        pitch := { GyroAxis.powerOn with z := 32640, acc := -20000, learnRun := 420 }
        mailbox := some (⟨0, 2100, .ok⟩, ⟨1, 2030, .ok⟩) } }
    gainAt active.stab.gains 9500 16000 = 23000 ∧
      (s.stab.yaw.acc, s.stab.yaw.traw, s.stab.yaw.target, s.stab.yaw.duty, s.stab.yaw.satRun) = (100735, -2209, -2000, 12, 1) ∧
      (s.stab.pitch.acc, s.stab.pitch.target, s.stab.pitch.duty, s.stab.pitch.satRun, s.stab.pitch.learnRun) =
        (-20141, 441, 622, 0, 0) := by decide

/-- R82: STAB_OFFSET_SET(PITCH, 12,000) is CLAMPED to 16,384, (YAW, 32,800) is OK. -/
theorem test_offsets : ((after (.stabOffsetSet 0 (.given ⟨.pitch, 12000⟩)) up).stab.pitch.z,
    replyOf (.stabOffsetSet 0 (.given ⟨.yaw, 32800⟩)) up) = (16384, some (.ok, .none)) := by decide

/-- Section 5.2.4: the drop-frame minute, minute 10 and midnight. -/
theorem test_advance : advanceLabel .r30df ⟨0, 0, 59, 29⟩ = (⟨0, 1, 0, 2⟩, false) ∧
    advanceLabel .r30df ⟨0, 9, 59, 29⟩ = (⟨0, 10, 0, 0⟩, false) ∧ advanceLabel .r25 ⟨23, 59, 59, 24⟩ = (⟨0, 0, 0, 0⟩, true) := by
  decide

/-- Section 5.6.1, 100 ms: the watch's expiry. -/
theorem test_watch_expiry :
    let s := after .fsyncWatchExpiry { up with tc.label := ⟨1, 0, 0, 10⟩, tc.watch := some 100000 }
    s.tc.frameTimer = some 140000 ∧ s.port.tx = some (.notice (.fsyncState false ⟨⟨1, 0, 0, 10⟩, false⟩)) ∧
      s.ovl.warnings.fsyncLost = .placed := by decide

/-- Section 6.8, −0.3 s: REC_START(57, A). -/
theorem test_rec_start :
    let s := after (.recStart 0) { up with
      recorder := { up.recorder with
        mode := .relay, bitrate := .mb100, nextClip := 57
        slotA := { up.recorder.slotA with state := .ready, remaining := 400000 }
        slotB := { up.recorder.slotB with state := .ready, remaining := 2000000 } } }
    (s.recorder.state, s.recorder.clip, s.recorder.startSet) = (.starting, some 57, ⟨true, false⟩) := by decide

/-- Section 6.8, 2 s: the accounting event relays from A to B. -/
theorem test_relay :
    let s := after .accountingEvent { clip .recording with
      recorder := { (clip .recording).recorder with
        mode := .relay, bitrate := .mb100, accountTimer := some 2000000, tally := .lit
        slotA := { up.recorder.slotA with state := .active, remaining := 387500 }
        slotB := { up.recorder.slotB with state := .ready, remaining := 2000000 } }
      log.records := [open5] }
    (s.recorder.slotA.state, s.recorder.slotA.remaining, s.recorder.slotB.state, s.recorder.current) =
        (.full, 375000, .active, .b) ∧
      (s.log.records.map fun r => r.segments.map (·.outcome)) = [[.full, .inProgress]] := by decide

/-- Section 7.8: a reused number leaves its old record, and the level of a full log stands at 64. -/
theorem test_log_reuse :
    let old := (List.range 64).map fun k => closed (164 - k)
    let s := after (.recConfirm 0 (.given 120)) { clip .starting with
      recorder := { (clip .starting).recorder with clip := some 120, startSet := ⟨true, false⟩ }
      log.records := old }
    s.log.records.length = 64 ∧ (s.log.records.map (·.number)).take 2 = [120, 164] ∧
      ((s.log.records.map (·.number)).filter (· = 120)).length = 1 := by decide

/-- Section 8.6, 520 ms: at L = −30 the limiter raises the reduction by 1 and the applied gain falls to 27. -/
theorem test_limiter :
    let s := after .levelEvent { up with
      audio.ch1 := { ChannelRec.powerOn with setGain := 28, applied := 28 }
      audio.mailbox := some (⟨3, 3967, .ok⟩, ⟨4, 0, .ok⟩) }
    (s.audio.ch1.reduction, s.audio.ch1.applied) = (1, 27) := by decide

/-- R165, R166: the worked texts of the live fields. -/
theorem test_live_texts :
    render { up with tc.label := ⟨10, 2, 20, 10⟩ } .timecode = cellsOf .normal "10:02:20:10" ∧
    render { up with tc.rate := .r30df, tc.label := ⟨0, 1, 0, 2⟩ } .timecode = cellsOf .normal "00:01:00;02" ∧
    render { up with recorder.nextClip := 57 } .clipNo = cellsOf .normal "#0057" ∧
    render { up with supply.effective := 14505 } .supply = cellsOf .normal "B14.5V" ∧
    render { up with supply.effective := 9087, supply.dcPresent := true } .supply = cellsOf .normal "D 9.0V" ∧
    render { homed with lens.zoom.position := 9500 } .zoomBar = cellsOf .normal "W=====     T" := by decide

/-- R166: the worked texts of the media fields. -/
theorem test_media_texts :
    render { up with
      recorder.bitrate := .mb100
      recorder.slotA := { up.recorder.slotA with state := .ready, remaining := 2000000 } } .mediaA = cellsOf .normal "A    2m" ∧
    render { up with
      recorder.bitrate := .mb100
      recorder.slotA := { up.recorder.slotA with state := .active, remaining := 1400000 } } .mediaA = cellsOf .normal "A*   1m" ∧
    render { up with
      recorder.bitrate := .mb25
      recorder.slotB := { up.recorder.slotB with state := .ready, remaining := 100000000 } } .mediaB = cellsOf .normal "B  533m" := by
  decide

/-- R169: OVL_WRITE of 14 codes at column 30 writes ten, and the reply is CLAMPED. -/
theorem test_write_clamped :
    let i : Instr := .ovlWrite 0 (.given ⟨1, 4, 30, .inverse, (cellsOf .normal "CLIP NAME 0057").map (·.code)⟩)
    replyOf i up = some (.clamped, .none) ∧ (after i up).ovl.hostCell 1 4 39 = ⟨0x20, .inverse⟩ ∧
      (after i up).ovl.hostCell 1 4 38 = ⟨0x45, .inverse⟩ := by decide

/-- R181: a value of 3,300 is 14,505 mV. -/
theorem test_millivolts : milliVolts 3300 = 14505 ∧ milliVolts 4095 = 18000 := by decide

/-! ## For each statement with hypotheses, a state and operands that meet them -/

/-! ### The part as a whole -/

theorem witness_StepRunsTheFrontCommand : up.pending = [] ∧ ({ up with pending := [.fsyncEdge] } : State).pending = .fsyncEdge :: [] := by
  decide

theorem witness_EveryCommandCompletes : Instr.warmReset ≠ .powerOnReset ∧ ∃ t, exec .warmReset up = .next t := ⟨by decide, _, rfl⟩

theorem witness_LiveFieldsFollowTheBlocks : ∃ t, exec .fsyncEdge up = .next t ∧ (t.ovl.fields.entry .timecode).text =
    cellsOf .normal "00:00:00:01" := ⟨_, rfl, by decide⟩

theorem witness_LiveFieldsFollowTheBlocks_rows :
    (up.recorder.state = .standby ∧ up.recorder.nextClip = 1) ∧
    ((clip .recording).recorder.state ≠ .standby ∧ (clip .recording).recorder.clip = some 5) ∧
    (9999 / 100 < 100 ∧ 100 ≤ 10000 / 100 ∧ 99999 / 100 < 1000) ∧
    (homed.lens.zoom.homing = .homed ∧ 0 < homed.lens.zoom.span ∧
      ((10 : Nat) : Int) = (10 * max 0 (min 16000 17000) : Int).tdiv 16000) ∧
    (((10 : Nat) : Int) = max 0 (min 10 ((0 + 600 : Int).tdiv 60)) ∧ ((0 : Nat) : Int) = max 0 (min 10 ((-541 + 600 : Int).tdiv 60))) ∧
    ShownWarning up.ovl.warnings none ∧
    ShownWarning { up.ovl.warnings with tokensFull := .timed 9, recFailed := .timed 9, mediaLow := .placed } (some .recFailed) := by
  refine ⟨by decide, by decide, by decide, by decide, by decide, ⟨fun _ k => by cases k <;> rfl, by simp⟩, by simp, ?_⟩
  rintro k ⟨⟩
  refine ⟨by decide, fun k' => by cases k' <;> decide⟩

theorem witness_IdleTransmitterLeavesNothingWaiting : ∃ t, exec .beepPatternEnd up = .next t ∧ t.port.tx = none := ⟨_, rfl, by decide⟩

theorem witness_EndOfStepFrame : ({ up with port.tx := some (.notice .tokensReady) } : State).port.tx.isSome = true ∧
    (let r : Reply := ⟨0x81, 1, .ok, .none, .none, false⟩;
      let s : State := { up with port.replies := [r], port.notices := [.tokensReady] };
      s.port.tx = none ∧ s.port.replies = r :: [] ∧ (settle s).port.tx = some (.reply r 0) ∧ (settle s).port.notices = [.tokensReady]) ∧
    (let s : State := { up with port.notices := [.tokensReady] };
      s.port.tx = none ∧ s.port.replies = [] ∧ s.port.notices = .tokensReady :: [] ∧
        (settle s).port.tx = some (.notice .tokensReady)) ∧
    up.port.tx = none ∧ up.port.replies = [] ∧ up.port.notices = [] := by decide

/-- `up` with TIMECODE enabled at the last column that holds it (29) and STAB beside it. -/
def withFields : State :=
  { up with ovl.fields := { up.ovl.fields with
      timecode := { up.ovl.fields.timecode with enable := true, row := 2, column := 29 }
      stab := { up.ovl.fields.stab with enable := true, row := 2, column := 26 } } }

theorem withFields_inv : FieldsInv withFields :=
  ⟨fun k k' => by cases k <;> cases k' <;> decide, fun k => by cases k <;> decide⟩

theorem witness_DisplayedCellsComeFromTheTwoLayers : FieldsInv withFields ∧
    covers .timecode (withFields.ovl.fields.entry .timecode) 0 2 39 = true ∧
    (withFields.ovl.fields.entry .timecode).text[(39 : Fin 40).val - (withFields.ovl.fields.entry .timecode).column.val]? =
      some ⟨0x30, .normal⟩ ∧
    ∀ k, covers k (withFields.ovl.fields.entry k) 0 2 25 = false :=
  ⟨withFields_inv, by decide, by decide, fun k => by cases k <;> decide⟩

/-- The last frame before midnight, with an edge of FSYNC next. -/
def midnight : State := { up with tc.label := ⟨23, 59, 59, 24⟩, pending := [.fsyncEdge] }

theorem witness_StepKeepsTheLabelAndTheReference : LabelInv midnight ∧ ReferenceInv midnight ∧ ∃ t, step midnight = .next t :=
  ⟨by unfold LabelInv; decide, by unfold ReferenceInv; decide, _, rfl⟩

/-- A port and a token queue filled to their capacities, with a frame next. -/
def full : State :=
  { up with
    port := { up.port with
      queue := List.replicate 4 ⟨0x01, 0, none, .taken⟩
      replies := List.replicate 4 ⟨0x81, 0, .overrun, .none, .none, true⟩
      notices := List.replicate 32 .tokensReady, tx := some (.notice .tokensReady) }
    controls.tokens := List.replicate 16 0x1101, pending := [.statusGet 1] }

theorem witness_StepKeepsTheQueueCapacities : QueueInv full ∧ ∃ t, step full = .next t := ⟨by unfold QueueInv; decide, _, rfl⟩

/-- A recording of clip 5 with a closed record behind it, and its accounting event next. -/
def recording : State :=
  { clip .recording with
    recorder := { (clip .recording).recorder with accountTimer := some 1000000, tally := .lit }
    log.records := [open5, closed 4], pending := [.accountingEvent] }

theorem witness_StepKeepsTheClipsAndTheSupplyInStep : ClipInv recording ∧ ∃ t, step recording = .next t :=
  ⟨by unfold ClipInv LogInv RecorderInv SupplyInv; decide, _, rfl⟩

/-- Linked channels with a full reduction, and a level event next. -/
def linked : State :=
  { up with
    audio := { up.audio with
      link := true, ch1 := { ChannelRec.powerOn with setGain := 63, reduction := 12, applied := 51 }
      ch2 := { ChannelRec.powerOn with setGain := 63, reduction := 12, applied := 0, settling := some 5 } }
    pending := [.levelEvent] }

theorem witness_StepKeepsTheGains : GainInv linked ∧ ∃ t, step linked = .next t := ⟨by unfold GainInv; decide, _, rfl⟩

theorem witness_StepKeepsTheOverlay : FieldsInv withFields ∧
    MenuInv { withFields with ovl := { withFields.ovl with menu := true, displayed := 3, saved := some 0 } } ∧
    ∃ t, step withFields = .next t := ⟨withFields_inv, by unfold MenuInv; decide, _, rfl⟩

theorem witness_StepKeepsTheStabiliser : StabInv { active with pending := [.sampleEvent] } ∧
    ∃ t, step { active with pending := [.sampleEvent] } = .next t := ⟨by unfold StabInv CopiesInv; decide, _, rfl⟩

/-- `homed` with every preset at the zoom's span, and a control event next. -/
def atSpan : State := { homed with lens.presets := .replicate 8 16000, pending := [.controlEvent .zoom] }

theorem witness_StepKeepsTheLens : (LensInv atSpan ∧ PowerInv atSpan) ∧ ∃ t, step atSpan = .next t := by
  refine ⟨⟨⟨⟨by decide, fun v h => ?_, by decide, by decide⟩, by unfold DutyInv; decide, by unfold FloatInv; decide⟩,
    by decide, by decide, by decide, by decide, by decide, fun r h => ?_⟩, _, rfl⟩
  · simp [atSpan, homed, AxisRec.powerOn] at h
  · have h : none = some _ := h
    cases h

theorem witness_StepKeepsTheConverterBusy : ConverterInv { up with pending := [.sampleEvent] } ∧
    ∃ t, step { up with pending := [.sampleEvent] } = .next t := ⟨by unfold ConverterInv; decide, _, rfl⟩

/-- A shutdown that has stopped the lens, with the release of PWR_HOLD next. -/
def closing : State :=
  { inPower .shutdown with supply.shutdown := some ⟨.host, .lensStopped 100000⟩, pending := [.pwrHoldRelease] }

theorem witness_StepKeepsThePowerState : PowerInv closing ∧ ∃ t, step closing = .next t := by
  refine ⟨⟨by decide, by decide, by decide, by decide, by decide, fun r h => ?_⟩, _, rfl⟩
  simp [closing] at h

theorem witness_OnlyNamedCommandsMoveTheLabelAndPwrHold :
    (after .fsyncEdge up).tc.label ≠ up.tc.label ∧ closing.supply.pwrHold = true ∧
      (after .pwrHoldRelease closing).supply.pwrHold = false ∧
      (after .powerOnReset { up with supply.pwrHold := false }).supply.pwrHold = true := by decide

/-! ### The command port -/

theorem witness_ShutdownRefusesEveryRequest : requestOf (.beep 1 (.given .short)) = some (.beep, 1) ∧
    (requestOf (.clipRead 1 (.given (.byNumber 6))) = some (.clipRead, 1) ∧
      (inPower .shutdown).port.takes (kindCode .clipRead) 1 = true) ∧
    (inPower .shutdown).supply.power = .shutdown ∧ (inPower .shutdown).port.takes (kindCode .beep) 1 = true ∧
    (inPower .shutdown).port.takes (kindCode .statusGet) 1 = true ∧
    ({ inPower .shutdown with recorder.closeTimer := some 3000000 } : State).recorder.closeTimer = some 3000000 := by decide

/-- `up` with four requests held, the first in hand, and `n` OVERRUN replies. -/
def held (n : Nat) : State :=
  { up with port := { up.port with
      queue := List.replicate 4 ⟨0x02, 9, none, .untaken⟩, replies := List.replicate n ⟨0x82, 9, .overrun, .none, .none, true⟩ } }

/-- `up` with another request in hand. -/
def other : State := { up with port.queue := [⟨0x02, 9, none, .untaken⟩] }

theorem witness_RequestsAreTakenInTheirTurn :
    (requestOf (.statusGet 1) = some (.statusGet, 1) ∧ other.port.takes (kindCode .statusGet) 1 = false ∧ other.port.queue.length < 4) ∧
    ((held 3).port.takes (kindCode .statusGet) 1 = false ∧ 4 ≤ (held 3).port.queue.length ∧ (held 3).port.overruns < 4) ∧
    ((held 4).port.takes (kindCode .statusGet) 1 = false ∧ 4 ≤ (held 4).port.overruns) ∧
    (catalogued 0x3F = false ∧ catalogued 0 = false ∧ up.port.takes 0x3F 1 = true) ∧ other.port.takes 0x3F 1 = false := by decide

theorem witness_RequestsAreTakenInTheirTurn_passing :
    (let s : State := { up with port.queue := [⟨0x02, 9, none, .taken⟩, ⟨kindCode .statusGet, 1, none, .untaken⟩] };
      s.port.queue = [⟨0x02, 9, none, .taken⟩] ++ ⟨kindCode .statusGet, 1, none, .untaken⟩ :: [] ∧
        (∀ x ∈ [(⟨0x02, 9, none, .taken⟩ : Entry)], x.state = .taken) ∧ s.port.takes (kindCode .statusGet) 1 = true) ∧
    (let s : State := { up with port.queue := List.replicate 3 ⟨0x02, 9, none, .taken⟩ };
      (∀ x ∈ s.port.queue, x.state = .taken) ∧ s.port.queue.length < 4 ∧ s.port.takes (kindCode .statusGet) 1 = true) ∧
    ∃ x ∈ other.port.queue, x.state ≠ .taken := by decide

theorem witness_FramesArriveWhole : up.port.assembler = .hunting ∧ (List.replicate 128 (0 : Byte)).length ≤ 128 ∧
    byteSum ([BitVec.ofNat 8 0, 0x01, 0x07] ++ [] ++ [0xF8]) = 0 ∧ up.port.queue.length < 4 ∧
    (4 ≤ (held 3).port.queue.length ∧ (held 3).port.overruns < 4) ∧ 4 ≤ (held 4).port.overruns ∧
    byteSum ([BitVec.ofNat 8 0, 0x01, 0x07] ++ [] ++ [0xF9]) ≠ 0 ∧ 128 < (129 : Byte).toNat := by decide

theorem witness_LineErrorsAndLineBreaks : 23 < 24 ∧ 24 ≤ 24 ∧
    ({ up with port.assembler := .inFrame [] } : State).port.assembler = .inFrame [] ∧
    ({ up with port.queue := [⟨0x01, 0, none, .taken⟩, ⟨0x02, 9, none, .untaken⟩, ⟨0x03, 9, none, .untaken⟩] } : State).port.queue =
      [⟨0x01, 0, none, .taken⟩] ++ ⟨0x02, 9, none, .untaken⟩ :: [⟨0x03, 9, none, .untaken⟩] ∧
    (∀ x ∈ [(⟨0x01, 0, none, .taken⟩ : Entry)], x.state = .taken) ∧ EntryState.untaken ≠ .taken ∧
    ∀ x ∈ up.port.queue, x.state = .taken := by decide

/-- A transmitter that sends frame `part` of a reply with a body, with one taken request held behind an untaken one. -/
def sending (body : Body) (part : Nat) : State :=
  { up with port := { up.port with
      tx := some (.reply ⟨0xB8, 0, .ok, .none, body, false⟩ part)
      queue := [⟨0x02, 9, none, .untaken⟩, ⟨0x38, 0, none, .taken⟩] } }

theorem witness_FramesAreSentToTheirEnd :
    ({ up with port.tx := some (.notice .tokensReady) } : State).port.tx = some (.notice .tokensReady) ∧
    isResetReply ⟨0xB8, 0, .ok, .none, .overlay (up.ovlReport 0 0), false⟩ = false ∧
    (sending (.overlay (up.ovlReport 0 0)) 2).port.tx = some (.reply ⟨0xB8, 0, .ok, .none, .overlay (up.ovlReport 0 0), false⟩ 2) ∧
    2 < 3 ∧ (∀ rep, Body.none ≠ .overlay rep) ∧
    (sending .none 0).port.queue = [⟨0x02, 9, none, .untaken⟩] ++ ⟨0x38, 0, none, .taken⟩ :: [] ∧
    (∀ x ∈ [(⟨0x02, 9, none, .untaken⟩ : Entry)], x.state ≠ .taken) ∧
    isResetReply ⟨replyKind (kindCode .resetPart), 0, .ok, .none, .none, false⟩ = true ∧
    (⟨0xB8, 0, .ok, .none, .overlay (up.ovlReport 3 15), false⟩ : Reply).body = .overlay (up.ovlReport 3 15) :=
  ⟨rfl, rfl, rfl, by decide, fun _ => by simp, rfl, by decide, by decide, rfl⟩

theorem witness_FramesAreSentToTheirEnd_notices (n : Nat) (h : n = 31 ∨ n = 32) :
    let s : State := { sending .none 0 with audio.ch1.settling := some 9, port.notices := List.replicate n .tokensReady };
    (s.audio.channel .ch1).settling = some 9 ∧ s.port.tx.isSome = true ∧ s.port.notices.length = n ∧
      (after (.settlingExpiry .ch1) s).port.notices.length = 32 ∧
      (after (.settlingExpiry .ch1) s).port.noticesLost = decide (n = 32) := by
  rcases h with rfl | rfl <;> decide

theorem witness_ReportsClearWhatTheyReport : Passed .statusGet 0 up ∧ Passed .controlsGet 1 up ∧ Passed .stabGet 2 up ∧
    Passed .tcGet 3 up ∧ Passed .audioGet 4 up ∧ Passed .supplyGet 255 up ∧
    Passed .tokensRead 0 { up with controls.tokens := List.replicate 9 0x1101 } ∧
    List.replicate 9 (0x1101 : BitVec 16) = List.replicate 8 0x1101 ++ [0x1101] ∧
    (List.replicate 8 (0x1101 : BitVec 16)).length = min 8 9 := by decide

theorem witness_ReportsThatChangeNothing : Passed .keymapGet 0 up ∧ Passed .adcGet 0 up ∧ Passed .lensGet 0 up ∧ Passed .recGet 0 up ∧
    Passed .ovlGet 0 up ∧ Passed .clipRead 0 recording ∧ (23 : Nat) = (23 : Fin 24).val ∧ (3 : Nat) = (3 : Fin 4).val ∧
    (15 : Nat) = (15 : Fin 16).val ∧ recording.log.records[1]? = some (closed 4) ∧ clipNumberLegal (closed 4).number = true ∧
    (recording.log.records[0]? = some open5 ∧ open5.number ≠ (closed 4).number) ∧ recording.log.find (.byNumber 6) = none ∧
    recording.log.records.length ≤ 2 ∧ 24 ≤ (⟨.plain, 24⟩ : KeymapGetArgs).input ∧ 4 ≤ (⟨4, 0⟩ : OvlGetArgs).page ∧
    16 ≤ (⟨0, 16⟩ : OvlGetArgs).row ∧ ∀ r ∈ recording.log.records, r.number ≠ 6 := by decide

theorem witness_BeepIsDecidedByItsTable : up.port.takes (kindCode .beep) 0 = true ∧ up.supply.power ≠ .shutdown ∧
    (inPower .shutdown).port.takes (kindCode .beep) 0 = true ∧ (inPower .shutdown).supply.power = .shutdown ∧
    ({ up with controls.beepEnable := false } : State).controls.beepEnable = false ∧
    ({ up with controls.beeper := some ⟨.short, 40000⟩ } : State).controls.beeper.isSome = true ∧
    (up.controls.beepEnable = true ∧ up.controls.beeper = none) ∧
    (let c : Controls := { up.controls with beeper := some ⟨.double, 7 + patternTime .double⟩ };
      c.beeper = some ⟨.double, 7 + patternTime .double⟩ ∧ c.beeperOn (7 + 39999) = true ∧ c.beeperOn (7 + 40000) = false ∧
        c.beeperOn (7 + 100000) = true ∧ c.beeperOn (7 + 140000) = false) := by decide

/-! ### Scanner and converter -/

theorem witness_ScannerSettingsAreStored : Passed .keymapSet 0 up ∧ (23 : Nat) = (23 : Fin 24).val ∧ 24 ≤ 24 ∧ Passed .rockerSet 0 up ∧
    (4095 ≤ 4095 ∧ 4094 < 4095) ∧ 4095 < 4096 ∧ Passed .beeperSet 0 up ∧ Passed .inputConfig 0 up ∧
    (true = (up.controls.switches.get 23).config.enabled) ∧
    (({ up with controls.switches := up.controls.switches.set 0 ⟨⟨false, .activeLow, .momentary, false⟩, false, 0, 0, none⟩ } :
      State).controls.switches.get 0).config.enabled = false := by decide

/-- A converter with a group in service. -/
def busy : State := { up with conv.activity := .converting ⟨.rocker, [], [(2, true)], 8⟩ }

/-- `up` with the stabiliser OFF. -/
def stabOff : State := { up with stab := { up.stab with state := .off, setting := false } }

theorem witness_ConverterRequestsAreDecided : Passed .adcEnable 0 up ∧ (∃ n ∈ [7], 7 ≤ n) ∧ (∀ n ∈ [0, 1, 6], n < 7) ∧
    ([0, 1, 6].contains 0 = up.conv.enables.get 0 ∧ [0, 1, 6].contains 1 = up.conv.enables.get 1) ∧
    ({ up with stab.state := .fault .gyroRail } : State).stab.state = .fault .gyroRail ∧ [6].contains 0 ≠ up.conv.enables.get 0 ∧
    (Passed .adcEnable 0 active ∧ active.stab.state = .active .normal ∧ active.stab.setting = true ∧ active.conv.enables.get 0 = true ∧
      active.conv.enables.get 1 = true ∧ [6].contains 0 = false) ∧
    (let s : State := { homed with stab.cond.gyroValid := true, stab.cond.gyroEnabled := false, conv.enables := .replicate 7 false };
      Passed .adcEnable 0 s ∧ s.stab.state = .standby ∧ s.stab.setting = true ∧ s.stab.cond.run = true ∧
        s.stab.cond.zoomHomed = true ∧ s.conv.enables.get 0 = false ∧ [0, 1].contains 0 = true ∧ [0, 1].contains 1 = true ∧
        [0].contains 0 ≠ s.conv.enables.get 0 ∧ [0].contains 1 = false) ∧
    ((stabOff.stab.state = .off ∧ stabOff.stab.setting = false) ∧ [0, 6].contains 1 = false) ∧
    (Passed .adcCalibrate 0 (inPower .standby) ∧ (inPower .standby).supply.power = .standby) ∧
    (Passed .adcCalibrate 0 up ∧ up.conv.owed = false ∧ up.conv.activity = .idle) ∧
    (Passed .adcCalibrate 0 busy ∧ busy.conv.activity = .converting ⟨.rocker, [], [(2, true)], 8⟩) ∧
    ({ up with conv.owed := true } : State).conv.owed = true ∧ State.reset.conv.activity = .calibrating 2000 := by decide


/-! ### Lens drive, stabiliser and timecode -/

/-- `homed` with both axes held by an owner in a move. -/
def owned (o : Owner) (m : Move) : State :=
  { homed with lens := { homed.lens with
      mode := .auto
      zoom := { homed.lens.zoom with owner := o, move := some m, target := some 16000, gotoSpeed := some 2000 }
      focus := { homed.lens.focus with owner := o, move := some m, target := some 24000, gotoSpeed := some 2000 } } }

theorem witness_HostGotosClaimTheAxis :
    (Passed .zoomGoto 0 homed ∧ homed.supply.power ≠ .standby ∧ homed.lens.zoom.fault = false ∧ homed.lens.zoom.homing = .homed ∧
      homed.lens.zoom.owner = .none) ∧
    (Passed .focusGoto 0 (owned .remote .goto) ∧ (owned .remote .goto).lens.focus.fault = false ∧
      (owned .remote .goto).lens.focus.homing = .homed ∧ (owned .remote .goto).lens.focus.owner = .remote ∧
      (owned .remote .goto).lens.mode = .auto ∧ (owned .remote .goto).lens.override = none) ∧
    Passed .presetRecall 0 (owned .remote .goto) ∧ (owned .remote .goto).lens.zoom.owner = .remote ∧
    1 ≤ (⟨0, 1⟩ : GotoArgs).speed ∧ (⟨0, 65535⟩ : GotoArgs).speed ≤ 65535 := by decide

theorem witness_HostMovesAreCheckedInOrder : Passed .zoomGoto 0 homed ∧ (⟨0, 0⟩ : GotoArgs).speed = 0 ∧
    (Passed .zoomGoto 0 (inPower .standby) ∧ (inPower .standby).supply.power = .standby) ∧
    (let s : State := { homed with lens.zoom.fault := true };
      Passed .zoomGoto 0 s ∧ s.lens.zoom.fault = true ∧ s.lens.zoom.owner ≠ .homing) ∧
    (Passed .zoomGoto 0 up ∧ up.lens.zoom.fault = false ∧ up.lens.zoom.homing ≠ .homed) ∧
    (Passed .zoomDrive 0 homed ∧ (⟨0, 1⟩ : DriveArgs).speed = 0 ∧ (⟨1, 1001⟩ : DriveArgs).duration = 1001) ∧
    (Passed .presetRecall 0 homed ∧ 1 ≤ 8 ∧ 8 < 9) ∧
    (Passed .focusGoto 0 homed ∧ homed.lens.mode = .manual ∧ (homed.axis .focus).homing = .homed) ∧
    (let s : State := { owned .remote .goto with lens.override := some 5 };
      Passed .focusGoto 0 s ∧ s.lens.override.isSome = true) ∧
    (let s := owned .operator .goto;
      Passed .focusGoto 0 s ∧ s.lens.mode = .auto ∧ s.lens.override = none ∧ s.lens.focus.owner = .operator ∧
        s.lens.focus.homing = .homed ∧ s.lens.focus.fault = false) ∧
    (Passed .zoomGoto 0 (owned .preset .goto) ∧ (owned .preset .goto).lens.zoom.owner = .preset ∧
      (owned .preset .goto).lens.zoom.homing = .homed ∧ (owned .preset .goto).lens.zoom.fault = false) := by decide

theorem witness_ZoomDrivesRunAndExtend : Passed .zoomDrive 0 homed ∧ (⟨-8001, 1⟩ : DriveArgs).speed ≠ 0 ∧
    1 ≤ (⟨-8001, 1⟩ : DriveArgs).duration ∧ (⟨1, 1000⟩ : DriveArgs).duration ≤ 1000 ∧ homed.supply.power ≠ .standby ∧
    homed.lens.zoom.fault = false ∧ homed.lens.zoom.homing = .homed ∧ homed.lens.zoom.owner = .none ∧
    (Passed .zoomDrive 0 (owned .remote .goto) ∧ (owned .remote .goto).lens.zoom.owner = .remote ∧
      (owned .remote .goto).lens.zoom.move = some .goto) ∧
    (Passed .zoomDrive 0 (owned .remote .drive) ∧ (owned .remote .drive).lens.zoom.move = some .drive) := by decide

/-- `up` with both axes in a homing phase. -/
def homing (p : HomingPhase) : State :=
  { up with lens := { up.lens with
      zoom := { up.lens.zoom with homing := .homing p, owner := .homing, homingTimer := some 25000000 }
      focus := { up.lens.focus with homing := .homing p, owner := .homing, homingTimer := some 25000000 } } }

theorem witness_LensHomeBeginsARun : Passed .lensHome 0 up ∧ up.supply.power = .run ∧ up.lens.focus.homing = .unhomed ∧
    up.lens.zoom.homing = .unhomed ∧
    (Passed .lensHome 0 (inPower .standby) ∧ (inPower .standby).supply.power = .standby) ∧
    (Passed .lensHome 0 (inPower .init) ∧ (inPower .init).supply.power = .init) ∧
    ((homing .seekNear).supply.power = .run ∧ ((homing .seekNear).axis .zoom).homing = .homing .seekNear) ∧
    ({ up with stab.state := .fault .noSamples } : State).stab.state = .fault .noSamples ∧
    (active.lens.zoom.homing = .homed ∧ (after (.lensHome 0 (.given .zoom)) active).stab.state = .standby ∧
      (after (.lensHome 0 (.given .zoom)) active).stab.cond.zoomHomed = false) := by decide

theorem witness_LensStopEndsTheHold : Passed .lensStop 0 up ∧ up.supply.power ≠ .standby ∧ up.lens.focus.owner = .none ∧
    up.lens.zoom.owner = .none ∧ (Passed .lensStop 0 (inPower .standby) ∧ (inPower .standby).supply.power = .standby) ∧
    (Passed .lensStop 0 (owned .operator .goto) ∧ (owned .operator .goto).lens.focus.owner = .operator ∧
      (owned .operator .goto).lens.zoom.owner = .operator) ∧
    (Passed .lensStop 0 (homing .seekFar) ∧ (homing .seekFar).lens.focus.owner = .homing ∧
      (homing .seekFar).lens.zoom.owner = .homing) := by decide

theorem witness_LensSettingsAreClamped : Passed .lensConfig 0 up ∧ 8 < 9 ∧ 5 ∉ [1, 4, 16] ∧ 16 ∈ [1, 4, 16] ∧ 1 ∈ [1, 4, 16] ∧
    up.supply.power ≠ .standby ∧ (inPower .standby).supply.power = .standby ∧ Passed .lensConfig 0 (inPower .standby) ∧
    Passed .presetSet 0 homed ∧ homed.lens.zoom.homing = .homed ∧ homed.lens.zoom.owner ≠ .homing ∧
    (Passed .presetSet 0 up ∧ up.lens.zoom.homing ≠ .homed) ∧
    Passed .focusModeSet 0 up ∧ FocusMode.manual = up.lens.mode ∧ FocusMode.auto ≠ up.lens.mode ∧
    (Passed .focusModeSet 0 (owned .remote .goto) ∧ (owned .remote .goto).lens.mode = .auto ∧
      (owned .remote .goto).lens.focus.owner = .remote) := by decide

theorem witness_StabOffsetIsClampedAndLearningRestarts : Passed .stabOffsetSet 0 up ∧ 65535 ≤ 65535 := by decide

/-- `active` in another operating state. -/
def stabIn (st : StabState) : State := { active with stab.state := st }

theorem witness_StabSettingsChangeTheState : Passed .stabModeSet 0 active ∧ active.stab.state = .active .normal ∧
    (stabIn .standby).stab.state = .standby ∧ (stabIn (.fault .gyroRail)).stab.state = .fault .gyroRail ∧
    (let s : State := { stabIn .off with stab.setting := false };
      s.stab.state = .off ∧ s.stab.setting = false ∧ Passed .stabModeSet 0 s) ∧
    ((stabIn .off).stab.cond.run = true ∧ (stabIn .off).stab.cond.zoomHomed = true ∧ (stabIn .off).stab.cond.gyroEnabled = true ∧
      (stabIn .off).stab.cond.gyroValid = true) ∧
    (let s : State := { up with stab.state := .fault .gyroRail };
      s.stab.cond.zoomHomed = false ∧ s.stab.state = .fault .gyroRail) ∧
    ({ up with stab.state := .off } : State).stab.cond.zoomHomed = false ∧
    Passed .stabGainTableSet 0 up ∧ (Vector.replicate 17 65535).toList = List.replicate 17 65535 ∧
    (∀ x ∈ List.replicate 17 65535, x ≤ 65535) ∧ (List.replicate 16 0).length ≠ 17 ∧ (∃ x ∈ List.replicate 17 65536, 65535 < x) ∧
    (active.stab.setting = true ∧ active.stab.cond.allHold ∧ active.stab.state = .active .normal) ∧
    (let s : State := { stabIn .standby with stab.cond.gyroEnabled := false };
      s.stab.setting = true ∧ ¬s.stab.cond.allHold ∧ s.stab.state = .standby) ∧
    (after (.stabModeSet 0 (.given true)) { stabIn .off with stab.cond.gyroEnabled := false }).stab.state = .standby ∧
    (after (.stabModeSet 0 (.given true)) (stabIn (.fault .gyroRail))).stab.state = .active .normal := by
  unfold Conditions.allHold; decide

/-- `up` at 30DF with a label. -/
def at30df (l : Label) : State := { up with tc.rate := .r30df, tc.label := l }

theorem witness_TimecodeRequestsLeaveAValidLabel : Passed .tcSet 0 up ∧ 24 ≤ (⟨24, 0, 0, 0⟩ : Label).hours ∧
    countedRate up.tc.rate ≤ (⟨0, 0, 0, 25⟩ : Label).frames ∧ (⟨23, 59, 59, 24⟩ : Label).frames < countedRate up.tc.rate ∧
    (Passed .tcSet 0 (clip .recording) ∧ (clip .recording).tc.recState ≠ .standby) ∧ up.tc.recState = .standby ∧
    ((at30df ⟨0, 0, 0, 0⟩).tc.rate = .r30df ∧ (⟨0, 1, 0, 1⟩ : Label).frames < 2 ∧ (⟨0, 1, 0, 1⟩ : Label).minutes % 10 ≠ 0) ∧
    Passed .tcModeSet 0 up ∧ up.tc.label.frames < countedRate .r30df ∧ isDropped up.tc.label = false ∧
    countedRate .r24 ≤ ({ up with tc.label := ⟨0, 0, 0, 24⟩ } : State).tc.label.frames ∧
    isDropped ({ up with tc.label := ⟨0, 1, 0, 1⟩ } : State).tc.label = true ∧ Passed .userbitsSet 0 up ∧
    ((inPower .shutdown).port.takes (kindCode .tcSet) 0 = true ∧ (inPower .shutdown).port.takes (kindCode .tcModeSet) 0 = true) ∧
    validLabel up.tc.rate up.tc.label = true ∧
    (Passed .recConfirm 0 (clip .starting) ∧ (clip .starting).recorder.state = .starting ∧ (clip .starting).recorder.clip = some 5) := by
  decide

/-! ### Record supervisor and clip log -/

theorem witness_RecordSettingsWaitForStandby : Passed .recConfig 0 up ∧ up.recorder.state = .standby ∧
    (Passed .recConfig 0 (clip .stopping) ∧ (clip .stopping).recorder.state ≠ .standby) ∧ Passed .clipNumberSet 0 up ∧
    9999 < 10000 ∧ 1 ≤ 1 ∧ 9999 ≤ 9999 ∧ Passed .clipNumberSet 0 (clip .starting) ∧ Passed .tallySet 0 up ∧
    Passed .clipLogClear 0 up ∧ Passed .clipLogClear 0 (clip .recording) := by decide

/-- `up` in a record mode, with each slot usable or not. -/
def cards (m : RecMode) (a b : SlotState) : State :=
  { up with recorder := { up.recorder with
      mode := m, slotA := { up.recorder.slotA with state := a, remaining := 5000000 }
      slotB := { up.recorder.slotB with state := b, remaining := 5000000 } } }

theorem witness_RecStartReservesAClip : Passed .recStart 0 up ∧ (clip .starting).recorder.state = .starting ∧
    (clip .stopping).recorder.state = .stopping ∧ up.recorder.state = .standby ∧
    (Passed .recStart 0 (inPower .standby) ∧ (inPower .standby).recorder.power = .standby) ∧
    (Passed .recStart 0 (inPower .init) ∧ (inPower .init).recorder.power = .init) ∧
    ({ up with recorder.supplyState := .low } : State).recorder.supplyState = .low ∧
    (up.recorder.supplyState = .normal ∧ up.recorder.usable .a = false ∧ up.recorder.usable .b = false) ∧
    (let s := cards .single .empty .ready; NoStartSet s.recorder ∧ s.recorder.usable .b = true) ∧
    (let s := cards .single .ready .empty;
      s.recorder.mode ≠ .simul ∧ s.recorder.usable s.recorder.current = true) ∧
    (let s := cards .relay .empty .ready;
      s.recorder.mode = .relay ∧ s.recorder.usable s.recorder.current = false ∧
        s.recorder.usable (otherSlot s.recorder.current) = true) ∧
    (let s := cards .simul .ready .ready;
      s.recorder.mode = .simul ∧ s.recorder.usable .a = true ∧ (⟨s.recorder.usable .a, s.recorder.usable .b⟩ : SlotSet) = ⟨true, true⟩) := by
  unfold NoStartSet; decide

theorem witness_RecConfirmBeginsTheClip : Passed .recConfirm 0 up ∧ 9999 < 10000 ∧ up.recorder.state = .standby ∧
    ((clip .starting).recorder.state ≠ .standby ∧ (clip .starting).recorder.clip ≠ some 6) ∧
    (Passed .recConfirm 0 (clip .recording) ∧ (clip .recording).recorder.state = .recording ∧ (clip .recording).recorder.clip = some 5) ∧
    (Passed .recConfirm 0 (clip .starting) ∧ (clip .starting).recorder.state = .starting ∧
      (clip .starting).recorder.clip = some 5 ∧ (clip .starting).recorder.mediaLow = false) := by decide

theorem witness_RecStopEndsTheRecording : Passed .recStop 0 up ∧ up.recorder.state = .standby ∧
    (Passed .recStop 0 (clip .stopping) ∧ (clip .stopping).recorder.state = .stopping) ∧
    (Passed .recStop 0 (clip .recording) ∧ (clip .recording).recorder.state = .recording ∧ (clip .recording).recorder.clip = some 5) ∧
    (Passed .recStop 0 (clip .starting) ∧ (clip .starting).recorder.state = .starting ∧ (clip .starting).recorder.clip = some 5) := by
  decide

theorem witness_ClipClosedClosesTheClip : Passed .clipClosed 0 recording ∧ 9999 < 10000 ∧ recording.recorder.state ≠ .stopping ∧
    (let s : State := { up with log.records := [closed 4] };
      s.recorder.clip ≠ some 4 ∧ s.log.records = closed 4 :: [] ∧ (closed 4).number = 4 ∧ (closed 4).state ≠ .opened) ∧
    (recording.log.records = open5 :: [closed 4] ∧ open5.number = 5 ∧ open5.state = .opened) ∧ up.log.records = [] ∧
    (Passed .clipClosed 0 (clip .stopping) ∧ (clip .stopping).recorder.state = .stopping ∧
      (clip .stopping).recorder.clip = some 5) := by decide

theorem witness_CardReportsSetTheSlot : 4294967295 ≤ 4294967295 ∧ 4294967295 < 4294967296 ∧
    (let s : State := { clip .starting with recorder := { (clip .starting).recorder with
        startSet := ⟨false, true⟩, slotB := { (clip .starting).recorder.slotB with state := .ready, remaining := 5000000 } } };
      (s.recorder.slot .b).state = .ready ∧ (after (.mediaUpdate 0 (.given ⟨.b, 1⟩)) s).recorder.state = .standby) ∧
    (let s : State := { recording with recorder.slotB := { recording.recorder.slotB with state := .mounting } };
      (s.recorder.slot .b).state = .mounting ∧ s.recorder.state = .recording ∧
        ((after (.cardReport 0 (.given ⟨.b, .ok, 0⟩)) s).recorder.slot .b).state = .ready) ∧
    Passed .cardReport 0 up ∧
    (({ slotA .ready with recorder.slotA.lapsed := true } : State).recorder.slot .a).lapsed = true ∧
    ((slotA .ready).recorder.slot .a).state ≠ .mounting ∧ ((slotA .ready).recorder.slot .a).lapsed = false ∧
    (((slotA .mounting).recorder.slot .a).state = .mounting ∧ (slotA .mounting).recorder.state ≠ .recording) ∧
    Passed .mediaUpdate 0 up ∧ ((slotA .empty).recorder.slot .a).state = .empty ∧
    ((slotA .writeProtected).recorder.slot .a).state = .writeProtected ∧
    ((slotA (.error .bad)).recorder.slot .a).state = .error .bad ∧
    (((slotA .full).recorder.slot .a).state = .full ∧ (slotA .full).recorder.state = .standby) ∧ Passed .mediaFault 0 up ∧
    Passed .mediaFault 0 (slotA (.error .bad)) ∧
    (Passed .mediaFault 0 recording ∧ (recording.recorder.slot .a).state = .active ∧
      (recording.recorder.slot (otherSlot .a)).state ≠ .active ∧ recording.recorder.state = .recording ∧
      recording.recorder.clip = some 5) := by decide

theorem witness_ClipMarksAreAppended : Passed .clipMark 0 recording ∧ emptyPayload recording = true ∧
    recording.recorder.state = .recording ∧ recording.log.openRec = some open5 ∧ open5.marks.length < 8 ∧
    up.recorder.state ≠ .recording ∧ emptyPayload up = true ∧
    (let s : State := { recording with port.queue := [⟨kindCode .clipMark, 0, some [0], .untaken⟩] };
      Passed .clipMark 0 s ∧ emptyPayload s = false) ∧
    (let r := { open5 with marks := List.replicate 8 ⟨⟨10, 0, 0, 1⟩, false⟩ };
      ({ recording with log.records := [r] } : State).log.openRec = some r ∧ 8 ≤ r.marks.length) := by decide

/-! ### Audio, overlay and supply -/

/-- A channel's part of an AUDIO_CONFIG. -/
def config (agcMax : Nat) : ChannelConfig := ⟨.mic48, .auto, false, agcMax⟩

theorem witness_AudioRequestsAreDecided : Passed .audioConfig 0 up ∧ 63 < (config 64).agcMax ∧ (config 63).agcMax ≤ 63 ∧
    (Passed .audioConfig 0 (inPower .standby) ∧ (inPower .standby).audio.power = .standby) ∧
    (up.audio.power ≠ .standby ∧ GainInv up ∧ up.audio.link = false) ∧ (GainInv linked ∧ linked.audio.link = true) ∧
    Passed .audioGainSet 0 up ∧ channelOf 1 = some .ch1 ∧ channelOf 2 = some .ch2 ∧ 255 ≤ 255 ∧
    (up.audio.channel .ch1).source ≠ .host ∧
    (let s : State := { up with audio.ch1.source := .host };
      (s.audio.channel .ch1).source = .host ∧ s.audio.link = false) ∧
    (let s : State := { linked with audio.ch1.source := .host };
      s.audio.ch1.source = .host ∧ s.audio.link = true) ∧ (3 ≠ 1 ∧ 3 ≠ 2) := by
  unfold GainInv; decide

/-- `linked` with a reduction of 7, CH2's limiter as said. -/
def reduced (limiter : Bool) : State :=
  { linked with
    audio.ch1 := { linked.audio.ch1 with reduction := 7, applied := 56 }
    audio.ch2 := { linked.audio.ch2 with reduction := 7, applied := 56, settling := none, limiter := limiter } }

/-- `reduced` unlinked, with counts of the limiter. -/
def released (limiter : Bool) : State :=
  { reduced limiter with audio.link := false, audio.ch2 := { (reduced limiter).audio.ch2 with release := 300, fall := 49 } }

theorem witness_AudioRequestsAreDecided_link : Passed .audioConfig 0 (reduced true) ∧
    (∀ l ∈ [true, false], GainInv (reduced l) ∧ (reduced l).audio.link = true ∧ (reduced l).audio.power ≠ .standby ∧
      (reduced l).audio.ch2.limiter = l ∧ GainInv (released l) ∧ (released l).audio.link = false ∧
      (released l).audio.ch2.limiter = l) ∧
    ((config 63).source = .auto ∧ ({ config 63 with source := .panel } : ChannelConfig).source ≠ .auto) ∧
    (config 63).limiter = false ∧ ({ config 63 with limiter := true } : ChannelConfig).limiter = true := by
  unfold GainInv; decide

theorem witness_TextRequestsChangeTheHostLayer : Passed .ovlWrite 0 up ∧ (List.replicate 40 (0x41 : Byte)).length ≤ 40 ∧
    Passed .ovlFill 0 up ∧ 255 ≤ 255 ∧ Passed .ovlScroll 0 up ∧ (15 : Fin 16) ≤ 15 ∧ (39 : Fin 40) ≤ 39 ∧ Passed .ovlClear 0 up ∧
    3 < (⟨4, 0, 0, .normal, []⟩ : WriteArgs).page ∧ 40 < (⟨0, 0, 0, .normal, List.replicate 41 0⟩ : WriteArgs).text.length ∧
    255 < (⟨0, 0, 0, 0, .normal, 256⟩ : FillArgs).count ∧
    (⟨0, 1, 0, 0, 0, 0, .up, .normal⟩ : ScrollArgs).bottom < (⟨0, 1, 0, 0, 0, 0, .up, .normal⟩ : ScrollArgs).top ∧ 3 < 4 := by decide

theorem witness_CursorsAndFieldsAreSet : Passed .ovlCursor 0 up ∧ (⟨0, 0, false⟩ : Cursor) = (up.ovl.pages.get 0).cursor ∧
    (⟨15, 39, true⟩ : Cursor) ≠ (up.ovl.pages.get 0).cursor ∧ 39 < (⟨0, 0, 40, true⟩ : CursorArgs).column ∧
    Passed .ovlFieldSet 0 up ∧ 40 < (30 : Fin 40).val + fieldWidth .timecode ∧
    ((withFields.ovl.fields.entry .stab).enable = true ∧ (withFields.ovl.fields.entry .stab).page = 0 ∧
      (withFields.ovl.fields.entry .stab).row = 2 ∧ FieldKind.stab ≠ .focus ∧
      (28 : Fin 40).val < (withFields.ovl.fields.entry .stab).column.val + fieldWidth .stab ∧
      (withFields.ovl.fields.entry .stab).column.val < (28 : Fin 40).val + fieldWidth .focus) ∧
    ((29 : Fin 40).val + fieldWidth .timecode ≤ 40 ∧ (up.ovl.fields.entry .stab).enable = false) ∧
    15 < (⟨.stab, true, 0, 16, 0⟩ : FieldArgs).row := by decide

/-- `up` with the menu ON, the page left being `page`. -/
def menuOn (page : Fin 4) : State := { up with ovl := { up.ovl with menu := true, displayed := 3, saved := some page } }

theorem witness_PagesAndMenuAreSelected : Passed .ovlPageSelect 0 up ∧ up.ovl.menu = false ∧ (0 : Fin 4) = up.ovl.displayed ∧
    (3 : Fin 4) ≠ up.ovl.displayed ∧ (Passed .ovlPageSelect 0 (menuOn 0) ∧ (menuOn 0).ovl.menu = true) ∧ 3 < 4 ∧
    Passed .ovlMenuSet 0 up ∧ Passed .ovlMenuSet 0 (menuOn 3) ∧ (menuOn 3).ovl.displayed = 3 ∧ (menuOn 3).ovl.saved = some 3 ∧
    (menuOn 0).ovl.saved = some 0 := by decide

theorem witness_PowerRequestsAreDecided : Passed .supplySet 0 up ∧ (9000 ≤ 9000 ∧ 9000 < 9001 ∧ 9001 < 16000 ∧ 16000 ≤ 16000) ∧
    8999 < 9000 ∧ 16000 < 16001 ∧
    (let s : State := { up with port.queue := [⟨kindCode .shutdown, 0, some [0], .untaken⟩] };
      Passed .shutdown 0 s ∧ emptyPayload s = false) ∧
    (Passed .standbyEnter 0 up ∧ emptyPayload up = true ∧ up.supply.power = .run ∧ up.supply.recState = .standby ∧
      up.lens.demand = up.controls.rocker.demand) ∧ (clip .recording).supply.recState ≠ .standby ∧
    (Passed .standbyEnter 0 (inPower .standby) ∧ emptyPayload (inPower .standby) = true ∧ (inPower .standby).supply.exit = none) ∧
    ({ inPower .standby with supply.exit := some .host } : State).supply.exit ≠ none ∧
    (Passed .standbyEnter 0 (inPower .init) ∧ (inPower .init).supply.power = .init) ∧
    (Passed .standbyExit 0 (inPower .standby) ∧ (inPower .standby).conv.activity = .idle ∧
      ((inPower .standby).brought .standbyExit 0).port.inHand = some ⟨kindCode .standbyExit, 0, none, .untaken⟩) ∧
    busy.conv.activity = .converting ⟨.rocker, [], [(2, true)], 8⟩ ∧ State.reset.conv.activity = .calibrating 2000 ∧
    (Passed .shutdown 0 up ∧ up.recorder.state = up.supply.recState) ∧
    (Passed .shutdown 0 (inPower .standby) ∧ emptyPayload (inPower .standby) = true) ∧
    ((clip .recording).recorder.state = .recording ∧ (clip .recording).recorder.state = (clip .recording).supply.recState) ∧
    Passed .resetPart 0 up := by decide


/-! ### Timers, controls, converter, lens events, frames and cards -/

/-- `up` with every timer of the timer statement running at time `t`. -/
def timed (t : Nat) : State :=
  { up with
    controls.beeper := some ⟨.reject, t⟩, ovl.warnings.keysLocked := .timed t
    recorder := { up.recorder with inhibit := some t, tally := .blink4, blinkTimer := some t }
    lens := { up.lens with override := some t, zoom := { up.lens.zoom with pause := some t, suspect := some t, lastEdge := some t } }
    audio.ch1.settling := some t }

/-- `inPower .shutdown` with the shutdown in a phase. -/
def shutting (p : ShutdownStep) : State := { inPower .shutdown with supply.shutdown := some ⟨.supply, p⟩ }

theorem witness_TimersRunOutWithTheirEffect : (up.controls.beeper = none ∧ up.recorder.inhibit = none ∧ up.lens.override = none ∧
      up.recorder.blinkTimer = none ∧ (up.axis .focus).pause = none ∧ (up.axis .focus).suspect = none ∧
      (up.axis .focus).lastEdge = none ∧ (up.audio.channel .ch2).settling = none ∧ up.supply.shutdown = none) ∧
    up.ovl.warnings.entry .lensFault = .absent ∧ ({ up with ovl.warnings.stabFault := .placed } : State).ovl.warnings.entry .stabFault = .placed ∧
    ((timed 9).controls.beeper = some ⟨.reject, 9⟩ ∧ (timed 9).ovl.warnings.entry .keysLocked = .timed 9 ∧
      (timed 9).recorder.inhibit = some 9 ∧ (timed 9).lens.override = some 9 ∧ (timed 9).recorder.blinkTimer = some 9 ∧
      (timed 9).recorder.tally = .blink4 ∧ ((timed 9).axis .zoom).pause = some 9 ∧ ((timed 9).axis .zoom).suspect = some 9 ∧
      ((timed 9).axis .zoom).lastEdge = some 9 ∧ ((timed 9).audio.channel .ch1).settling = some 9) ∧
    ((shutting .waiting).supply.shutdown = some ⟨.supply, .waiting⟩ ∧ (shutting .waiting).supply.recState = .standby) ∧
    ({ shutting .waiting with supply.recState := .stopping } : State).supply.recState ≠ .standby ∧
    (shutting (.lensStopped 5)).supply.shutdown = some ⟨.supply, .lensStopped 5⟩ := by decide

/-- All the switch lines low but one. -/
def oneHigh (i : Fin 24) : Vector Bool 24 := (Vector.replicate 24 false).set i true

/-- A state past its first scan with input 23 active high at its third differing scan, the lock as said, every line low so far. -/
def pressing (s : State) (lock : Bool) : State :=
  { s with controls := { s.controls with
      firstScan := false, lock := lock
      switches := .ofFn fun i => { s.controls.switches.get i with
        config := ⟨true, .activeHigh, .momentary, false⟩, count := if i = 23 then 3 else 0, accepted := false } } }

/-- The token entry at input 23 of the PLAIN layer. -/
def tokenAt23 (s : State) : State :=
  { s with controls.keymap.plain := s.controls.keymap.plain.set (23 : Fin 24) (bareEntry .token) }

theorem witness_ScansDebounceAndAccept : up.controls.firstScan = true ∧
    (let s := pressing up false;
      s.controls.firstScan = false ∧ s.supply.power ≠ .standby ∧
      (∀ i, (s.controls.switches.get i).config.enabled = true →
        pressed (s.controls.switches.get i).config ((Vector.replicate 24 false).get i) = (s.controls.switches.get i).accepted ∨
          (s.controls.switches.get i).count < 3)) ∧
    (let s := pressing up false;
      (s.controls.switches.get 23).config.enabled = true ∧ (s.controls.switches.get 23).count = 3 ∧
      (s.controls.switches.get 23).accepted = false ∧
      pressed (s.controls.switches.get 23).config ((oneHigh 23).get 23) = true ∧
      (∀ j, j ≠ 23 → (s.controls.switches.get j).config.enabled = true →
        (s.controls.switches.get j).count = 0 ∧
          pressed (s.controls.switches.get j).config ((oneHigh 23).get j) = (s.controls.switches.get j).accepted)) ∧
    (pressing (inPower .init) false).supply.power = .init ∧ (pressing (inPower .shutdown) false).supply.power = .shutdown ∧
    (let s := tokenAt23 (pressing up false);
      s.supply.power = .run ∧ s.controls.lock = false ∧ s.ovl.menu = false ∧ (∀ j, s.controls.assign.get j = false) ∧
      (s.controls.keymap.plain.get 23).action = .token ∧ (s.controls.switches.get 23).config.kind = .momentary ∧
      s.controls.tokens.length < 16) ∧
    (let s := tokenAt23 (pressing up true);
      s.controls.lock = true ∧ (s.controls.keymap.plain.get 23).action ≠ .recToggle ∧
      (s.controls.keymap.plain.get 23).action ≠ .lock ∧ (s.controls.keymap.plain.get 23).action ≠ .power) ∧
    (let s := pressing (inPower .standby) false;
      s.controls.firstScan = false ∧ s.supply.power = .standby ∧
      (∀ i, (s.controls.switches.get i).config.enabled = true →
        pressed (s.controls.switches.get i).config ((Vector.replicate 24 false).get i) = (s.controls.switches.get i).accepted)) := by
  decide

/-- A state past its first scan with input 23 as said, every other input at rest on a low line. -/
def at23 (s : State) (w : Switch) : State :=
  { s with controls := { s.controls with
      firstScan := false
      switches := .ofFn fun i => if i = 23 then w else ⟨⟨true, .activeHigh, .momentary, false⟩, false, 0, 0, none⟩ } }

/-- A state with an action at input 23 of every layer, its PRESS and RELEASE reported. -/
def bound (a : Action) (s : State) : State :=
  let e : KeyEntry := ⟨a, true, true, false⟩
  { s with controls.keymap := ⟨s.controls.keymap.plain.set (23 : Fin 24) e, s.controls.keymap.assign.set (23 : Fin 24) e,
      s.controls.keymap.menu.set (23 : Fin 24) e⟩ }

/-- An input of a kind, with a level, its counts and its held record. -/
def input (k : InputKind) (wake accepted : Bool) (count polls : Nat) (h : Option Held) : Switch :=
  ⟨⟨true, .activeHigh, k, wake⟩, accepted, count, polls, h⟩

theorem witness_ScansDebounceAndAccept_resolved :
    (let s := at23 (bound .recToggle up) (input .momentary false false 3 0 none);
      ResolvesIn { s with controls.lock := true } 23 .plain ∧ ResolvesIn { s with ovl.menu := true } 23 .menu ∧
      ResolvesIn { s with controls.assign := s.controls.assign.set (2 : Fin 24) true } 23 .assign ∧ ResolvesIn s 23 .plain) :=
  ⟨.inl (by decide), .inr (.inl (by decide)), .inr (.inr (.inl (by decide))), .inr (.inr (.inr (by decide)))⟩

theorem witness_ScansDebounceAndAccept_acted :
    (let s := at23 (bound .menuToggle up) (input .latching false false 3 0 none);
      (s.controls.switches.get 23).accepted = false ∧ (s.controls.switches.get 23).count = 3 ∧
      (∀ j, j ≠ 23 → (s.controls.switches.get j).count = 0 ∧ (s.controls.switches.get j).polls = 0 ∧
        pressed (s.controls.switches.get j).config ((oneHigh 23).get j) = (s.controls.switches.get j).accepted) ∧
      (after (.scan (oneHigh 23)) s).ovl.menu = true ∧
      (after (.scan (oneHigh 23)) s).controls.tokens = [tokenWord 23 .press .plain]) ∧
    (let h : Held := ⟨.menu, ⟨.lock, true, true, false⟩, .latching, false, false, .idle, none⟩;
      let s := at23 { up with controls.lock := true } (input .latching false true 3 0 (some h));
      s.supply.power ≠ .standby ∧ (s.controls.switches.get 23).held = some h ∧ (s.controls.switches.get 23).accepted = true ∧
      pressed (s.controls.switches.get 23).config ((Vector.replicate 24 false).get 23) = false ∧
      (after (.scan (.replicate 24 false)) s).controls.lock = false ∧
      (after (.scan (.replicate 24 false)) s).controls.tokens = [tokenWord 23 .release .menu]) ∧
    (let s := at23 (bound .power (inPower .standby)) (input .latching true true 0 1 none);
      s.supply.power = .standby ∧ true ≠ (false : Bool) ∧ (s.controls.switches.get 23).polls = 1 ∧
      (after (.scan (.replicate 24 false)) s).supply.power = .shutdown) ∧
    (let s := at23 (bound .power (inPower .standby)) (input .latching false true 0 0 none);
      (s.controls.switches.get 23).config.wake = false ∧ (s.controls.switches.get 23).polls = 0 ∧
      ((after (.scan (.replicate 24 false)) s).controls.switches.get 23).polls = 1) ∧
    (let s := at23 (bound .assign (inPower .standby)) (input .momentary true false 0 1 none);
      (s.controls.switches.get 23).config.wake = true ∧ s.supply.exit = none ∧
      (after (.scan (oneHigh 23)) s).supply.exit = some (.input 23) ∧
      (after (.scan (oneHigh 23)) s).controls.assign.get 23 = true) ∧
    (let s := at23 (inPower .standby) (input .momentary false false 0 1 none);
      (s.controls.switches.get 23).config.wake = false ∧ (after (.scan (oneHigh 23)) s).supply.exit = none) := by decide

/-- A state with input 2 held on an entry, its long-press timer due at `t`. -/
def holding (s : State) (e : KeyEntry) (t : Option Nat) : State :=
  { s with controls.switches := s.controls.switches.set (2 : Fin 24) { s.controls.switches.get 2 with
      accepted := true, held := some ⟨.plain, e, .momentary, false, false, .running, t⟩ } }

/-- `up` with a knob decoder at levels and a count, the lock and the menu as said. -/
def turning (l : Levels) (n : Int) (lock menu : Bool) : State :=
  { up with controls := { up.controls.setDecoder ⟨l, n⟩ .audio1 with lock := lock }, ovl.menu := menu }

theorem witness_LongPressesAndDetentsAreTaken : (up.controls.switches.get 2).held = none ∧
    (let e := bareEntry .menuToggle;
      ((holding up e none).controls.switches.get 2).held = some ⟨.plain, e, .momentary, false, false, .running, none⟩ ∧
      ((holding up e (some 800000)).controls.switches.get 2).held =
        some ⟨.plain, e, .momentary, false, false, .running, some 800000⟩ ∧ e.long = false ∧ e.action ≠ .power) ∧
    (let s := holding homed (bareEntry (.preset 7)) (some 800000);
      (s.controls.switches.get 2).held = some ⟨.plain, bareEntry (.preset 7), .momentary, false, false, .running, some 800000⟩ ∧
      s.lens.zoom.homing = .homed ∧ s.lens.zoom.owner ≠ .homing) ∧
    (let s := holding (inPower .standby) (bareEntry .power) (some 800000);
      (s.controls.switches.get 2).held = some ⟨.plain, bareEntry .power, .momentary, false, false, .running, some 800000⟩ ∧
      s.supply.power = .standby) ∧
    (let e : KeyEntry := { bareEntry .token with long := true };
      ((holding up e (some 800000)).controls.switches.get 2).held =
        some ⟨.plain, e, .momentary, false, false, .running, some 800000⟩ ∧ e.long = true ∧ e.action = .token ∧
      (holding up e (some 800000)).controls.tokens.length < 16) ∧
    (let s := holding up (bareEntry (.preset 7)) (some 800000);
      s.lens.zoom.homing ≠ .homed ∧ (after (.longPressTimerExpiry 2) s).controls.beeper = some ⟨.reject, 950000⟩) ∧
    (let s : State := { up with controls.focusRing := ⟨⟨true, false⟩, -3⟩ };
      s.controls.decoder .focusRing = ⟨⟨true, false⟩, -3⟩ ∧ decide (true = false) = false ∧
        (after (.encoderTransition .focusRing false false 0) s).lens.focus.target = some (-8)) ∧
    (let s : State := { up with controls.audio2 := ⟨⟨true, false⟩, 3⟩, audio.ch2 := { up.audio.ch2 with source := .host, setGain := 7 } };
      s.controls.decoder .audio2 = ⟨⟨true, false⟩, 3⟩ ∧ s.audio.link = false ∧
        (after (.encoderTransition .audio2 true true 0) s).audio.ch2.source = .panel ∧
        (after (.encoderTransition .audio2 true true 0) s).audio.ch2.setGain = 8) ∧
    (let s : State := { up with controls.dial := ⟨⟨true, true⟩, -3⟩ };
      s.controls.decoder .dial = ⟨⟨true, true⟩, -3⟩ ∧
        (after (.encoderTransition .dial true false 0) s).controls.tokens = [tokenWord 0x41 .detentDown .plain]) ∧
    (inPower .init).supply.power ≠ .run ∧
    ((turning ⟨true, true⟩ 2 false false).supply.power = .run ∧
      (turning ⟨true, true⟩ 2 false false).controls.decoder .audio1 = ⟨⟨true, true⟩, 2⟩) ∧
    (turning ⟨false, true⟩ (-2) false false).controls.decoder .audio1 = ⟨⟨false, true⟩, -2⟩ ∧
    (turning ⟨false, true⟩ (-3) false false).controls.decoder .audio1 = ⟨⟨false, true⟩, -3⟩ ∧
    (turning ⟨true, true⟩ 3 false false).controls.decoder .audio1 = ⟨⟨true, true⟩, 3⟩ ∧
    ((turning ⟨true, true⟩ 3 true false).controls.lock = true ∧ Encoder.audio1 ≠ .focusRing) ∧
    ((turning ⟨true, true⟩ 3 false true).controls.lock = false ∧ (turning ⟨true, true⟩ 3 false true).ovl.menu = true ∧
      (turning ⟨true, true⟩ 3 false true).controls.tokens.length < 16) ∧
    (let s := turning ⟨true, true⟩ 3 false false;
      s.controls.lock = false ∧ s.ovl.menu = false ∧ s.audio.power = .run ∧ s.audio.link = false ∧ s.audio.ch1.source = .panel ∧
      s.audio.ch1.settling = none) := by
  decide

/-- A state with the converter busy and every group pending. -/
def pendingAll (s : State) : State :=
  { s with conv := { s.conv with
      activity := .converting ⟨.rocker, [], [(2, true)], 8⟩, pending := ⟨true, true, true, true⟩ } }

theorem witness_RequestersAskTheConverter : (inPower .standby).supply.power ≠ .run ∧ (inPower .standby).audio.power = .standby ∧
    (up.supply.power = .run ∧ up.conv.activity = .idle ∧ up.conv.owed = false ∧ up.conv.pending = ⟨false, false, false, false⟩ ∧
      up.conv.selfCheck = true ∧ up.conv.enables.get 2 = true ∧ up.conv.enables.get 5 = true ∧ up.conv.enables.get 6 = true) ∧
    ((pendingAll up).supply.power = .run ∧ (pendingAll up).conv.activity ≠ .idle ∧ (pendingAll up).audio.power ≠ .standby ∧
      (pendingAll up).stab.mailbox = none ∧ (pendingAll up).audio.mailbox = none ∧ (pendingAll up).stab.state = .standby) ∧
    (pendingAll active).stab.state = .active .normal ∧
    ({ pendingAll active with stab.missedRun := 48 } : State).stab.missedRun < 49 ∧
    ({ pendingAll active with stab.missedRun := 49 } : State).stab.missedRun = 49 ∧ 49 ≤ 49 ∧
    (let s : State := { pendingAll linked with audio.mailbox := some (⟨3, 4095, .ok⟩, ⟨4, 0, .invalid⟩) };
      s.audio.power ≠ .standby ∧ s.conv.activity ≠ .idle ∧ s.audio.mailbox = some (⟨3, 4095, .ok⟩, ⟨4, 0, .invalid⟩) ∧
        s.audio.link = true ∧ (after .levelEvent s).audio.ch1.isOver = true) ∧
    (let s : State := { up with conv.enables := .replicate 7 false };
      s.supply.power = .run ∧ s.conv.enables.get 2 = false ∧ s.conv.enables.get 5 = false ∧ s.conv.enables.get 6 = false) ∧
    ({ up with conv.selfCheck := false } : State).conv.selfCheck = false := by decide

/-- `s` at an IDLE converter with the enables of AIN0, AIN1, AIN3 and AIN4 as said. -/
def enabling (s : State) (a0 a1 a3 a4 : Bool) : State := { s with conv.enables := #v[a0, a1, true, a3, a4, true, true] }

theorem witness_RequestersAskTheConverter_idle : active.conv.activity = .idle ∧ active.conv.owed = false ∧
    (active.supply.power = .run ∧ active.stab.mailbox = none ∧ active.stab.missedRun < 49 ∧ active.audio.power ≠ .standby ∧
      active.audio.mailbox = none) ∧
    (after .sampleEvent (enabling active true true true true)).conv.activity =
      .converting ⟨.gyro, [], [(0, true), (1, true)], max active.clock active.stab.sampleDue + 8⟩ ∧
    (after .sampleEvent (enabling active false true true true)).conv.activity =
      .converting ⟨.gyro, [⟨0, 0, .invalid⟩], [(1, true)], max active.clock active.stab.sampleDue + 8⟩ ∧
    (after .sampleEvent (enabling active false false true true)).stab.mailbox = some (⟨0, 0, .invalid⟩, ⟨1, 0, .invalid⟩) ∧
    (after .levelEvent (enabling active true true true false)).conv.activity =
      .converting ⟨.level, [], [(3, true), (4, false)], max active.clock active.audio.levelDue + 8⟩ ∧
    (after .levelEvent { active with conv.selfCheck := false }).audio.mailbox = some (⟨3, 0, .invalid⟩, ⟨4, 0, .invalid⟩) := by
  decide

theorem witness_RequestersAskTheConverter_supply : ∀ a b : Bool,
    let s : State := { up with conv.enables := #v[true, true, true, true, true, a, b] };
    s.conv.activity = .idle ∧ s.conv.owed = false ∧ s.conv.selfCheck = true ∧ s.conv.enables.get 5 = a ∧ s.conv.enables.get 6 = b := by
  decide

/-- The records of a gyro pair, the yaw axis at the top code. -/
def pair : ResultRec × ResultRec := (⟨0, 4094, .ok⟩, ⟨1, 2048, .ok⟩)

theorem witness_SamplesDriveTheCoils :
    let s : State := { pendingAll active with stab.mailbox := some pair };
    s.supply.power = .run ∧ s.conv.activity ≠ .idle ∧ s.stab.mailbox = some (pair.1, pair.2) ∧ s.stab.state = .active .normal ∧
    pair.1.status = .ok ∧ pair.2.status = .ok ∧ s.stab.setting = true ∧ s.stab.cond.run = true ∧ s.stab.cond.zoomHomed = true ∧
    s.stab.cond.gyroEnabled = true := by decide

theorem witness_SamplesDriveTheCoils_borders :
    (let s : State := { pendingAll active with stab := { active.stab with mailbox := some (⟨0, 4095, .rail⟩, pair.2), railRun := 7 } };
      s.stab.cond.allHold ∧ s.stab.railRun + 1 = 8 ∧ (after .sampleEvent s).stab.state = .fault .gyroRail ∧
        (after .sampleEvent { s with stab.railRun := 6 }).stab.railRun = 7) ∧
    (let s : State := { pendingAll active with stab.mailbox := some (⟨0, 0, .invalid⟩, pair.2) };
      s.stab.state = .active .normal ∧ (after .sampleEvent s).stab.state = .standby) ∧
    (let s : State := { pendingAll (stabIn .standby) with stab.mailbox := some pair };
      (∀ sub, s.stab.state ≠ .active sub) ∧ (after .sampleEvent s).stab.state = .active .normal) ∧
    (let s : State := { pendingAll active with stab := { active.stab with
        mailbox := some (⟨0, 2048, .ok⟩, ⟨1, 2048, .ok⟩), yaw := { active.stab.yaw with acc := 2000000, satRun := 39 } } };
      0 < s.lens.zoom.span ∧ (after .sampleEvent s).stab.state = .active .pan) ∧
    (let s : State := { pendingAll active with stab := { active.stab with
        state := .active .pan, mailbox := some (⟨0, 2048, .ok⟩, ⟨1, 2048, .ok⟩), panExit := 199 } };
      (after .sampleEvent s).stab.state = .active .normal ∧
        (after .sampleEvent { s with stab.panExit := 198 }).stab.panExit = 199) := by
  refine ⟨by unfold Conditions.allHold; decide, by decide, ⟨fun sub h => ?_, by decide⟩, by decide, by decide⟩
  cases h

/-- A state with the converter calibrating for its parties, due at 2000. -/
def calibrating (s : State) (p : Parties) : State :=
  { s with conv := { s.conv with activity := .calibrating 2000, parties := p } }

/-- A state in which the battery gave a code and DCIN is converted, each threshold one sample from its flag. -/
def sampling (s : State) (battery : Nat) : State :=
  { s with
    conv.activity := .converting ⟨.supply, [⟨5, battery, .ok⟩], [(6, true)], 16⟩
    supply := { s.supply with warn := ⟨false, 18⟩, low := ⟨false, 19⟩, cutoff := ⟨false, 19⟩ } }

theorem witness_ConversionsAndCalibrationsEnd : (∀ v, up.conv.activity ≠ .converting v) ∧ (∀ t, up.conv.activity ≠ .calibrating t) ∧
    (let s : State := { up with conv.activity := .converting ⟨.gyro, [], (0, true) :: (1, true) :: [], 8⟩ };
      s.conv.activity = .converting ⟨.gyro, [], (0, true) :: (1, true) :: [], 8⟩) ∧
    (let a : ResultRec := ⟨0, 2048, .ok⟩;
      let s : State := { up with conv.activity := .converting ⟨.gyro, [a], [(1, true)], 16⟩ };
      s.conv.activity = .converting ⟨.gyro, [a], [(1, true)], 16⟩ ∧ a.input = 0 ∧ s.conv.owed = false ∧
        s.conv.pending = ⟨false, false, false, false⟩) ∧
    ((busy.conv.activity = .converting ⟨.rocker, [], [(2, true)], 8⟩ ∧ busy.conv.owed = false ∧
        busy.conv.pending = ⟨false, false, false, false⟩ ∧ busy.supply.power = .run) ∧
      { busy with supply.power := .standby }.supply.power ≠ .run) ∧
    ((sampling recording 2730).conv.activity = .converting ⟨.supply, [⟨5, 2730, .ok⟩], [(6, true)], 16⟩ ∧
      (sampling recording 2730).conv.owed = false ∧ (sampling recording 2730).conv.pending = ⟨false, false, false, false⟩ ∧
      (sampling recording 2730).recorder.clip = some 5 ∧ (sampling recording 2730).recorder.state = .recording ∧
      (after (.conversionEnd 0) (sampling recording 2729)).supply.state = .low ∧
      (after (.conversionEnd 0) (sampling up 2730)).supply.state = .normal ∧
      (after (.conversionEnd 0) (sampling up 2502)).supply.state = .cutoff ∧ up.recorder.state = up.supply.recState) ∧
    (let s : State := { up with conv := { up.conv with
        activity := .converting ⟨.level, [⟨3, 0, .invalid⟩], [(4, true)], 16⟩, pending := ⟨true, false, false, true⟩ } };
      s.conv.activity = .converting ⟨.level, [⟨3, 0, .invalid⟩], [(4, true)], 16⟩ ∧ Group.level ≠ .supply ∧
        (after (.conversionEnd 5) s).audio.mailbox = some (⟨3, 0, .invalid⟩, ⟨4, 5, .ok⟩) ∧
        (after (.conversionEnd 5) s).conv.pending = ⟨false, false, false, true⟩ ∧
        (after (.conversionEnd 5) { s with conv.owed := true }).conv.activity = .calibrating 2016) ∧
    (let s : State := { up with conv := { up.conv with
        activity := .converting ⟨.gyro, [], [(0, true), (1, false)], 8⟩, pending := ⟨false, true, true, false⟩
        enables := (Vector.replicate 7 true).set (3 : Fin 7) false } };
      (∀ x ∈ [((1 : Fin 7), false)], x.2 = false) ∧
        (after (.conversionEnd 5) s).stab.mailbox = some (⟨0, 5, .ok⟩, ⟨1, 0, .invalid⟩) ∧
        (after (.conversionEnd 5) s).conv.activity = .converting ⟨.level, [⟨3, 0, .invalid⟩], [(4, true)], 16⟩) ∧
    ((calibrating up ⟨false, false, true⟩).conv.parties = ⟨false, false, true⟩ ∧
      (calibrating up ⟨false, false, true⟩).conv.activity = .calibrating 2000) ∧
    (State.reset.conv.activity = .calibrating 2000 ∧ State.reset.conv.parties = ⟨true, false, false⟩ ∧
      State.reset.supply.power = .init) ∧
    (let s : State := calibrating { inPower .standby with supply.exit := some .host } ⟨false, true, false⟩;
      s.conv.activity = .calibrating 2000 ∧ s.conv.parties = ⟨false, true, false⟩ ∧ s.supply.power = .standby ∧
        s.supply.exit = some .host) := by
  refine ⟨fun v => ?_, fun t => ?_, ?_⟩ <;> first | decide | (intro h; cases h)

theorem witness_ConversionsAndCalibrationsEnd_supply :
    (let s : State := { sampling up 2502 with conv.pending := ⟨true, false, false, true⟩ };
      let r : ResultRec := ⟨6, 0, .rail⟩;
      s.conv.activity = .converting ⟨.supply, [⟨5, 2502, .ok⟩], (6, true) :: [], 16⟩ ∧
        [⟨5, 2502, .ok⟩] ++ r :: [] = [⟨5, 2502, .ok⟩, r] ∧ r.status ≠ .invalid ∧
        (after (.conversionEnd 0) s).supply.power = .shutdown ∧ (after (.conversionEnd 0) s).conv.pending = ⟨false, false, false, true⟩) := by decide

theorem witness_ConversionsAndCalibrationsEnd_entries :
    (let s : State := calibrating { State.reset with conv.pending := ⟨false, false, true, false⟩ } ⟨true, false, true⟩;
      s.conv.activity = .calibrating 2000 ∧ s.conv.parties.reset = true ∧ s.conv.parties.exit = false ∧ s.supply.power = .init) ∧
    (let s : State := calibrating { inPower .standby with supply.exit := some .host } ⟨false, true, true⟩;
      s.conv.activity = .calibrating 2000 ∧ s.conv.parties.reset = false ∧ s.conv.parties.exit = true ∧ s.supply.exit = some .host ∧
        (after (.calibrationEnd 2048) s).supply.power = .run) ∧
    (let s : State := calibrating (inPower .shutdown) ⟨false, true, true⟩;
      s.conv.activity = .calibrating 2000 ∧ s.conv.parties.reset = false ∧ s.conv.parties.exit = true ∧ s.supply.exit = none ∧
        (after (.calibrationEnd 2048) s).supply.power = .shutdown) := by decide

/-- `homed` with a zoom goto of REMOTE from 0 to `t` at speed 2000, `vcmd` and the run of the duty as said. -/
def going (t vcmd : Int) (run : Option Nat) (suspect : Option Nat) : State :=
  { homed with lens := { homed.lens with zoom := { homed.lens.zoom with
      owner := .remote, move := some .goto, target := some t, gotoSpeed := some 2000, vcmd := vcmd, dutyRun := run
      suspect := suspect } } }

theorem witness_ControlEventsDriveTheAxis : (up.axis .zoom).gap ≠ 1 ∧
    ({ up with lens.zoom.gap := 1 } : State).lens.zoom.gap = 1 ∧ State.reset.lens.floating = true ∧
    (let s : State := { up with lens.zoom.gap := 1 };
      s.lens.floating = false ∧ s.lens.zoom.gap = 0 + 1 ∧ s.lens.zoom.target = none ∧ s.lens.zoom.pause = none ∧
        s.lens.zoom.dutyRun = none ∧ s.lens.demand = 0 ∧ s.lens.zoom.owner = .none) ∧
    (let s := going 3 (-400) none none;
      s.lens.floating = false ∧ s.lens.zoom.owner = .remote ∧ s.lens.zoom.move = some .goto ∧ s.lens.zoom.target = some 3 ∧
      s.lens.zoom.gotoSpeed = some 2000 ∧ s.lens.zoom.homing = .homed ∧ 2 < (s.lens.zoom.position - 3).natAbs ∧
      s.lens.zoom.gap = 0 ∧ s.lens.zoom.pause = none ∧ s.lens.zoom.dutyRun = none ∧ s.lens.demand = 0) ∧
    (let s := going 2 400 none none;
      s.lens.zoom.owner = .remote ∧ s.lens.zoom.target = some 2 ∧ (s.lens.zoom.position - 2).natAbs ≤ 2 ∧ s.lens.zoom.gap = 0 ∧
      s.lens.zoom.dutyRun = none ∧ s.lens.demand = 0 ∧ s.lens.floating = false) ∧
    (let s : State := { going 1000 2000 (some 1000) none with clock := 51000 };
      s.lens.floating = false ∧ s.lens.zoom.position + 1000 ≤ 1000 ∧ s.lens.zoom.homing = .homed ∧ s.lens.halving = false ∧
      s.lens.zoom.vcmd = 2000 ∧ s.lens.zoom.dutyRun = some 1000 ∧ 2000 ≤ s.lens.vmax .zoom ∧ s.lens.vmax .zoom ≤ 8000 ∧
      max 1000 (s.lens.zoom.lastEdge.getD 0) + 50000 ≤ max s.clock s.lens.zoom.controlDue ∧ s.lens.zoom.suspect = none) ∧
    (let s : State := { going 1000 2000 (some 1000) (some 20000) with clock := 519999 };
      s.lens.zoom.suspect = some 20000 ∧ max s.clock s.lens.zoom.controlDue < 20000 + 500000 ∧
      max 1000 (s.lens.zoom.lastEdge.getD 0) + 50000 ≤ max s.clock s.lens.zoom.controlDue) := by decide

theorem witness_ControlEventsDriveTheAxis_owners :
    (let s : State := { homed with lens := { homed.lens with demand := -1 } };
      s.lens.floating = false ∧ (s.axis .zoom).target = none ∧ s.lens.blocked = false ∧ s.lens.zoom.fault = false ∧
        s.lens.zoom.owner = .none ∧ (after (.controlEvent .zoom) s).lens.zoom.owner = .operator) ∧
    (let s : State := owned .operator .goto;
      s.lens.demand = 0 ∧ s.lens.zoom.vcmd = 0) ∧
    (let a : AxisRec := { AxisRec.powerOn 15872 with
        homing := .homing .park, owner := .homing, target := some 0, gotoSpeed := some 2000, position := 2, homingTimer := some 25000000 };
      let s : State := { up with lens.zoom := a, lens.presets := .replicate 8 16000 };
      (s.axis .zoom).target = some 0 ∧ ((s.axis .zoom).position - 0).natAbs ≤ 2 ∧ (s.axis .zoom).owner = .homing ∧
        (after (.controlEvent .zoom) s).lens.zoom.homing = .homed ∧ (after (.controlEvent .zoom) s).stab.cond.zoomHomed = true ∧
        (after (.controlEvent .zoom) s).lens.presets.get 7 = 15872 ∧
        2 < (({ s with lens.zoom.position := 3 } : State).lens.zoom.position - 0).natAbs) ∧
    (let s : State := { up with lens.focus := { up.lens.focus with
        owner := .operator, move := some .goto, target := some 8, gotoSpeed := some 12000, position := 0, vcmd := 3000 } };
      s.lens.focus.homing ≠ .homed ∧ (after (.controlEvent .focus) s).lens.focus.vcmd = 3000 ∧
        (after (.controlEvent .focus) { s with lens.focus.position := 6 }).lens.focus.owner = .none) ∧
    (let s : State := { homed with lens.zoom := { homed.lens.zoom with
        owner := .remote, move := some .drive, driveSpeed := 500, gap := 3 } };
      0 < s.lens.zoom.gap ∧ (after (.controlEvent .zoom) s).lens.zoom.gap = 2) := by decide

/-- `up` with the focus axis at a position, homing and capture. -/
def focusAt (p : Int) (h : Homing) (c : Option Capture) : State :=
  { up with lens.focus := { up.lens.focus with position := p, homing := h, capture := c, homingTimer := some 25000000 } }

theorem witness_EdgesAndHomingEventsAreTaken :
    ((focusAt 2147483646 .homed none).pins.motor .focus = ⟨false, false⟩ ∧
      (focusAt 2147483646 .homed none).lens.focus.position + 1 ≤ 2147483647 ∧
      -2147483648 ≤ (focusAt (-2147483647) .homed none).lens.focus.position - 1 ∧
      (focusAt 0 .homed none).lens.focus.capture = none) ∧
    (let c : Capture := ⟨4, 2, 100, true⟩;
      (focusAt 0 .homed (some c)).lens.focus.capture = some c ∧ c.count + 1 < c.n) ∧
    (let c : Capture := ⟨4, 3, 100, true⟩;
      (focusAt 0 .homed (some c)).lens.focus.capture = some c ∧ c.n ≤ c.count + 1 ∧ c.start < max up.clock 101) ∧
    ((∀ p, (focusAt 0 .homed none).lens.focus.homing ≠ .homing p) ∧
      (focusAt 0 (.homing .park) none).lens.focus.homing = .homing .park ∧
      (focusAt 0 (.homing .seekNear) none).lens.focus.homing = .homing .seekNear) ∧
    ((focusAt 19200 (.homing .seekFar) none).lens.focus.homing = .homing .seekFar ∧ spanAccepted .focus 19200 = true ∧
      spanAccepted .focus 26400 = true ∧ spanAccepted .focus 19199 = false ∧ spanAccepted .focus 26401 = false) ∧
    (let s : State := { focusAt 19200 (.homing .park) none with lens.focus.spanBefore := some 24000, lens.focus.span := 19200 };
      s.lens.focus.spanBefore = some 24000) ∧
    (up.lens.focus.homingTimer = none ∧ (focusAt 0 (.homing .park) none).lens.focus.homingTimer = some 25000000) ∧
    up.lens.driveTimer = none ∧
    (let s : State := { owned .remote .drive with lens.driveTimer := some 1000 };
      s.lens.driveTimer = some 1000 ∧ s.lens.zoom.move = some .drive ∧ s.lens.zoom.owner = .remote) := by
  refine ⟨by decide, by decide, by decide, ⟨fun p h => ?_, by decide, by decide⟩, by decide, by decide, by decide, by decide, by decide⟩
  cases h

/-- `active` with the zoom in SEEK_FAR at a position, the span before the run being 14000. -/
def zoomSeeking (position : Int) : State :=
  { active with lens.zoom := { active.lens.zoom with
      owner := .homing, homing := .homing .seekFar, position := position, spanBefore := some 14000, homingTimer := some 25000000 } }

theorem witness_EdgesAndHomingEventsAreTaken_zoom :
    (∀ p : Int, p = 12799 ∨ p = 17601 → ((zoomSeeking p).axis .zoom).homing = .homing .seekFar ∧ spanAccepted .zoom p = false) ∧
    ((zoomSeeking 0).axis .zoom).homingTimer = some 25000000 := by
  refine ⟨?_, by decide⟩
  rintro p (rfl | rfl) <;> decide

theorem test_seekEndZoomSpan :
    (after (.seekEnd .zoom) (zoomSeeking 0)).lens.zoom.span = 14000 ∧
    (after (.seekEnd .zoom) (zoomSeeking 0)).stab.cond.zoomHomed = false ∧
    (after (.seekEnd .zoom) (zoomSeeking 0)).lens.zoom.homing = .abandoned .span := by decide

/-- `up` with the reference present or LOST, the watch and the frame timer as said. -/
def reference (s : State) (present : Bool) (watch timer : Option Nat) : State :=
  { s with tc := { s.tc with present := present, watch := watch, frameTimer := timer } }

/-- A recording in the last frame of the day, with row 15 of the displayed page dirty alone or every row dirty. -/
def lastFrame (all : Bool) : State :=
  { recording with
    tc.label := ⟨23, 59, 59, 24⟩
    ovl := { recording.ovl with
      vfPresent := true
      pages := recording.ovl.pages.set recording.ovl.displayed { recording.ovl.pages.get recording.ovl.displayed with
        dirty := .ofFn fun r => all || decide (r = 15) } } }

theorem witness_FramesAdvanceAndRowsAreSent : up.tc.present = true ∧
    (up.ovl.vfPresent = false ∧ (lastFrame true).ovl.power = .run ∧ (lastFrame true).ovl.vfPresent = true ∧
      (lastFrame true).ovl.batch = none ∧ ((lastFrame true).ovl.pages.get (lastFrame true).ovl.displayed).dirty.get 0 = true ∧
      ((lastFrame false).ovl.pages.get (lastFrame false).ovl.displayed).dirty.get 15 = true ∧
      (after .fsyncEdge (lastFrame true)).ovl.batch.map (·.waiting) = some [1, 2, 3] ∧
      (after .fsyncEdge (lastFrame false)).ovl.batch.map (·.waiting) = some [] ∧
      (after .fsyncEdge (lastFrame true)).log.records.map (·.dayRoll) = [true, false]) ∧
    ((reference up false none (some 5)).tc.present = false ∧ (reference up false none (some 5)).supply.power ≠ .standby ∧
      (reference up false none (some 5)).tc.watch = none ∧ (reference up false none (some 5)).tc.frameTimer = some 5) ∧
    ((reference (inPower .standby) false none (some 5)).tc.present = false ∧
      (reference (inPower .standby) false none (some 5)).supply.power = .standby) ∧
    ((reference up true (some 5) none).tc.watch = some 5 ∧ (reference up true (some 5) none).tc.frameTimer = none ∧
      (reference (inPower .standby) true (some 5) none).tc.watch = some 5) ∧
    (let t : Timecode := { up.tc with runMode := .recRun };
      LabelInv { State.reset with tc := t } ∧ t.runMode = .recRun ∧ t.recState ≠ .recording) ∧
    (let t : Timecode := { up.tc with label := ⟨23, 59, 59, 24⟩ };
      LabelInv { State.reset with tc := t } ∧ t.runMode = .freeRun ∧ t.label.frames + 1 = countedRate t.rate ∧ t.label.seconds = 59 ∧
        t.label.minutes = 59 ∧ t.label.hours = 23) ∧
    (let t : Timecode := { up.tc with rate := .r30df, label := ⟨22, 58, 59, 29⟩ };
      LabelInv { State.reset with tc := t } ∧ t.label.frames + 1 = countedRate t.rate ∧ t.label.seconds = 59 ∧
        t.label.minutes < 59 ∧ (t.label.minutes + 1) % 10 ≠ 0) ∧
    (let t : Timecode := { up.tc with label := ⟨22, 59, 58, 24⟩ };
      LabelInv { State.reset with tc := t } ∧ t.label.frames + 1 = countedRate t.rate ∧ t.label.seconds < 59) ∧
    (let t : Timecode := { up.tc with label := ⟨22, 59, 59, 24⟩ };
      LabelInv { State.reset with tc := t } ∧ t.label.frames + 1 = countedRate t.rate ∧ t.label.seconds = 59 ∧
        t.label.minutes = 59 ∧ t.label.hours < 23) ∧
    (let t : Timecode := { up.tc with label := ⟨22, 59, 59, 23⟩ };
      LabelInv { State.reset with tc := t } ∧ t.label.frames + 1 < countedRate t.rate) ∧
    (up.ovl.batch = none ∧ ({ up with ovl.batch := some ⟨[], []⟩ } : State).ovl.batch = some ⟨[], []⟩ ∧
      ({ up with ovl.batch := some ⟨[], [15]⟩ } : State).ovl.batch = some ⟨[], 15 :: []⟩) ∧
    ({ up with ovl.vfPresent := false } : State).ovl.vfPresent = false ∧
    ({ up with ovl.vfPresent := true } : State).ovl.vfPresent = true := by
  unfold LabelInv; decide

/-- A state with slot A's record changed. -/
def slotWith (s : State) (f : SlotRec → SlotRec) : State := { s with recorder.slotA := f s.recorder.slotA }

/-- `recording` in a mode, the detect line of slot A low 50 ms since, with the seconds left on each slot and slot B's state. -/
def running (m : RecMode) (a b : Nat) (st : SlotState) : State :=
  { recording with recorder := { recording.recorder with
      mode := m, bitrate := .mb25, slotA := { recording.recorder.slotA with remaining := a * 3125, detectTimer := some 50000 }
      slotB := { recording.recorder.slotB with state := st, remaining := b * 3125 } } }

/-- A start of clip 5 in a mode from a start set, the detect line of slot A low 50 ms since, and slot B in a state. -/
def opening (m : RecMode) (set : SlotSet) (st : SlotState) : State :=
  { clip .starting with recorder := { (clip .starting).recorder with
      mode := m, startSet := set, slotA := { (clip .starting).recorder.slotA with state := .ready, detectTimer := some 50000 }
      slotB := { (clip .starting).recorder.slotB with state := st, remaining := 5000000 } } }

theorem witness_CardLinesAndClipWindowsAreTaken :
    (up.pins.card .a .detect = false ∧ up.pins.card .a .writeProtect ≠ true) ∧
    (up.recorder.slotA.detectTimer = none ∧ up.recorder.slotA.protectTimer = none ∧ up.recorder.state ≠ .recording ∧
      up.recorder.state ≠ .starting ∧ up.recorder.slotA.mountTimer = none) ∧
    (let s : State := slotWith { up with pins := up.pins.setCard true .a .detect } fun r => { r with detectTimer := some 50000 };
      s.recorder.slotA.detectTimer = some 50000 ∧ s.pins.detect .a = true ∧ s.recorder.slotA.state = .empty) ∧
    (let s : State := slotWith up fun r => { r with detectTimer := some 50000, present := true, state := .ready };
      s.recorder.slotA.detectTimer = some 50000 ∧ s.pins.detect .a = false ∧ s.recorder.slotA.state ≠ .empty ∧
        s.recorder.slotA.state ≠ .active) ∧
    (let s : State := slotWith { up with pins := up.pins.setCard true .a .writeProtect } fun r =>
        { r with protectTimer := some 50000, state := .ready };
      s.recorder.slotA.protectTimer = some 50000 ∧ s.pins.protect .a = true ∧ s.recorder.slotA.state = .ready) ∧
    (slotWith up fun r => { r with mountTimer := some 10000000 }).recorder.slotA.mountTimer = some 10000000 ∧
    (up.recorder.confirmTimer = none ∧ up.recorder.closeTimer = none ∧ up.recorder.accountTimer = none) ∧
    (({ clip .starting with recorder.confirmTimer := some 2000000 } : State).recorder.confirmTimer = some 2000000 ∧
      ({ clip .starting with recorder.confirmTimer := some 2000000 } : State).recorder.clip = some 5) ∧
    ({ clip .stopping with recorder.closeTimer := some 3000000 } : State).recorder.closeTimer = some 3000000 ∧
    (recording.recorder.accountTimer = some 1000000 ∧ recording.recorder.slotA.state = .active ∧
      (recording.recorder.slot (otherSlot .a)).state ≠ .active ∧ recording.recorder.mode = .single ∧
      recording.recorder.state = .recording ∧ recording.recorder.clip = some 5 ∧
      rateOf recording.recorder.bitrate < recording.recorder.slotA.remaining) ∧
    (slotWith recording fun r => { r with remaining := rateOf recording.recorder.bitrate }).recorder.slotA.remaining ≤
      rateOf recording.recorder.bitrate ∧
    (let s := opening .simul ⟨true, true⟩ .ready;
      s.recorder.state = .starting ∧ s.recorder.clip = some 5 ∧ s.recorder.slotA.detectTimer = some 50000 ∧ s.pins.detect .a = false ∧
        s.recorder.slotA.state = .ready ∧ s.recorder.startSet.has .b = true ∧ s.recorder.usable .b = true) ∧
    (let s := opening .relay ⟨true, false⟩ .ready;
      s.recorder.startSet.has .b = false ∧ s.recorder.mode = .relay ∧ s.recorder.current = .a ∧ s.recorder.usable .b = true) ∧
    ((opening .single ⟨true, false⟩ .ready).recorder.mode ≠ .relay ∧ (opening .relay ⟨true, false⟩ .empty).recorder.usable .b = false) ∧
    (let s := running .single 31 0 .empty;
      s.recorder.state = .recording ∧ s.recorder.slotA.detectTimer = some 50000 ∧ s.pins.detect .a = false ∧
        s.recorder.slotA.state = .active ∧ s.recorder.slotB.state ≠ .active) ∧
    ((running .simul 31 60 .active).recorder.slotB.state = .active ∧ (running .simul 31 60 .active).recorder.mode = .simul) ∧
    (let s := running .relay 31 31 .ready;
      s.recorder.slotB.state = .ready ∧ s.log.openRec = some open5 ∧ s.recorder.slotA.remaining - 3125 ≤ 30 * 3125 ∧
        30 * 3125 < s.recorder.slotB.remaining ∧ open5.segments.length < 4 ∧ rateOf s.recorder.bitrate = 3125) ∧
    (30 * 3125 < (running .relay 32 31 .ready).recorder.slotA.remaining - 3125 ∧
      3125 < (running .relay 2 30 .ready).recorder.slotA.remaining ∧
      (running .relay 2 30 .ready).recorder.slotB.remaining ≤ 30 * 3125) ∧
    (3125 < (running .simul 1 2 .active).recorder.slotB.remaining ∧ (running .simul 1 1 .active).recorder.slotA.remaining ≤ 3125 ∧
      (running .simul 1 1 .active).recorder.slotB.remaining ≤ 3125) := by
  refine ⟨by decide, by decide, by decide, by decide, by decide, by decide, by decide, by decide, ?_⟩
  decide

theorem witness_CardLinesAndClipWindowsAreTaken_inEveryState :
    (let s : State := { recording with
        pins := recording.pins.setCard true .b .detect
        recorder := { recording.recorder with
          slotB := { recording.recorder.slotB with state := .empty, detectTimer := some 50000 } } };
      s.recorder.state = .recording ∧ s.recorder.slotB.state = .empty ∧ s.pins.detect .b = true ∧
        (after (.cardLineAccepted .b .detect) s).recorder.slotB.state = .mounting) ∧
    (let s : State := slotWith { clip .starting with pins := up.pins.setCard true .a .writeProtect } fun r => { r with
        state := .ready, protectTimer := some 50000 };
      s.pins.protect .a = true ∧ (after (.cardLineAccepted .a .writeProtect) s).recorder.slotA.state = .writeProtected) ∧
    (let s : State := slotWith up fun r => { r with state := .writeProtected, protect := true, protectTimer := some 50000 };
      s.pins.protect .a = false ∧ s.recorder.slotA.state = .writeProtected ∧
        (after (.cardLineAccepted .a .writeProtect) s).recorder.slotA.state = .ready) ∧
    (let s : State := slotWith up fun r => { r with state := .full, protectTimer := some 50000, detectTimer := some 50000 };
      s.recorder.slotA.state ≠ .ready ∧ s.recorder.slotA.state ≠ .writeProtected ∧ s.recorder.slotA.state ≠ .empty) ∧
    (let s : State := slotWith recording fun r => { r with state := .mounting, mountTimer := some 10000000 };
      s.recorder.slotA.mountTimer = some 10000000 ∧ s.recorder.state = .recording) ∧
    (let s := running .relay 1 30 .ready;
      s.recorder.slotA.remaining ≤ 3125 ∧ s.recorder.slotB.state = .ready ∧ s.recorder.slotB.remaining ≤ 30 * 3125 ∧
        s.log.openRec = some open5 ∧ (after .accountingEvent s).recorder.state = .stopping) := by
  refine ⟨⟨by decide, by decide, by decide, rfl⟩, ⟨by decide, rfl⟩, ⟨by decide, by decide, rfl⟩, by decide, by decide,
    by decide, by decide, by decide, by decide, rfl⟩

end Sys2Proof.Tests
end

/-! STAB_OFFSET_SET (R82): the offset is clamped, and the learning of its axis starts again. -/

namespace Sys2Proof.Machine

/-! ## The offset taken -/

theorem offsetOf_eq_max_min (v : Nat) : offsetOf v = max 16384 (min 49152 (v : Int)) := by
  unfold offsetOf clampInt
  omega

theorem offsetOf_eq_self_iff (v : Nat) : offsetOf v = v ↔ 16384 ≤ v ∧ v ≤ 49152 := by
  rw [offsetOf_eq_max_min]
  omega

/-- The result says whether the clamp changed the value. -/
theorem okClamped_offsetOf (v : Nat) (u : State) :
    okClamped (offsetOf v ≠ v) u = ⟨u, if 16384 ≤ v ∧ v ≤ 49152 then .ok else .clamped, .none, .none, false⟩ := by
  by_cases h : 16384 ≤ v ∧ v ≤ 49152
  · have hv : offsetOf v = v := (offsetOf_eq_self_iff v).2 h
    simp [okClamped, hv, h]
  · have hv : offsetOf v ≠ v := mt (offsetOf_eq_self_iff v).1 h
    simp [okClamped, hv, h]

/-! ## The decision and the command -/

/-- An offset of the format's range is taken on either axis. -/
theorem stabOffsetSetOwner_given (g : Gyro) {v : Nat} (hv : v ≤ 65535) (s : State) :
    stabOffsetSetOwner (.given ⟨g, v⟩) s =
      ⟨{ s with
          stab := s.stab.setAxis
            { s.stab.axis g with z := max 16384 (min 49152 (v : Int)), learnRun := 0, rem := 0 } g },
        if 16384 ≤ v ∧ v ≤ 49152 then .ok else .clamped, .none, .none, false⟩ := by
  simp only [stabOffsetSetOwner, withArgs]
  rw [if_neg (by omega), okClamped_offsetOf, offsetOf_eq_max_min]

/-- A payload without legal arguments, an axis other than YAW or PITCH among them, is answered BAD_ARGUMENT. -/
theorem exec_stabOffsetSet_malformed {tag : Byte} {s : State} (h : Passed .stabOffsetSet tag s) :
    exec (.stabOffsetSet tag .malformed) s =
      .next (answered .stabOffsetSet tag .badArgument .none .none (s.brought .stabOffsetSet tag)) :=
  request_of_passed (owner := stabOffsetSetOwner .malformed) (a := badArgument _) h rfl rfl

/-- The axis named takes the clamped offset and starts its learning again; the rest of the part stands. -/
theorem exec_stabOffsetSet_given {tag : Byte} {s : State} (h : Passed .stabOffsetSet tag s) (g : Gyro) {v : Nat}
    (hv : v ≤ 65535) :
    exec (.stabOffsetSet tag (.given ⟨g, v⟩)) s = .next (answered .stabOffsetSet tag
      (if 16384 ≤ v ∧ v ≤ 49152 then .ok else .clamped) .none .none
      { s.brought .stabOffsetSet tag with
        stab := s.stab.setAxis
          { s.stab.axis g with z := max 16384 (min 49152 (v : Int)), learnRun := 0, rem := 0 } g }) :=
  request_of_passed h (stabOffsetSetOwner_given g hv (s.brought .stabOffsetSet tag)) rfl

/-- Settles O35: the refusal, and the one rule of both axes at YAW and at PITCH. -/
theorem stabOffsetIsClampedAndLearningRestarts : Obligations.StabOffsetIsClampedAndLearningRestarts := by
  intro tag s h
  exact ⟨exec_stabOffsetSet_malformed h, fun v hv =>
    ⟨exec_stabOffsetSet_given h .yaw hv, exec_stabOffsetSet_given h .pitch hv⟩⟩

end Sys2Proof.Machine

/-! TC_SET, TC_MODE_SET and USERBITS_SET (R95 to R97): the label, the modes and the user bits. -/

namespace Sys2Proof.Machine

/-! ## Labels and their corrections -/

theorem labelLegal_eq_true_iff (r : Rate) (l : Label) :
    labelLegal r l = true ↔ l.hours < 24 ∧ l.minutes < 60 ∧ l.seconds < 60 ∧ l.frames < countedRate r := by
  simp only [labelLegal, decide_eq_true_eq]
  omega

theorem labelLegal_eq_false_iff (r : Rate) (l : Label) :
    labelLegal r l = false ↔ 24 ≤ l.hours ∨ 60 ≤ l.minutes ∨ 60 ≤ l.seconds ∨ countedRate r ≤ l.frames := by
  rw [← Bool.not_eq_true, labelLegal_eq_true_iff]
  omega

theorem isDropped_eq_true_iff (l : Label) :
    isDropped l = true ↔ l.seconds = 0 ∧ l.frames < 2 ∧ l.minutes % 10 ≠ 0 := by
  simp only [isDropped, decide_eq_true_eq]

theorem isDropped_eq_false_iff (l : Label) :
    isDropped l = false ↔ l.seconds ≠ 0 ∨ 2 ≤ l.frames ∨ l.minutes % 10 = 0 := by
  rw [← Bool.not_eq_true, isDropped_eq_true_iff]
  omega

/-- Every rate counts more frames than the two that 30DF drops. -/
theorem two_lt_countedRate (r : Rate) : 2 < countedRate r := by
  cases r <;> decide

theorem correctDropped_of_dropped {l : Label} (h : isDropped l = true) :
    correctDropped .r30df l = { l with frames := 2 } := by
  simp [correctDropped, h]

theorem correctDropped_of_valid {r : Rate} {l : Label} (h : r ≠ .r30df ∨ isDropped l = false) :
    correctDropped r l = l := by
  rcases h with h | h <;> simp [correctDropped, h]

/-- A corrected label is another one: a dropped label has frames 0 or 1. -/
theorem frames_two_ne_of_dropped {l : Label} (h : isDropped l = true) : { l with frames := 2 } ≠ l := by
  obtain ⟨-, hf, -⟩ := (isDropped_eq_true_iff l).1 h
  exact fun e => absurd (congrArg Label.frames e) (by simp only; omega)

/-- A label that the new rate counts is only corrected where it is dropped. -/
theorem labelToRate_of_counted {r : Rate} {l : Label} (h : l.frames < countedRate r) :
    labelToRate r l = correctDropped r l := by
  have hm : min l.frames (countedRate r - 1) = l.frames := by omega
  simp only [labelToRate, hm]

/-- A label that the new rate does not count comes to its last frame, which is never a dropped one. -/
theorem labelToRate_of_uncounted {r : Rate} {l : Label} (h : countedRate r ≤ l.frames) :
    labelToRate r l = { l with frames := countedRate r - 1 } := by
  have hm : min l.frames (countedRate r - 1) = countedRate r - 1 := by omega
  have hr := two_lt_countedRate r
  rw [labelToRate, hm]
  exact correctDropped_of_valid (.inr ((isDropped_eq_false_iff _).2 (.inr (.inl (by simp only; omega)))))

/-- The last frame of a rate is another one than a frame the rate does not count. -/
theorem last_frame_ne_of_uncounted {r : Rate} {l : Label} (h : countedRate r ≤ l.frames) :
    { l with frames := countedRate r - 1 } ≠ l := by
  have hr := two_lt_countedRate r
  exact fun e => absurd (congrArg Label.frames e) (by simp only; omega)

/-- A valid label stands at the rate in force. -/
theorem labelToRate_of_validLabel {r : Rate} {l : Label} (h : validLabel r l = true) : labelToRate r l = l := by
  simp only [validLabel, decide_eq_true_eq] at h
  obtain ⟨-, -, -, hf, hd⟩ := h
  rw [labelToRate_of_counted hf, correctDropped, if_neg hd]

/-- The result says whether the correction changed the label. -/
theorem okClamped_label_ne (l' l : Label) (u : State) :
    okClamped (!decide (l' = l)) u = ⟨u, if l' = l then .ok else .clamped, .none, .none, false⟩ := by
  by_cases h : l' = l <;> simp [okClamped, h]

/-! ## TC_SET -/

/-- A payload without a label is answered BAD_ARGUMENT. -/
theorem exec_tcSet_malformed {tag : Byte} {s : State} (h : Passed .tcSet tag s) :
    exec (.tcSet tag .malformed) s = .next (answered .tcSet tag .badArgument .none .none (s.brought .tcSet tag)) :=
  request_of_passed (owner := tcSetOwner .malformed) (a := badArgument _) h rfl rfl

/-- A field out of its range is answered BAD_ARGUMENT, in every record state. -/
theorem exec_tcSet_illegal {tag : Byte} {s : State} (h : Passed .tcSet tag s) {l : Label}
    (hl : labelLegal s.tc.rate l = false) :
    exec (.tcSet tag (.given l)) s = .next (answered .tcSet tag .badArgument .none .none (s.brought .tcSet tag)) := by
  have ho : tcSetOwner (.given l) (s.brought .tcSet tag) = badArgument (s.brought .tcSet tag) := if_pos hl
  exact request_of_passed h ho rfl

/-- With a clip in hand a legal label is refused. -/
theorem exec_tcSet_recording {tag : Byte} {s : State} (h : Passed .tcSet tag s) {l : Label}
    (hl : labelLegal s.tc.rate l = true) (hr : s.tc.recState ≠ .standby) :
    exec (.tcSet tag (.given l)) s =
      .next (answered .tcSet tag .refused .recording .none (s.brought .tcSet tag)) := by
  have ho : tcSetOwner (.given l) (s.brought .tcSet tag) = refuse .recording (s.brought .tcSet tag) := by
    simp [tcSetOwner, withArgs, hl, hr]
  exact request_of_passed h ho rfl

/-- In STANDBY of the record state a legal label is set as the rate corrects it. -/
theorem exec_tcSet_standby {tag : Byte} {s : State} (h : Passed .tcSet tag s) {l l' : Label}
    (hl : labelLegal s.tc.rate l = true) (hr : s.tc.recState = .standby) (hc : correctDropped s.tc.rate l = l') :
    exec (.tcSet tag (.given l)) s = .next (answered .tcSet tag (if l' = l then .ok else .clamped) .none .none
      { s.brought .tcSet tag with tc.label := l' }) := by
  have ho : tcSetOwner (.given l) (s.brought .tcSet tag) =
      ⟨{ s.brought .tcSet tag with tc.label := l' }, if l' = l then .ok else .clamped, .none, .none, false⟩ := by
    simp [tcSetOwner, withArgs, hl, hr, hc, okClamped_label_ne]
  exact request_of_passed h ho rfl

/-- A label dropped at 30DF gets frames 2. -/
theorem exec_tcSet_dropped {tag : Byte} {s : State} (h : Passed .tcSet tag s) {l : Label}
    (hl : labelLegal s.tc.rate l = true) (hr : s.tc.recState = .standby) (hdf : s.tc.rate = .r30df)
    (h0 : l.seconds = 0) (h2 : l.frames < 2) (h10 : l.minutes % 10 ≠ 0) :
    exec (.tcSet tag (.given l)) s = .next (answered .tcSet tag .clamped .none .none
      { s.brought .tcSet tag with tc.label := ⟨l.hours, l.minutes, 0, 2⟩ }) := by
  have hd : isDropped l = true := (isDropped_eq_true_iff l).2 ⟨h0, h2, h10⟩
  have hc : correctDropped s.tc.rate l = { l with frames := 2 } := by rw [hdf, correctDropped_of_dropped hd]
  have he := exec_tcSet_standby h hl hr hc
  rwa [if_neg (frames_two_ne_of_dropped hd), h0] at he

/-- Any other legal label is set as it is. -/
theorem exec_tcSet_valid {tag : Byte} {s : State} (h : Passed .tcSet tag s) {l : Label}
    (hl : labelLegal s.tc.rate l = true) (hr : s.tc.recState = .standby)
    (hv : s.tc.rate ≠ .r30df ∨ isDropped l = false) :
    exec (.tcSet tag (.given l)) s = .next (answered .tcSet tag .ok .none .none
      { s.brought .tcSet tag with tc.label := l }) := by
  simpa using exec_tcSet_standby h hl hr (correctDropped_of_valid hv)

/-! ## TC_MODE_SET -/

/-- A payload without a rate and a run mode is answered BAD_ARGUMENT. -/
theorem exec_tcModeSet_malformed {tag : Byte} {s : State} (h : Passed .tcModeSet tag s) :
    exec (.tcModeSet tag .malformed) s =
      .next (answered .tcModeSet tag .badArgument .none .none (s.brought .tcModeSet tag)) :=
  request_of_passed (owner := tcModeSetOwner .malformed) (a := badArgument _) h rfl rfl

/-- With a clip in hand the modes are refused. -/
theorem exec_tcModeSet_recording {tag : Byte} {s : State} (h : Passed .tcModeSet tag s) (m : TcModeArgs)
    (hr : s.tc.recState ≠ .standby) :
    exec (.tcModeSet tag (.given m)) s =
      .next (answered .tcModeSet tag .refused .recording .none (s.brought .tcModeSet tag)) := by
  have ho : tcModeSetOwner (.given m) (s.brought .tcModeSet tag) = refuse .recording (s.brought .tcModeSet tag) :=
    if_pos hr
  exact request_of_passed h ho rfl

/-- In STANDBY of the record state the rate and the run mode are replaced, and the label is brought to the rate. -/
theorem exec_tcModeSet_standby {tag : Byte} {s : State} (h : Passed .tcModeSet tag s) {r : Rate} (m : RunMode) {l' : Label}
    (hr : s.tc.recState = .standby) (hc : labelToRate r s.tc.label = l') :
    exec (.tcModeSet tag (.given ⟨r, m⟩)) s =
      .next (answered .tcModeSet tag (if l' = s.tc.label then .ok else .clamped) .none .none
        { s.brought .tcModeSet tag with tc.rate := r, tc.runMode := m, tc.label := l' }) := by
  have ho : tcModeSetOwner (.given ⟨r, m⟩) (s.brought .tcModeSet tag) =
      ⟨{ s.brought .tcModeSet tag with tc.rate := r, tc.runMode := m, tc.label := l' },
        if l' = s.tc.label then .ok else .clamped, .none, .none, false⟩ := by
    simp [tcModeSetOwner, withArgs, hr, hc, okClamped_label_ne]
  exact request_of_passed h ho rfl

/-- A label that stands at the new rate is kept. -/
theorem exec_tcModeSet_kept {tag : Byte} {s : State} (h : Passed .tcModeSet tag s) {r : Rate} (m : RunMode)
    (hr : s.tc.recState = .standby) (hc : labelToRate r s.tc.label = s.tc.label) :
    exec (.tcModeSet tag (.given ⟨r, m⟩)) s = .next (answered .tcModeSet tag .ok .none .none
      { s.brought .tcModeSet tag with tc.rate := r, tc.runMode := m }) := by
  simpa using exec_tcModeSet_standby h m hr hc

/-- A label that the new rate changes is answered CLAMPED. -/
theorem exec_tcModeSet_clamped {tag : Byte} {s : State} (h : Passed .tcModeSet tag s) {r : Rate} (m : RunMode) {l' : Label}
    (hr : s.tc.recState = .standby) (hc : labelToRate r s.tc.label = l') (hne : l' ≠ s.tc.label) :
    exec (.tcModeSet tag (.given ⟨r, m⟩)) s = .next (answered .tcModeSet tag .clamped .none .none
      { s.brought .tcModeSet tag with tc.rate := r, tc.runMode := m, tc.label := l' }) := by
  simpa [hne] using exec_tcModeSet_standby h m hr hc

/-! ## USERBITS_SET and the record that takes the bits -/

/-- The user bits are replaced in every record state. -/
theorem exec_userbitsSet_given {tag : Byte} {s : State} (h : Passed .userbitsSet tag s) (b : BitVec 32) :
    exec (.userbitsSet tag (.given b)) s = .next (answered .userbitsSet tag .ok .none .none
      { s.brought .userbitsSet tag with tc.userBits := b }) :=
  request_of_passed (owner := userbitsSetOwner (.given b)) (a := ok _) h rfl rfl

/-- A payload of another length than 32 bits is answered BAD_ARGUMENT. -/
theorem exec_userbitsSet_malformed {tag : Byte} {s : State} (h : Passed .userbitsSet tag s) :
    exec (.userbitsSet tag .malformed) s =
      .next (answered .userbitsSet tag .badArgument .none .none (s.brought .userbitsSet tag)) :=
  request_of_passed (owner := userbitsSetOwner .malformed) (a := badArgument _) h rfl rfl

/-- The answer to a request and the end of the step leave the clip log alone. -/
theorem answered_log (k : Kind) (tag : Byte) (result : Result) (reason : Reason) (body : Body) (u : State) :
    (answered k tag result reason body u).log = u.log := by
  simp [answered, settle]

/-- A clip that begins opens its record at the head of the log; the tests that follow leave the log alone. -/
theorem State.beginClip_log (n : Nat) (s : State) :
    (s.beginClip n).log = s.log.insert (s.log.newRecord n s.tc.stamp s.tc.userBits s.lens.zoom.snapshot
      s.lens.focus.snapshot s.recorder.startSet) := by
  simp [State.beginClip]

/-- REC_CONFIRM of the number reserved begins the clip. -/
theorem exec_recConfirm_starting {tag : Byte} {s : State} {n : Nat} (h : Passed .recConfirm tag s)
    (hn : clipNumberLegal n = true) (hs : s.recorder.state = .starting) (hc : s.recorder.clip = some n) :
    exec (.recConfirm tag (.given n)) s = .next (answered .recConfirm tag .ok .none
      (.confirmed s.tc.stamp s.recorder.startSet) ((s.brought .recConfirm tag).beginClip n)) := by
  have ho : recConfirmOwner (.given n) (s.brought .recConfirm tag) =
      okWith (.confirmed s.tc.stamp s.recorder.startSet) ((s.brought .recConfirm tag).beginClip n) := by
    simp [recConfirmOwner, withArgs, hn, hs, hc]
  exact request_of_passed h ho rfl

/-- The record that REC_CONFIRM opens takes the user bits in force (R94, R97). -/
theorem exec_recConfirm_userBits {tag : Byte} {s : State} {n : Nat} (h : Passed .recConfirm tag s)
    (hn : clipNumberLegal n = true) (hs : s.recorder.state = .starting) (hc : s.recorder.clip = some n) :
    ∃ u r rest, exec (.recConfirm tag (.given n)) s = .next u ∧ u.log.records = r :: rest ∧
      r.userBits = s.tc.userBits :=
  have hl := (answered_log _ _ _ _ _ _).trans (State.beginClip_log n (s.brought .recConfirm tag))
  ⟨_, _, _, exec_recConfirm_starting h hn hs hc, congrArg ClipLog.records hl, rfl⟩

/-! ## The obligation -/

/-- Settles O37: each request by the branch of its owner that the hypotheses name, and the label by its correction. -/
theorem timecodeRequestsLeaveAValidLabel : Obligations.TimecodeRequestsLeaveAValidLabel := by
  intro tag s
  refine ⟨fun hp => ⟨fun ht _ => request_of_shutdown ht hp (by decide), fun ht _ => request_of_shutdown ht hp (by decide)⟩,
    exec_tcSet_malformed,
    fun h => ⟨exec_tcModeSet_malformed h, fun m hr hv => exec_tcModeSet_kept h m hr (labelToRate_of_validLabel hv)⟩,
    fun n h h1 h2 => exec_recConfirm_userBits h (decide_eq_true ⟨h1, h2⟩),
    fun h l => ⟨fun hl => exec_tcSet_illegal h ((labelLegal_eq_false_iff _ l).2 hl), fun hh hm hs hf => ?tcSetLegal⟩,
    fun h r m => ⟨exec_tcModeSet_recording h ⟨r, m⟩, fun hr => ⟨?counted, ?uncounted, ?dropped⟩⟩,
    fun h b => ⟨exec_userbitsSet_given h b, exec_userbitsSet_malformed h⟩⟩
  case tcSetLegal =>
    have hl := (labelLegal_eq_true_iff s.tc.rate l).2 ⟨hh, hm, hs, hf⟩
    exact ⟨exec_tcSet_recording h hl, exec_tcSet_dropped h hl,
      fun hr hv => exec_tcSet_valid h hl hr (hv.imp_right (isDropped_eq_false_iff l).2)⟩
  case counted =>
    intro hf hv
    exact exec_tcModeSet_kept h m hr ((labelToRate_of_counted hf).trans (correctDropped_of_valid hv))
  case uncounted =>
    intro hf
    exact exec_tcModeSet_clamped h m hr (labelToRate_of_uncounted hf) (last_frame_ne_of_uncounted hf)
  case dropped =>
    rintro hf rfl hd
    exact exec_tcModeSet_clamped h m hr ((labelToRate_of_counted hf).trans (correctDropped_of_dropped hd))
      (frames_two_ne_of_dropped hd)

end Sys2Proof.Machine

/-! The invariants, said once for every piece of work that a command is made of. `Kept` lists what a piece of work keeps of the blocks,
`Keeps` adds what depends on the power state, which is broken inside `State.setPower` alone. -/

namespace Sys2Proof.Machine

/-! ## What a piece of work keeps -/

/-- The commands besides a power-on reset that R85 lets move the label. -/
def MovesLabel (i : Instr) : Prop :=
  i = .fsyncEdge ∨ i = .internalFrameTimerExpiry ∨ (∃ tag a, i = .tcSet tag a) ∨ ∃ tag a, i = .tcModeSet tag a

/-- The two timers of the frame reference (R90, R91). -/
def ReferenceTimers (s : State) : Prop := s.tc.watch.isSome = s.tc.present ∧ s.tc.frameTimer.isSome = !s.tc.present

/-- In RUN and SHUTDOWN the reported reference state is the present one (R93). -/
def ReportedInForce (s : State) : Prop :=
  s.supply.power = .run ∨ s.supply.power = .shutdown → s.tc.reported = s.tc.present

/-- `ClipInv` without the recorder's copy of the power state. -/
def ClipCore (s : State) : Prop :=
  LogInv s ∧ (s.tc.recState = s.recorder.state ∧ s.supply.recState = s.recorder.state ∧
    s.recorder.supplyState = s.supply.state ∧ (s.recorder.confirmTimer.isSome = true ↔ s.recorder.state = .starting) ∧
    (s.recorder.accountTimer.isSome = true ↔ s.recorder.state = .recording) ∧
    (s.recorder.closeTimer.isSome = true ↔ s.recorder.state = .stopping) ∧
    (s.recorder.state = .starting → s.recorder.startSet.isEmpty = false) ∧
    (s.recorder.state = .stopping → s.recorder.endLabel.isSome = true)) ∧ SupplyInv s

/-- The recorder's copy of the power state (R126). -/
def RecorderPower (s : State) : Prop := s.recorder.power = s.supply.power

/-- The stabiliser's copy of the power state (R67). -/
def RunCopy (s : State) : Prop := s.stab.cond.run = decide (s.supply.power = .run)

/-- A stabiliser that is ACTIVE only under its conditions and centred out of ACTIVE (R67, R68). -/
def Stabiliser.sound (t : Stabiliser) : Prop :=
  (t.isActive = true → t.setting = true ∧ t.cond.run = true ∧ t.cond.zoomHomed = true ∧
    t.cond.gyroEnabled = true ∧ t.cond.gyroValid = true) ∧
  (t.isActive = false → t.yaw.idle = true ∧ t.pitch.idle = true ∧ t.missedRun = 0 ∧ t.railRun = 0 ∧ t.panExit = 0)

/-- `StabInv` without the copy of the power state. -/
def StabCore (s : State) : Prop :=
  s.stab.cond.zoomHomed = decide (s.lens.zoom.homing = .homed) ∧
    s.stab.cond.gyroEnabled = (s.conv.enables.get 0 && s.conv.enables.get 1) ∧ s.stab.sound

/-- What a piece of the work of command `i` keeps of the blocks, whatever the power state does. -/
structure Kept (i : Instr) (s t : State) : Prop where
  pending : t.pending = s.pending
  clock : s.clock ≤ t.clock
  label : LabelInv s → LabelInv t
  labelMove : t.tc.label ≠ s.tc.label → MovesLabel i
  pwrHold : t.supply.pwrHold = s.supply.pwrHold ∨ i = .pwrHoldRelease ∧ t.supply.pwrHold = false
  timers : ReferenceTimers s → ReferenceTimers t
  queues : QueueInv s → QueueInv t
  clips : ClipCore s → ClipCore t
  gains : GainInv s → GainInv t
  fields : FieldsInv s → FieldsInv t
  menu : MenuInv s → MenuInv t
  stab : StabCore s → StabCore t
  presets : PresetInv s → PresetInv t
  duties : DutyInv s → DutyInv t
  converter : ConverterInv s → ConverterInv t

/-- What a piece of the work of command `i` keeps, the copies of the power state among it, until the reference is reported. -/
structure KeepsPower (i : Instr) (s t : State) : Prop extends Kept i s t where
  power : PowerInv s → PowerInv t
  recorderPower : RecorderPower s → RecorderPower t
  runCopy : RunCopy s → RunCopy t
  float : FloatInv s ∧ PowerInv s → FloatInv t

/-- What a piece of the work of command `i` keeps. -/
structure Keeps (i : Instr) (s t : State) : Prop extends KeepsPower i s t where
  reported : ReportedInForce s → ReportedInForce t

theorem Kept.refl (i : Instr) (s : State) : Kept i s s :=
  { pending := rfl, clock := le_rfl, label := id, labelMove := fun h => absurd rfl h, pwrHold := .inl rfl, timers := id,
    queues := id, clips := id, gains := id, fields := id, menu := id, stab := id, presets := id, duties := id, converter := id }

theorem Keeps.refl (i : Instr) (s : State) : Keeps i s s :=
  { Kept.refl i s with power := id, recorderPower := id, runCopy := id, reported := id, float := And.left }

theorem Kept.trans {i : Instr} {s t u : State} (h : Kept i s t) (h' : Kept i t u) : Kept i s u where
  pending := h'.pending.trans h.pending
  clock := h.clock.trans h'.clock
  label := h'.label ∘ h.label
  labelMove hne := by
    by_cases ht : t.tc.label = s.tc.label
    · exact h'.labelMove (ht ▸ hne)
    · exact h.labelMove ht
  pwrHold := by
    rcases h'.pwrHold with e | ⟨hi, e⟩
    · rw [e]; exact h.pwrHold
    · exact .inr ⟨hi, e⟩
  timers := h'.timers ∘ h.timers
  queues := h'.queues ∘ h.queues
  clips := h'.clips ∘ h.clips
  gains := h'.gains ∘ h.gains
  fields := h'.fields ∘ h.fields
  menu := h'.menu ∘ h.menu
  stab := h'.stab ∘ h.stab
  presets := h'.presets ∘ h.presets
  duties := h'.duties ∘ h.duties
  converter := h'.converter ∘ h.converter

theorem KeepsPower.trans {i : Instr} {s t u : State} (h : KeepsPower i s t) (h' : KeepsPower i t u) : KeepsPower i s u :=
  { h.toKept.trans h'.toKept with
    power := h'.power ∘ h.power, recorderPower := h'.recorderPower ∘ h.recorderPower, runCopy := h'.runCopy ∘ h.runCopy
    float := fun ⟨hf, hp⟩ => h'.float ⟨h.float ⟨hf, hp⟩, h.power hp⟩ }

theorem Keeps.trans {i : Instr} {s t u : State} (h : Keeps i s t) (h' : Keeps i t u) : Keeps i s u :=
  { h.toKeepsPower.trans h'.toKeepsPower with reported := h'.reported ∘ h.reported }

/-- A choice between two pieces of work. -/
theorem Keeps.ite {i : Instr} {s t u : State} {c : Prop} [Decidable c] (ht : c → Keeps i s t) (hu : ¬c → Keeps i s u) :
    Keeps i s (if c then t else u) := by
  split
  · next h => exact ht h
  · next h => exact hu h

/-! ## A change of one block -/

section blocks
variable {i : Instr} {s : State}

theorem Keeps.pins (p : Pins) : Keeps i s { s with pins := p } := { Keeps.refl i s with }

theorem Keeps.atTime (t : Nat) : Keeps i s (s.atTime t) := { Keeps.refl i s with clock := Nat.le_max_left _ _ }

theorem Keeps.controls {c : Controls} (h : s.controls.tokens.length ≤ 16 → c.tokens.length ≤ 16) :
    Keeps i s { s with controls := c } :=
  { Keeps.refl i s with queues := fun ⟨h1, h2, h3, h4⟩ => ⟨h1, h2, h3, h h4⟩ }

/-- The capacities of the port's queues (R193, R195, R198). -/
def Port.fits (p : Port) : Prop := p.queue.length ≤ 4 ∧ p.overruns ≤ 4 ∧ p.notices.length ≤ 32

theorem Keeps.port {p : Port} (h : s.port.fits → p.fits) : Keeps i s { s with port := p } :=
  { Keeps.refl i s with
    queues := fun ⟨h1, h2, h3, h4⟩ => let ⟨g1, g2, g3⟩ := h ⟨h1, h2, h3⟩; ⟨g1, g2, g3, h4⟩ }

theorem Keeps.audio {a : Audio} (hp : a.power = s.audio.power) (h : GainInv s → GainInv { s with audio := a }) :
    Keeps i s { s with audio := a } :=
  { Keeps.refl i s with
    gains := h, power := fun ⟨h1, h2, h3⟩ => ⟨h1, hp.trans h2, h3⟩
    float := fun ⟨hf, _⟩ => hf }

theorem Keeps.ovl {o : Overlay} (hp : o.power = s.ovl.power) (hf : FieldsInv s → FieldsInv { s with ovl := o })
    (hm : MenuInv s → MenuInv { s with ovl := o }) : Keeps i s { s with ovl := o } :=
  { Keeps.refl i s with
    fields := hf, menu := hm, power := fun ⟨h1, h2, h3, h4⟩ => ⟨h1, h2, hp.trans h3, h4⟩ }

theorem Keeps.converter' {c : Converter} (he : c.enables = s.conv.enables)
    (h : ConverterInv s → ConverterInv { s with conv := c }) : Keeps i s { s with conv := c } :=
  { Keeps.refl i s with
    converter := h
    stab := fun ⟨h1, h2, h3⟩ => ⟨h1, h2.trans (by rw [he]), h3⟩ }

theorem Keeps.lens {l : Lens} (hh : l.zoom.homing = .homed ↔ s.lens.zoom.homing = .homed) (hf : l.floating = s.lens.floating)
    (hp : PresetInv s → PresetInv { s with lens := l }) (hd : DutyInv s → DutyInv { s with lens := l }) :
    Keeps i s { s with lens := l } :=
  { Keeps.refl i s with
    presets := hp, duties := hd
    stab := fun ⟨h1, h2, h3⟩ => ⟨h1.trans (decide_eq_decide.2 hh.symm), h2, h3⟩
    float := fun ⟨⟨h1, h2⟩, _⟩ => ⟨fun h => hf.trans (h1 h), fun h => hf.trans (h2 h)⟩ }

theorem Keeps.stabiliser {t : Stabiliser} (hc : t.cond.run = s.stab.cond.run) (hz : t.cond.zoomHomed = s.stab.cond.zoomHomed)
    (he : t.cond.gyroEnabled = s.stab.cond.gyroEnabled) (h : s.stab.sound → t.sound) : Keeps i s { s with stab := t } :=
  { Keeps.refl i s with
    stab := fun ⟨h1, h2, h3⟩ => ⟨hz.trans h1, he.trans h2, h h3⟩
    runCopy := fun h => hc.trans h }

theorem Keeps.supply {p : Supply} (hp : p.power = s.supply.power) (he : p.exit = s.supply.exit)
    (hs : p.shutdown = s.supply.shutdown) (hh : p.pwrHold = s.supply.pwrHold) (hr : p.recState = s.supply.recState)
    (hst : p.state = s.supply.state) : Keeps i s { s with supply := p } :=
  { Keeps.refl i s with
    pwrHold := .inl hh
    clips := by simp only [ClipCore, LogInv, SupplyInv, hr, hst]; exact id
    power := by simp only [PowerInv, hp, he, hs, hh]; exact id
    recorderPower := by simp only [RecorderPower, hp]; exact id
    runCopy := by simp only [RunCopy, hp]; exact id
    reported := by simp only [ReportedInForce, hp]; exact id
    float := by simp only [FloatInv, hp]; exact And.left }

/-- A change of the recorder and the clip log, and of the copies of the record state. -/
theorem Keeps.clip {r : Recorder} {l : ClipLog} {a b : RecState} (hp : r.power = s.recorder.power)
    (h : ClipCore s → ClipCore { s with recorder := r, log := l, tc.recState := a, supply.recState := b }) :
    Keeps i s { s with recorder := r, log := l, tc.recState := a, supply.recState := b } :=
  { Keeps.refl i s with
    clips := h, power := fun ⟨h1, h2⟩ => ⟨hp.trans h1, h2⟩
    recorderPower := hp.trans }

/-- A change of the timecode generator that leaves its reference and its copy of the record state. -/
theorem Keeps.timecode {t : Timecode} (hw : t.watch = s.tc.watch) (hf : t.frameTimer = s.tc.frameTimer)
    (hp : t.present = s.tc.present) (hr : t.reported = s.tc.reported) (hc : t.recState = s.tc.recState)
    (hl : LabelInv s → LabelInv { s with tc := t }) (hm : t.label ≠ s.tc.label → MovesLabel i) :
    Keeps i s { s with tc := t } :=
  { Keeps.refl i s with
    label := hl, labelMove := hm
    timers := by simp only [ReferenceTimers, hw, hf, hp]; exact id
    clips := by simp only [ClipCore, LogInv, SupplyInv, hc]; exact id
    reported := by simp only [ReportedInForce, hr, hp]; exact id }

end blocks

end Sys2Proof.Machine

/-! What the shared operations, the overlay, the timecode generator, the stabiliser and the audio level unit keep. -/

namespace Sys2Proof.Machine

section shared
variable {i : Instr} (s : State)

/-! ## Notices, warnings and beeps -/

theorem Port.overruns_eq_of {p q : Port} (hr : q.replies = p.replies) (ht : q.tx = p.tx) : q.overruns = p.overruns := by
  simp [Port.overruns, hr, ht]

theorem Port.post_fits {p : Port} (n : Notice) (h : p.fits) : (p.post n).fits := by
  obtain ⟨h1, h2, h3⟩ := h
  unfold Port.post
  split
  · next hn => exact ⟨h1, h2, by simp only [List.length_append, List.length_singleton]; omega⟩
  · exact ⟨h1, h2, h3⟩

theorem State.post_keeps (n : Notice) : Keeps i s (s.post n) := Keeps.port (Port.post_fits n)

/-- A change of the warning set alone. -/
theorem Keeps.warnings (w : Warnings) : Keeps i s { s with ovl.warnings := w } := Keeps.ovl rfl id id

theorem State.setWarned_keeps (k : WarnKind) (w : Warned) : Keeps i s (s.setWarned k w) := Keeps.warnings s _

theorem State.condition_keeps (k : WarnKind) (b : Bool) : Keeps i s (s.condition k b) := State.setWarned_keeps s _ _

theorem State.warn_keeps (k : WarnKind) : Keeps i s (s.warn k) := State.setWarned_keeps s _ _

/-- A change of the control scanner that leaves its token queue. -/
theorem Keeps.scanner {c : Controls} (h : c.tokens = s.controls.tokens) : Keeps i s { s with controls := c } :=
  Keeps.controls (by rw [h]; exact id)

theorem State.beep_keeps (p : Pattern) : Keeps i s (s.beep p) := .ite (fun _ => Keeps.scanner s rfl) fun _ => .refl _ _

/-! ## The overlay generator -/

/-- A change of the overlay that leaves the live-field table, the menu mode, the displayed and the saved page. -/
theorem Keeps.overlay {o : Overlay} (hp : o.power = s.ovl.power) (hf : o.fields = s.ovl.fields) (hm : o.menu = s.ovl.menu)
    (hd : o.displayed = s.ovl.displayed) (hs : o.saved = s.ovl.saved) : Keeps i s { s with ovl := o } :=
  Keeps.ovl hp (by simp only [FieldsInv, hf]; exact id) (by simp only [MenuInv, hm, hd, hs]; exact id)

theorem publish_keeps_invariants : Keeps i s (publish s) := by
  obtain ⟨ho, -, hk⟩ := publish_keeps s
  have he : ∀ k, ((publish s).ovl.fields.entry k).enable = (s.ovl.fields.entry k).enable ∧
      ((publish s).ovl.fields.entry k).page = (s.ovl.fields.entry k).page ∧
      ((publish s).ovl.fields.entry k).row = (s.ovl.fields.entry k).row ∧
      ((publish s).ovl.fields.entry k).column = (s.ovl.fields.entry k).column := fun k => by rw [hk k]; exact ⟨rfl, rfl, rfl, rfl⟩
  have hp : publish s = { s with ovl := (publish s).ovl } := rfl
  rw [hp]
  refine Keeps.ovl (by rw [ho]) (fun ⟨h1, h2⟩ => ⟨fun k k' hne hk hk' => ?_, fun k hk => ?_⟩) (by simp only [MenuInv]; rw [ho]; exact id)
  · simp only [(he k).1, (he k').1] at hk hk'
    simpa only [overlaps, he] using h1 k k' hne hk hk'
  · simp only [(he k).1] at hk
    simpa only [he] using h2 k hk

theorem Overlay.beginRows_stands (o : Overlay) (rows : List (Fin 16)) :
    (o.beginRows rows).power = o.power ∧ (o.beginRows rows).fields = o.fields ∧ (o.beginRows rows).menu = o.menu ∧
      (o.beginRows rows).displayed = o.displayed ∧ (o.beginRows rows).saved = o.saved := by
  cases rows <;> exact ⟨rfl, rfl, rfl, rfl, rfl⟩

theorem Overlay.frameEvent_stands (o : Overlay) :
    o.frameEvent.power = o.power ∧ o.frameEvent.fields = o.fields ∧ o.frameEvent.menu = o.menu ∧
      o.frameEvent.displayed = o.displayed ∧ o.frameEvent.saved = o.saved := by
  unfold Overlay.frameEvent
  split
  · exact o.beginRows_stands _
  · exact ⟨rfl, rfl, rfl, rfl, rfl⟩

theorem Keeps.beginRows (rows : List (Fin 16)) : Keeps i s { s with ovl := s.ovl.beginRows rows } :=
  let ⟨h1, h2, h3, h4, h5⟩ := s.ovl.beginRows_stands rows
  Keeps.overlay s h1 h2 h3 h4 h5

theorem Keeps.setVfPresent (b : Bool) : Keeps i s { s with ovl := s.ovl.setVfPresent b } := by
  unfold Overlay.setVfPresent
  split
  · exact Keeps.refl _ _
  · split <;> exact Keeps.overlay s rfl rfl rfl rfl rfl

theorem Keeps.setCells (page : Fin 4) (cells : Fin 16 → Fin 40 → Cell) : Keeps i s { s with ovl := s.ovl.setCells page cells } :=
  Keeps.overlay s rfl rfl rfl rfl rfl

theorem Keeps.setCursor (page : Fin 4) (cur : Cursor) : Keeps i s { s with ovl := s.ovl.setCursor page cur } := by
  unfold Overlay.setCursor
  dsimp only
  split
  · exact Keeps.refl _ _
  · exact Keeps.overlay s rfl rfl rfl rfl rfl

theorem Overlay.display_stands (o : Overlay) (page : Fin 4) :
    (o.display page).power = o.power ∧ (o.display page).fields = o.fields ∧ (o.display page).menu = o.menu ∧
      (o.display page).saved = o.saved ∧ (o.display page).displayed = page := by
  unfold Overlay.display
  split
  · next h => exact ⟨rfl, rfl, rfl, rfl, h.symm⟩
  · exact ⟨rfl, rfl, rfl, rfl, rfl⟩

theorem Keeps.display (page : Fin 4) (hm : s.ovl.menu = false) : Keeps i s { s with ovl := s.ovl.display page } := by
  obtain ⟨h1, h2, h3, h4, -⟩ := s.ovl.display_stands page
  refine Keeps.ovl h1 (by simp only [FieldsInv, h2]; exact id) fun ⟨_, hn⟩ => ?_
  exact ⟨fun h => absurd (hm.symm.trans (h3.symm.trans h)) (by decide), fun _ => h4.trans (hn hm)⟩

theorem Overlay.setMenu_stands (o : Overlay) (b : Bool) :
    (o.setMenu b).power = o.power ∧ (o.setMenu b).fields = o.fields := by
  unfold Overlay.setMenu
  split
  · exact ⟨rfl, rfl⟩
  · split
    · exact ⟨(o.display_stands 3).1, (o.display_stands 3).2.1⟩
    · exact ⟨(o.display_stands _).1, (o.display_stands _).2.1⟩

theorem Keeps.setMenu (b : Bool) : Keeps i s { s with ovl := s.ovl.setMenu b } := by
  obtain ⟨h1, h2⟩ := s.ovl.setMenu_stands b
  refine Keeps.ovl h1 (by simp only [FieldsInv, h2]; exact id) fun hm => ?_
  unfold Overlay.setMenu
  split
  · exact hm
  · split
    · exact ⟨fun _ => ⟨(s.ovl.display_stands 3).2.2.2.2, rfl⟩, fun h => absurd h (by simp)⟩
    · exact ⟨fun h => absurd h (by simp), fun _ => rfl⟩

theorem State.menuToggle_keeps : Keeps i s s.menuToggle := (Keeps.setMenu s _).trans (State.post_keeps _ _)

theorem overlaps_comm (k k' : FieldKind) (e e' : LiveField) : overlaps k e k' e' = overlaps k' e' k e := by
  simp only [overlaps, decide_eq_decide]
  constructor <;> exact fun ⟨h1, h2, h3, h4⟩ => ⟨h1.symm, h2.symm, h4, h3⟩

theorem Overlay.setField_stands (o : Overlay) (k : FieldKind) (e : LiveField) :
    (o.setField k e).power = o.power ∧ (o.setField k e).menu = o.menu ∧ (o.setField k e).displayed = o.displayed ∧
      (o.setField k e).saved = o.saved ∧ (o.setField k e).fields = o.fields.setEntry e k := by
  have mark : ∀ (b : Overlay) (p : Fin 4) (r : Fin 16) (x : Overlay), (Overlay.markRowChanged b p r x).power = x.power ∧
      (Overlay.markRowChanged b p r x).menu = x.menu ∧ (Overlay.markRowChanged b p r x).displayed = x.displayed ∧
      (Overlay.markRowChanged b p r x).saved = x.saved ∧ (Overlay.markRowChanged b p r x).fields = x.fields := by
    intro b p r x
    unfold Overlay.markRowChanged
    split <;> exact ⟨rfl, rfl, rfl, rfl, rfl⟩
  unfold Overlay.setField
  dsimp only
  split
  · exact ⟨rfl, rfl, rfl, rfl, rfl⟩
  · simp only [mark, and_self]

/-- An entry that lies within its row and clashes with no other enabled one (R163). -/
theorem Keeps.setField (k : FieldKind) (e : LiveField) (hw : e.enable = true → e.column.val + fieldWidth k ≤ 40)
    (hc : e.enable = true → s.ovl.fields.clash k e = false) : Keeps i s { s with ovl := s.ovl.setField k e } := by
  obtain ⟨h1, h2, h3, h4, h5⟩ := s.ovl.setField_stands k e
  have free : e.enable = true → ∀ k', k' ≠ k → (s.ovl.fields.entry k').enable = true →
      overlaps k e k' (s.ovl.fields.entry k') = false := by
    intro he k' hne hk'
    have h := hc he
    simp only [Fields.clash, List.any_eq_false, decide_eq_true_eq, not_and, Bool.not_eq_true] at h
    exact h k' (mem_allFields k') hne hk'
  refine Keeps.ovl h1 (fun ⟨hf, hr⟩ => ?_) (by simp only [MenuInv, h2, h3, h4]; exact id)
  simp only [FieldsInv, h5, Fields.entry_setEntry]
  refine ⟨fun a b hne ha hb => ?_, fun a ha => ?_⟩
  · by_cases ea : a = k <;> by_cases eb : b = k
    · exact absurd (ea.trans eb.symm) hne
    · simp only [ea, eb, if_true, if_false] at ha hb ⊢
      exact free ha b eb hb
    · simp only [ea, eb, if_true, if_false] at ha hb ⊢
      rw [overlaps_comm]
      exact free hb a ea ha
    · simp only [ea, eb, if_false] at ha hb ⊢
      exact hf a b hne ha hb
  · by_cases ea : a = k
    · simp only [ea, if_true] at ha ⊢
      exact hw ha
    · simp only [ea, if_false] at ha ⊢
      exact hr a ha

/-! ## The timecode generator -/

theorem validLabel_eq_true_iff (r : Rate) (l : Label) : validLabel r l = true ↔
    l.hours < 24 ∧ l.minutes < 60 ∧ l.seconds < 60 ∧ l.frames < countedRate r ∧ ¬(r = .r30df ∧ isDropped l = true) := by
  simp only [validLabel, decide_eq_true_eq]

/-- A legal label is valid once a dropped one is corrected (R85, R87, R95). -/
theorem validLabel_correctDropped {r : Rate} {l : Label} (h : labelLegal r l = true) : validLabel r (correctDropped r l) = true := by
  rw [labelLegal_eq_true_iff] at h
  obtain ⟨hh, hm, hs, hf⟩ := h
  rw [validLabel_eq_true_iff]
  by_cases hd : r = .r30df ∧ isDropped l = true
  · have e : correctDropped r l = { l with frames := 2 } := if_pos hd
    rw [e]
    exact ⟨hh, hm, hs, two_lt_countedRate r, fun ⟨_, h⟩ => absurd ((isDropped_eq_true_iff _).1 h).2.1 (by simp)⟩
  · have e : correctDropped r l = l := if_neg hd
    rw [e]
    exact ⟨hh, hm, hs, hf, hd⟩

/-- One frame onward from a valid label is a valid label (R86, R87). -/
theorem validLabel_advanceLabel {r : Rate} {l : Label} (h : validLabel r l = true) : validLabel r (advanceLabel r l).1 = true := by
  have hc : 0 < countedRate r := Nat.lt_trans (by decide) (two_lt_countedRate r)
  rw [validLabel_eq_true_iff] at h
  obtain ⟨hh, hm, hs, hf, hd⟩ := h
  unfold advanceLabel
  split
  · next hn =>
    rw [validLabel_eq_true_iff]
    refine ⟨hh, hm, hs, hn, fun ⟨hr, hx⟩ => hd ⟨hr, ?_⟩⟩
    rw [isDropped_eq_true_iff] at hx ⊢
    exact ⟨hx.1, by have := hx.2.1; simp only at this; omega, hx.2.2⟩
  · split
    · exact validLabel_correctDropped ((labelLegal_eq_true_iff _ _).2 ⟨hh, hm, ‹_›, hc⟩)
    · split
      · exact validLabel_correctDropped ((labelLegal_eq_true_iff _ _).2 ⟨hh, ‹_›, Nat.succ_pos _, hc⟩)
      · split
        · exact validLabel_correctDropped ((labelLegal_eq_true_iff _ _).2 ⟨‹_›, Nat.succ_pos _, Nat.succ_pos _, hc⟩)
        · exact (validLabel_eq_true_iff _ _).2
            ⟨by decide, by decide, by decide, hc, fun ⟨_, hx⟩ => absurd ((isDropped_eq_true_iff _).1 hx).2.2 (by decide)⟩

/-- A label brought to a rate is valid there where its hours, minutes and seconds are (R96). -/
theorem validLabel_labelToRate {r r' : Rate} {l : Label} (h : validLabel r l = true) : validLabel r' (labelToRate r' l) = true := by
  have hc := two_lt_countedRate r'
  rw [validLabel_eq_true_iff] at h
  obtain ⟨hh, hm, hs, -, -⟩ := h
  exact validLabel_correctDropped ((labelLegal_eq_true_iff _ _).2 ⟨hh, hm, hs, by simp only; omega⟩)

theorem Timecode.advance_stands (t : Timecode) : t.advance.watch = t.watch ∧ t.advance.frameTimer = t.frameTimer ∧
    t.advance.present = t.present ∧ t.advance.reported = t.reported ∧ t.advance.recState = t.recState ∧
    t.advance.rate = t.rate := by
  unfold Timecode.advance
  split <;> exact ⟨rfl, rfl, rfl, rfl, rfl, rfl⟩

theorem Keeps.advance (hi : MovesLabel i) : Keeps i s { s with tc := s.tc.advance } := by
  obtain ⟨h1, h2, h3, h4, h5, h6⟩ := s.tc.advance_stands
  refine Keeps.timecode h1 h2 h3 h4 h5 (fun h => ?_) fun _ => hi
  simp only [LabelInv, h6] at h ⊢
  unfold Timecode.advance
  split
  · exact validLabel_advanceLabel h
  · exact h

/-- A change of the reference: its two timers agree with it, and it is the reported one where the power state asks for that. -/
theorem Keeps.reference {t : Timecode} (ht : t = { s.tc with
      watch := t.watch, frameTimer := t.frameTimer, present := t.present, reported := t.reported })
    (hw : ReferenceTimers s → t.watch.isSome = t.present ∧ t.frameTimer.isSome = !t.present)
    (hr : ReportedInForce s → s.supply.power = .run ∨ s.supply.power = .shutdown → t.reported = t.present) :
    Keeps i s { s with tc := t } := by
  have hl : t.label = s.tc.label := by rw [ht]
  have hrate : t.rate = s.tc.rate := by rw [ht]
  have hrec : t.recState = s.tc.recState := by rw [ht]
  exact { Keeps.refl i s with
    label := by simp only [LabelInv, hl, hrate]; exact id
    labelMove := fun h => absurd hl h
    timers := hw, reported := hr
    clips := by simp only [ClipCore, LogInv, SupplyInv, hrec]; exact id }

theorem State.reportReference_keeps : Keeps i s s.reportReference := by
  have h : Keeps i s { s with tc.reported := s.tc.present } := Keeps.reference s rfl id fun _ _ => rfl
  exact (h.trans (State.condition_keeps _ .fsyncLost (!s.tc.present))).trans (State.post_keeps _ _)

theorem State.reportDifference_keeps : Keeps i s s.reportDifference :=
  .ite (fun _ => .refl _ _) fun _ => s.reportReference_keeps

end shared

end Sys2Proof.Machine

/-! What the clip log, the frame events and the record supervisor keep. -/

namespace Sys2Proof.Machine

/-! ## The clip log -/

/-- `LogInv`, said of the log: `hand` says whether a clip is in hand. -/
def ClipLog.sound (l : ClipLog) (hand : Bool) : Prop :=
  l.records.length ≤ 64 ∧ (l.records.map (·.number)).Nodup ∧ l.records.all ClipRec.wf = true ∧
    l.records.tail.all (fun r => decide (r.state ≠ .opened)) = true ∧
    (l.records.head?.any fun r => decide (r.state = .opened)) = hand

theorem ClipRec.wf_iff (r : ClipRec) : r.wf = true ↔
    1 ≤ r.segments.length ∧ r.segments.length ≤ 4 ∧ r.marks.length ≤ 8 ∧ clipNumberLegal r.number = true ∧
      (r.endLabel.isSome = true ↔ r.state ≠ .opened) := by
  simp only [ClipRec.wf, decide_eq_true_eq]

/-- A change of each record that keeps its number, its state and its form. -/
theorem ClipLog.sound_map {l l' : ClipLog} {hand : Bool} (g : ClipRec → ClipRec) (hl : l'.records = l.records.map g)
    (hn : ∀ r, (g r).number = r.number) (hs : ∀ r, (g r).state = r.state) (hw : ∀ r ∈ l.records, r.wf = true → (g r).wf = true)
    (h : l.sound hand) : l'.sound hand := by
  obtain ⟨h1, h2, h3, h4, h5⟩ := h
  simp only [ClipLog.sound, hl, List.length_map, List.map_map, List.all_eq_true, List.mem_map, ← List.map_tail, List.head?_map,
    Option.any_map, Function.comp_def, hn, hs, forall_exists_index, and_imp, forall_apply_eq_imp_iff₂] at h3 h4 ⊢
  exact ⟨h1, h2, fun r hr => hw r hr (h3 r hr), h4, h5⟩

/-- A change of the OPEN record that keeps its number, its state and its form. -/
theorem ClipLog.sound_mapOpen {l : ClipLog} {hand : Bool} (f : ClipRec → ClipRec) (hn : ∀ r, (f r).number = r.number)
    (hs : ∀ r, (f r).state = r.state) (hw : ∀ r ∈ l.records, r.state = .opened → r.wf = true → (f r).wf = true)
    (h : l.sound hand) : (l.mapOpen f).sound hand := by
  refine ClipLog.sound_map _ rfl (fun r => ?_) (fun r => ?_) (fun r hr hwf => ?_) h
  · split
    · exact hn r
    · rfl
  · split
    · exact hs r
    · rfl
  · split
    · next ho => exact hw r hr ho hwf
    · exact hwf

/-- The close of the OPEN record leaves none (R136). -/
theorem ClipLog.sound_close {l : ClipLog} {hand : Bool} {st : ClipState} {label : Option Stamp} (hst : st ≠ .opened)
    (hl : label.isSome = true) (h : l.sound hand) : (l.close st label).sound false := by
  obtain ⟨h1, h2, h3, h4, -⟩ := h
  have hn : ∀ r : ClipRec, (if r.state = .opened then { r with state := st, endLabel := label } else r).number = r.number := by
    intro r; split <;> rfl
  have ho : ∀ r : ClipRec, (if r.state = .opened then { r with state := st, endLabel := label } else r).state ≠ .opened := by
    intro r; split
    · exact hst
    · assumption
  simp only [ClipLog.sound, ClipLog.close, ClipLog.mapOpen, List.length_map, List.map_map, List.all_eq_true, List.mem_map,
    ← List.map_tail, List.head?_map, Option.any_map, Function.comp_def, hn, ho, forall_exists_index, and_imp,
    forall_apply_eq_imp_iff₂, not_false_eq_true, decide_true, decide_false, implies_true, ne_eq] at h3 h4 ⊢
  refine ⟨h1, h2, fun r hr => ?_, trivial, by cases l.records.head? <;> rfl⟩
  have hw := h3 r hr
  split
  · rw [ClipRec.wf_iff] at hw ⊢
    obtain ⟨w1, w2, w3, w4, -⟩ := hw
    exact ⟨w1, w2, w3, w4, by simp [hl, hst]⟩
  · exact hw

/-- A well-formed OPEN record joins a log without one at the head (R134). -/
theorem ClipLog.sound_insert {l : ClipLog} {r : ClipRec} (hr : r.wf = true) (ho : r.state = .opened) (h : l.sound false) :
    (l.insert r).sound true := by
  obtain ⟨h1, h2, h3, h4, h5⟩ := h
  have hno : ∀ x ∈ l.records, x.state ≠ .opened := by
    intro x hx
    cases hrec : l.records with
    | nil => rw [hrec] at hx; cases hx
    | cons y ys =>
      rw [hrec] at hx h4 h5
      rcases List.mem_cons.1 hx with rfl | hx
      · simpa using h5
      · simpa using List.all_eq_true.1 h4 x hx
  have sub : ((l.records.filter fun x => x.number ≠ r.number).take 63).Sublist l.records :=
    (List.take_sublist _ _).trans List.filter_sublist
  refine ⟨?_, ?_, ?_, ?_, by simp [ClipLog.insert, ho]⟩
  · simp only [ClipLog.insert, List.length_cons, List.length_take]
    omega
  · simp only [ClipLog.insert, List.map_cons, List.nodup_cons]
    refine ⟨fun hm => ?_, (h2.sublist (sub.map _))⟩
    obtain ⟨x, hx, e⟩ := List.mem_map.1 hm
    have := (List.mem_filter.1 (List.mem_of_mem_take hx)).2
    simp [e] at this
  · simp only [ClipLog.insert, List.all_cons, hr, Bool.true_and, List.all_eq_true]
    exact fun x hx => List.all_eq_true.1 h3 x (sub.subset hx)
  · simp only [ClipLog.insert, List.tail_cons, List.all_eq_true, decide_eq_true_eq]
    exact fun x hx => hno x (sub.subset hx)

section log
variable {i : Instr} (s : State)

/-- A change of the clip log alone. -/
theorem Keeps.log {l : ClipLog} (h : ∀ hand, s.log.sound hand → l.sound hand) : Keeps i s { s with log := l } :=
  Keeps.clip rfl fun ⟨h1, h2, h3⟩ => ⟨h _ h1, h2, h3⟩

theorem Keeps.mapOpen (f : ClipRec → ClipRec) (hn : ∀ r, (f r).number = r.number) (hs : ∀ r, (f r).state = r.state)
    (hw : ∀ r ∈ s.log.records, r.state = .opened → r.wf = true → (f r).wf = true) :
    Keeps i s { s with log := s.log.mapOpen f } :=
  Keeps.log s fun _ => ClipLog.sound_mapOpen f hn hs hw

theorem ClipLog.segmentOutcome_sound {l : ClipLog} {hand : Bool} (sl : Slot) (o : SegOutcome) (h : l.sound hand) :
    (l.segmentOutcome sl o).sound hand :=
  ClipLog.sound_mapOpen _ (fun _ => rfl) (fun _ => rfl) (fun _ _ _ hw => by simpa [ClipRec.wf] using hw) h

theorem ClipLog.openSegments_of_mem {l : ClipLog} {hand : Bool} {r : ClipRec} (h : l.sound hand) (hr : r ∈ l.records)
    (ho : r.state = .opened) : l.openRec = some r := by
  obtain ⟨-, -, -, h4, -⟩ := h
  unfold ClipLog.openRec
  cases hrec : l.records with
  | nil => rw [hrec] at hr; cases hr
  | cons y ys =>
    rw [hrec] at hr h4
    rcases List.mem_cons.1 hr with rfl | hx
    · simp [ho]
    · exact absurd ho (by simpa using List.all_eq_true.1 h4 r hx)

theorem ClipLog.addSegment_sound {l : ClipLog} {hand : Bool} (sl : Slot) (label : Stamp) (hs : l.openSegments < 4)
    (h : l.sound hand) : (l.addSegment sl label).sound hand := by
  refine ClipLog.sound_mapOpen _ (fun _ => rfl) (fun _ => rfl) (fun r hr ho hw => ?_) h
  have hlt : r.segments.length < 4 := by
    simpa only [ClipLog.openSegments, ClipLog.openSegments_of_mem h hr ho] using hs
  rw [ClipRec.wf_iff] at hw ⊢
  obtain ⟨w1, w2, w3, w4, w5⟩ := hw
  exact ⟨by simp, by simp only [List.length_append, List.length_singleton]; omega, w3, w4, w5⟩

theorem ClipLog.setCopy_sound {l : ClipLog} {hand : Bool} (b : Bool) (ch : Channel) (h : l.sound hand) :
    (l.setCopy b ch).sound hand := by cases ch <;> exact h

theorem ClipLog.overBegins_sound {l : ClipLog} {hand : Bool} (ch : Channel) (h : l.sound hand) :
    (l.overBegins ch).sound hand :=
  ClipLog.sound_mapOpen _ (fun _ => by cases ch <;> rfl) (fun _ => by cases ch <;> rfl)
    (fun _ _ _ hw => by cases ch <;> exact hw) (ClipLog.setCopy_sound _ _ h)

theorem ClipLog.overEnds_sound {l : ClipLog} {hand : Bool} (ch : Channel) (h : l.sound hand) : (l.overEnds ch).sound hand :=
  ClipLog.setCopy_sound _ _ h

/-- A mark joins an OPEN record that has room for it (R139). -/
theorem State.appendMark_keeps {r : ClipRec} (h : s.markDecision = .ok r) : Keeps i s s.appendMark := by
  refine Keeps.clip rfl fun ⟨h1, h2, h3⟩ => ⟨ClipLog.sound_mapOpen _ (fun _ => rfl) (fun _ => rfl) (fun x hx ho hw => ?_) h1, h2, h3⟩
  have hopen := ClipLog.openSegments_of_mem h1 hx ho
  have hlt : x.marks.length < 8 := by
    unfold State.markDecision at h
    rw [hopen] at h
    revert h
    split
    · next he =>
      cases he
      split
      · next hlt => exact fun _ => hlt
      · exact fun h => nomatch h
    · exact fun h => nomatch h
  rw [ClipRec.wf_iff] at hw ⊢
  obtain ⟨w1, w2, -, w4, w5⟩ := hw
  exact ⟨w1, w2, by simp only [List.length_append, List.length_singleton]; omega, w4, w5⟩

theorem State.panelMark_keeps : Keeps i s s.panelMark := by
  unfold State.panelMark
  split
  · next h => exact (State.appendMark_keeps s h).trans (State.post_keeps _ _)
  · exact State.beep_keeps s _

theorem State.goodShot_keeps : Keeps i s s.goodShot := by
  unfold State.goodShot
  split
  · next r rs _ hr =>
    have h : Keeps i s { s with log.records := { r with goodShot := !r.goodShot } :: rs } := by
      refine Keeps.log s fun hand h => ?_
      simp only [ClipLog.sound, hr] at h ⊢
      exact h
    exact h.trans (State.post_keeps _ _)
  · exact State.beep_keeps s _

/-! ## Frame events and the reference -/

theorem State.rollover_keeps : Keeps i s s.rollover :=
  .ite (fun _ => Keeps.mapOpen s _ (fun _ => rfl) (fun _ => rfl) fun _ _ _ h => h) fun _ => .refl _ _

theorem Keeps.frameRows : Keeps i s { s with ovl := s.ovl.frameEvent } :=
  let ⟨h1, h2, h3, h4, h5⟩ := s.ovl.frameEvent_stands
  Keeps.overlay s h1 h2 h3 h4 h5

theorem State.frameEvent_keeps (hi : MovesLabel i) : Keeps i s s.frameEvent := by
  have htc : s.rollover.tc = s.tc := by simp
  have h : Keeps i s.rollover { s.rollover with tc := s.tc.advance } := htc ▸ Keeps.advance s.rollover hi
  exact ((s.rollover_keeps.trans h).trans (publish_keeps_invariants _)).trans (Keeps.frameRows _)

theorem State.edgePresent_keeps (hp : s.tc.present = true) (hi : MovesLabel i) : Keeps i s s.edgePresent := by
  have h : Keeps i s { s with tc.watch := some (s.clock + watchTime) } :=
    Keeps.reference s rfl (fun ⟨_, h2⟩ => ⟨hp.symm, h2⟩) fun h => h
  exact h.trans (State.frameEvent_keeps _ hi)

/-- A change of the reference is reported at once, or in STANDBY at the exit (R93). -/
theorem State.referenceChanged_reported : ReportedInForce s.referenceChanged := by
  unfold State.referenceChanged
  split
  · next h => exact fun hp => absurd (h ▸ hp) (by decide)
  · exact fun _ => rfl

theorem State.referenceChanged_keeps : Keeps i s s.referenceChanged :=
  .ite (fun _ => .refl _ _) fun _ => s.reportReference_keeps

/-- A change of the reference, not yet reported. -/
theorem KeepsPower.reference {t : Timecode} (ht : t = { s.tc with
      watch := t.watch, frameTimer := t.frameTimer, present := t.present })
    (hw : ReferenceTimers s → t.watch.isSome = t.present ∧ t.frameTimer.isSome = !t.present) :
    KeepsPower i s { s with tc := t } := by
  have hl : t.label = s.tc.label := by rw [ht]
  have hrate : t.rate = s.tc.rate := by rw [ht]
  have hrec : t.recState = s.tc.recState := by rw [ht]
  exact { Keeps.refl i s with
    label := by simp only [LabelInv, hl, hrate]; exact id
    labelMove := fun h => absurd hl h
    timers := hw
    clips := by simp only [ClipCore, LogInv, SupplyInv, hrec]; exact id }

theorem State.edgeLost_keeps (hi : MovesLabel i) : Keeps i s s.edgeLost := by
  have h : KeepsPower i s { s with
      tc.present := true, tc.frameTimer := none, tc.watch := some (s.clock + watchTime) } :=
    KeepsPower.reference s rfl fun _ => ⟨rfl, rfl⟩
  exact { (h.trans (State.frameEvent_keeps _ hi).toKeepsPower).trans (State.referenceChanged_keeps _).toKeepsPower with
    reported := fun _ => State.referenceChanged_reported _ }

theorem State.loseReference_keeps : Keeps i s s.loseReference := by
  have h : KeepsPower i s { s with
      tc.present := false, tc.watch := none, tc.frameTimer := some (s.clock + framePeriod s.tc.rate) } :=
    KeepsPower.reference s rfl fun _ => ⟨rfl, rfl⟩
  exact { h.trans (State.referenceChanged_keeps _).toKeepsPower with reported := fun _ => State.referenceChanged_reported _ }

theorem State.frameTimerExpiry_keeps (t : Nat) (ht : s.tc.frameTimer.isSome = true) (hi : MovesLabel i) :
    Keeps i s (s.frameTimerExpiry t) := by
  have h : Keeps i s { s with tc.frameTimer := some (t + framePeriod s.tc.rate) } :=
    Keeps.reference s rfl (fun ⟨h1, h2⟩ => ⟨h1, ht.symm.trans h2⟩) fun h => h
  exact h.trans (State.frameEvent_keeps _ hi)

end log

end Sys2Proof.Machine

/-! What the record supervisor keeps. -/

namespace Sys2Proof.Machine

section recorder
variable {i : Instr} (s : State)

/-- A recorder that leaves what the invariants read: record state, copies, windows, start set and end label. -/
def Recorder.Stands (r r' : Recorder) : Prop :=
  r'.state = r.state ∧ r'.supplyState = r.supplyState ∧ r'.power = r.power ∧ r'.confirmTimer = r.confirmTimer ∧
    r'.accountTimer.isSome = r.accountTimer.isSome ∧ r'.closeTimer = r.closeTimer ∧ r'.startSet = r.startSet ∧
    r'.endLabel = r.endLabel

theorem ClipCore.of_stands {s : State} {r : Recorder} {l : ClipLog} (h : s.recorder.Stands r)
    (hl : ∀ hand, s.log.sound hand → l.sound hand) (hc : ClipCore s) : ClipCore { s with recorder := r, log := l } := by
  obtain ⟨e1, e2, -, e4, e5, e6, e7, e8⟩ := h
  obtain ⟨h1, h2, h3⟩ := hc
  refine ⟨?_, ?_, ?_⟩
  · simp only [LogInv, e1]; exact hl _ h1
  · simp only [e1, e2, e4, e5, e6, e7, e8]; exact h2
  · simp only [SupplyInv, e1]; exact h3

theorem Keeps.recorderLog {r : Recorder} {l : ClipLog} (h : s.recorder.Stands r) (hl : ∀ hand, s.log.sound hand → l.sound hand) :
    Keeps i s { s with recorder := r, log := l } :=
  Keeps.clip h.2.2.1 (ClipCore.of_stands h hl)

theorem Keeps.recorder {r : Recorder} (h : s.recorder.Stands r) : Keeps i s { s with recorder := r } :=
  Keeps.recorderLog s h fun _ => id

/-! ## Tally, slots and their tests -/

theorem Recorder.setTally_stands (r : Recorder) (p : Tally) (now : Nat) : r.Stands (r.setTally p now) := by
  cases p <;> exact ⟨rfl, rfl, rfl, rfl, rfl, rfl, rfl, rfl⟩

theorem State.tally_keeps (p : Tally) : Keeps i s (s.tally p) := Keeps.recorder s (Recorder.setTally_stands _ _ _)

theorem Recorder.setSlot_stands (r : Recorder) (x : SlotRec) (sl : Slot) : r.Stands (r.setSlot x sl) := by
  cases sl <;> exact ⟨rfl, rfl, rfl, rfl, rfl, rfl, rfl, rfl⟩

theorem State.setSlot_keeps (sl : Slot) (r : SlotRec) : Keeps i s (s.setSlot sl r) :=
  Keeps.recorder s (Recorder.setSlot_stands _ _ _)

theorem State.setMediaLow_keeps (low : Bool) : Keeps i s (s.setMediaLow low) :=
  .ite (fun _ => .refl _ _) fun _ =>
    have h : Keeps i s { s with recorder.mediaLow := low } := Keeps.recorder s ⟨rfl, rfl, rfl, rfl, rfl, rfl, rfl, rfl⟩
    (h.trans (State.condition_keeps _ _ _)).trans (State.tally_keeps _ _)

theorem State.testWarnings_keeps : Keeps i s s.testWarnings :=
  (State.condition_keeps s _ _).trans (State.condition_keeps _ _ _)

theorem State.testSlots_keeps : Keeps i s s.testSlots :=
  s.testWarnings_keeps.trans (.ite (fun _ => State.setMediaLow_keeps _ _) fun _ => .refl _ _)

/-! ## The end of a start and of a recording -/

theorem LogInv.sound {s : State} {st : RecState} (h : LogInv s) (hs : s.recorder.state = st) : s.log.sound (clipInHand st) :=
  hs ▸ h

theorem State.failStart_keeps (reason : FailReason) (h : ClipCore s → s.recorder.state = .starting) :
    Keeps i s (s.failStart reason) := by
  have hk : Keeps i s { s.setRecState .standby with
      recorder.confirmTimer := none, recorder.startSet := SlotSet.empty, recorder.clip := none } := by
    refine Keeps.clip rfl fun hc => ?_
    have hs := h hc
    obtain ⟨h1, ⟨-, -, e3, -, e5, e6, -, -⟩, -⟩ := hc
    simp only [hs] at e5 e6
    have hl := h1.sound hs
    exact ⟨hl, ⟨rfl, rfl, e3, by simp [State.setRecState], by simpa [State.setRecState] using e5, by simpa [State.setRecState] using e6, by simp [State.setRecState], by simp [State.setRecState]⟩, fun _ => .inl rfl⟩
  exact (((hk.trans (State.tally_keeps _ _)).trans (State.post_keeps _ _)).trans (State.warn_keeps _ _)).trans (State.beep_keeps _ _)

theorem State.stopRecording_keeps (reason : EndReason) (h : ClipCore s → s.recorder.state = .recording) :
    Keeps i s (s.stopRecording reason) := by
  have hk : Keeps i s { s.setRecState .stopping with
      recorder.accountTimer := none, recorder.mediaLow := false, recorder.endLabel := some s.tc.stamp
      recorder.closeTimer := some (s.clock + closeTime) } := by
    refine Keeps.clip rfl fun hc => ?_
    have hs := h hc
    obtain ⟨h1, ⟨-, -, e3, e4, -, -, -, -⟩, -⟩ := hc
    simp only [hs] at e4
    have hl := h1.sound hs
    exact ⟨hl, ⟨rfl, rfl, e3, by simpa [State.setRecState] using e4, by simp [State.setRecState], by simp [State.setRecState], by simp [State.setRecState], by simp [State.setRecState]⟩, fun _ => .inr rfl⟩
  exact (((hk.trans (State.condition_keeps _ _ _)).trans (State.tally_keeps _ _)).trans (State.post_keeps _ _)).trans
    (State.beep_keeps _ _)

/-- A start set formed again is empty only where the start set alone changed, which a failed start empties anyway. -/
theorem State.failStart_reformed (reason : FailReason) (h : s.recorder.reformed.startSet.isEmpty = true) :
    { s with recorder := s.recorder.reformed }.failStart reason = s.failStart reason := by
  unfold Recorder.reformed at h ⊢
  dsimp only at h ⊢
  split at h
  · cases ho : otherSlot s.recorder.current <;> simp [SlotSet.only, SlotSet.put, SlotSet.isEmpty, SlotSet.empty, ho] at h
  · next hn => rw [if_neg hn]; rfl

theorem Recorder.reformed_stands (r : Recorder) : r.reformed.state = r.state ∧ r.reformed.supplyState = r.supplyState ∧
    r.reformed.power = r.power ∧ r.reformed.confirmTimer = r.confirmTimer ∧ r.reformed.accountTimer = r.accountTimer ∧
    r.reformed.closeTimer = r.closeTimer ∧ r.reformed.endLabel = r.endLabel := by
  unfold Recorder.reformed
  dsimp only
  split <;> exact ⟨rfl, rfl, rfl, rfl, rfl, rfl, rfl⟩

theorem State.reformStart_keeps (reason : FailReason) : Keeps i s (s.reformStart reason) := by
  unfold State.reformStart
  dsimp only
  split
  · next hs =>
    split
    · next he => rw [State.failStart_reformed s reason he]; exact State.failStart_keeps s reason fun _ => hs
    · next he =>
      obtain ⟨e1, e2, e3, e4, e5, e6, e7⟩ := s.recorder.reformed_stands
      refine Keeps.clip e3 fun ⟨h1, h2, h3⟩ => ⟨?_, ?_, ?_⟩
      · simp only [LogInv, e1]; exact h1
      · obtain ⟨a1, a2, a3, a4, a5, a6, -, a8⟩ := h2
        simp only [e1, e2, e4, e5, e6, e7]
        exact ⟨a1, a2, a3, a4, a5, a6, fun _ => by simpa using he, a8⟩
      · simp only [SupplyInv, e1]; exact h3
  · exact .refl _ _

theorem State.loseActive_keeps (sl : Slot) (o : SegOutcome) (reason : EndReason) : Keeps i s (s.loseActive sl o reason) := by
  have h : Keeps i s { s with log := s.log.segmentOutcome sl o } := Keeps.log s fun _ => ClipLog.segmentOutcome_sound sl o
  exact h.trans (.ite (fun hs => State.stopRecording_keeps _ _ fun _ => hs.1) fun _ => .refl _ _)

/-! ## Card lines and the host's reports -/

theorem State.insertCard_keeps (sl : Slot) : Keeps i s (s.insertCard sl) :=
  .ite (fun _ => ((State.setSlot_keeps s _ _).trans (State.post_keeps _ _)).trans (State.testSlots_keeps _))
    fun _ => State.setSlot_keeps s _ _

theorem State.removeCard_keeps (sl : Slot) : Keeps i s (s.removeCard sl) :=
  .ite (fun _ => State.setSlot_keeps s _ _) fun _ =>
    (((State.setSlot_keeps s _ _).trans (State.post_keeps _ _)).trans
      (.ite (fun _ => State.loseActive_keeps _ _ _ _) fun _ => State.reformStart_keeps _ _)).trans (State.testSlots_keeps _)

theorem State.protectCard_keeps (sl : Slot) (on : Bool) : Keeps i s (s.protectCard sl on) :=
  .ite (fun _ => ((State.setSlot_keeps s _ _).trans (State.reformStart_keeps _ _)).trans (State.testSlots_keeps _)) fun _ =>
    .ite (fun _ => (State.setSlot_keeps s _ _).trans (State.testSlots_keeps _)) fun _ => State.setSlot_keeps s _ _

theorem State.acceptLine_keeps (sl : Slot) (line : CardLine) : Keeps i s (s.acceptLine sl line) := by
  unfold State.acceptLine
  split
  · exact State.insertCard_keeps s sl
  · exact State.removeCard_keeps s sl
  · exact State.protectCard_keeps s sl _

/-! ## Starting, stopping and closing -/

theorem Recorder.startRefusal_none {r : Recorder} (h : r.startRefusal = none) :
    r.state = .standby ∧ ¬(r.supplyState = .low ∨ r.supplyState = .cutoff) ∧ r.formStartSet.isEmpty = false := by
  unfold Recorder.startRefusal at h
  split at h
  · simp at h
  · simp at h
  · simp at h
  · next hs =>
    split at h
    · simp at h
    · split at h
      · simp at h
      · split at h
        · simp at h
        · next hl =>
          split at h
          · simp at h
          · next he => exact ⟨hs, hl, by simpa using he⟩

theorem State.acceptStart_keeps (h : s.recorder.startRefusal = none) : Keeps i s s.acceptStart := by
  obtain ⟨hs, hlow, he⟩ := Recorder.startRefusal_none h
  have hk : Keeps i s { s.setRecState .starting with
      recorder.startSet := s.recorder.formStartSet, recorder.clip := some s.recorder.nextClip
      recorder.current := s.recorder.startCurrent, recorder.confirmTimer := some (s.clock + confirmTime) } := by
    refine Keeps.clip rfl fun ⟨h1, ⟨_, _, e3, _, e5, e6, _, _⟩, _⟩ => ?_
    simp only [hs] at e5 e6
    have hl := h1.sound hs
    exact ⟨hl, ⟨rfl, rfl, e3, by simp [State.setRecState], by simpa [State.setRecState] using e5, by simpa [State.setRecState] using e6, fun _ => he, by simp [State.setRecState]⟩,
      fun hx => absurd (e3 ▸ hx) hlow⟩
  exact (hk.trans (State.post_keeps _ _)).trans (State.tally_keeps _ _)

theorem ClipLog.newRecord_wf (l : ClipLog) {n : Nat} (start : Stamp) (bits : BitVec 32) (zoom focus : Option Int) {slots : SlotSet}
    (hn : clipNumberLegal n = true) (hs : slots.isEmpty = false) : (l.newRecord n start bits zoom focus slots).wf = true := by
  obtain ⟨a, b⟩ := slots
  cases a <;> cases b <;> simp_all [ClipRec.wf, ClipLog.newRecord, openingSegments, SlotSet.isEmpty]

theorem State.beginClip_keeps (n : Nat) (hn : clipNumberLegal n = true) (hs : s.recorder.state = .starting) :
    Keeps i s (s.beginClip n) := by
  have hk : Keeps i s { s.setRecState .recording with
      recorder := { (s.setRecState .recording).recorder.activate s.recorder.startSet with
        confirmTimer := none, startSet := SlotSet.empty, nextClip := nextNumber n
        accountTimer := some (s.clock + accountTime) }
      log := s.log.insert (s.log.newRecord n s.tc.stamp s.tc.userBits s.lens.zoom.snapshot s.lens.focus.snapshot
        s.recorder.startSet) } := by
    refine Keeps.clip rfl fun ⟨h1, ⟨_, _, e3, _, _, e6, e7, _⟩, h3⟩ => ?_
    simp only [hs] at e6 e7
    have hl := h1.sound hs
    refine ⟨ClipLog.sound_insert (ClipLog.newRecord_wf _ _ _ _ _ hn (e7 trivial)) rfl hl,
      ⟨rfl, rfl, e3, ?_, ?_, ?_, ?_, ?_⟩, fun hx => ?_⟩
    · simp [Recorder.activate, State.setRecState]
    · simp [Recorder.activate, State.setRecState]
    · simpa [Recorder.activate, State.setRecState] using e6
    · simp [Recorder.activate, State.setRecState]
    · simp [Recorder.activate, State.setRecState]
    · rcases h3 hx with h | h <;> rw [hs] at h <;> cases h
  exact ((hk.trans (State.tally_keeps _ _)).trans (State.beep_keeps _ _)).trans (State.testSlots_keeps _)

theorem Keeps.inhibit (t : Option Nat) : Keeps i s { s with recorder.inhibit := t } :=
  Keeps.recorder s ⟨rfl, rfl, rfl, rfl, rfl, rfl, rfl, rfl⟩

theorem State.recToggle_keeps : Keeps i s s.recToggle := by
  unfold State.recToggle
  split
  · exact .refl _ _
  · split
    · split
      · exact (State.beep_keeps s _).trans (State.warn_keeps _ _)
      · next h => exact (State.acceptStart_keeps s h).trans (Keeps.inhibit _ _)
    · exact State.beep_keeps s _
    · exact State.beep_keeps s _
    · next h => exact (State.stopRecording_keeps s _ fun _ => h).trans (Keeps.inhibit _ _)

theorem State.closeSlot_keeps (sl : Slot) (o : CloseOutcome) : Keeps i s (s.closeSlot sl o) := by
  have h : ∀ x, Keeps i s { s with log := s.log.segmentOutcome sl x } :=
    fun x => Keeps.log s fun _ => ClipLog.segmentOutcome_sound sl x
  unfold State.closeSlot
  dsimp only
  split
  · split
    · exact (h _).trans (State.setSlot_keeps _ _ _)
    · exact (h _).trans (State.setSlot_keeps _ _ _)
    · exact (h _).trans (State.setSlot_keeps _ _ _)
  · exact .refl _ _

theorem State.abandonSlot_keeps (sl : Slot) : Keeps i s (s.abandonSlot sl) :=
  .ite (fun _ => State.setSlot_keeps s _ _) fun _ => .refl _ _

theorem State.endClip_keeps (st : ClipState) (hst : st ≠ .opened) (h : ClipCore s → s.recorder.state = .stopping) :
    Keeps i s (s.endClip st) := by
  have hk : Keeps i s { { s with log := s.log.close st s.recorder.endLabel }.setRecState .standby with
      recorder.closeTimer := none, recorder.clip := none, recorder.endLabel := none } := by
    refine Keeps.clip rfl fun hc => ?_
    have hs := h hc
    obtain ⟨h1, ⟨-, -, e3, e4, e5, -, -, e8⟩, -⟩ := hc
    simp only [hs] at e4 e5
    have hl := h1.sound hs
    exact ⟨ClipLog.sound_close hst (e8 hs) hl,
      ⟨rfl, rfl, e3, by simpa [State.setRecState] using e4, by simpa [State.setRecState] using e5, by simp [State.setRecState], by simp [State.setRecState], by simp [State.setRecState]⟩, fun _ => .inl rfl⟩
  exact hk.trans (State.testSlots_keeps _)

/-! ## Accounting -/

theorem State.relay_keeps (source : Slot) (h : s.relays source = true) : Keeps i s (s.relay source) := by
  have hseg : s.log.openSegments < 4 := by
    simp only [State.relays, State.relayTarget, decide_eq_true_eq] at h
    exact h.2.2.2.2.2
  have hopen : ∀ sl o, (s.log.segmentOutcome sl o).openSegments = s.log.openSegments := by
    intro sl o
    simp only [ClipLog.openSegments, ClipLog.openRec, ClipLog.segmentOutcome, ClipLog.mapOpen, List.find?_map]
    have e : ((fun r : ClipRec => decide (r.state = ClipState.opened)) ∘ fun r : ClipRec =>
        if r.state = .opened then { r with segments := r.segments.map fun g =>
          if g.slot = sl ∧ g.outcome = .inProgress then { g with outcome := o } else g } else r) =
        fun r => decide (r.state = .opened) := by
      funext r
      simp only [Function.comp]
      split <;> simp_all
    rw [e]
    cases hf : s.log.records.find? fun r => decide (r.state = .opened) with
    | none => rfl
    | some r => simp only [Option.map_some]; split <;> simp
  have hr : s.recorder.Stands { (s.recorder.setSlot { s.recorder.slot source with state := .full } source).setSlot
      { s.recorder.slot (otherSlot source) with state := .active } (otherSlot source) with current := otherSlot source } := by
    cases source <;> exact ⟨rfl, rfl, rfl, rfl, rfl, rfl, rfl, rfl⟩
  exact (Keeps.recorderLog s hr fun _ hl =>
    ClipLog.addSegment_sound _ _ (by rw [hopen]; exact hseg) (ClipLog.segmentOutcome_sound _ _ hl)).trans (State.post_keeps _ _)

theorem State.relayStep_keeps : Keeps i s s.relayStep :=
  .ite (fun h => State.relay_keeps s _ h) fun _ => .ite (fun h => State.relay_keeps s _ h) fun _ => .refl _ _

theorem State.fillSlot_keeps (sl : Slot) : Keeps i s (s.fillSlot sl) := by
  have h : Keeps i s { s with log := s.log.segmentOutcome sl .full } := Keeps.log s fun _ => ClipLog.segmentOutcome_sound sl _
  exact .ite (fun _ => h.trans (State.setSlot_keeps _ _ _)) fun _ => .refl _ _

theorem State.setSlot_timers (sl : Slot) (r : SlotRec) : (s.setSlot sl r).recorder.state = s.recorder.state ∧
    (s.setSlot sl r).recorder.accountTimer = s.recorder.accountTimer ∧
    (s.setSlot sl r).recorder.closeTimer = s.recorder.closeTimer := by
  cases sl <;> exact ⟨rfl, rfl, rfl⟩

theorem State.fillSlot_accountTimer (sl : Slot) : (s.fillSlot sl).recorder.accountTimer = s.recorder.accountTimer := by
  unfold State.fillSlot
  dsimp only
  split
  · exact (State.setSlot_timers _ _ _).2.1
  · rfl

/-- While the accounting timer runs the record state is RECORDING. -/
theorem ClipCore.recording {s : State} (hc : ClipCore s) (h : s.recorder.accountTimer.isSome = true) : s.recorder.state = .recording := by
  obtain ⟨-, ⟨-, -, -, -, e, -⟩, -⟩ := hc
  exact e.1 h

theorem ClipCore.stopping {s : State} (hc : ClipCore s) (h : s.recorder.closeTimer.isSome = true) : s.recorder.state = .stopping := by
  obtain ⟨-, ⟨-, -, -, -, -, e, -⟩, -⟩ := hc
  exact e.1 h

theorem ClipCore.starting {s : State} (hc : ClipCore s) (h : s.recorder.confirmTimer.isSome = true) : s.recorder.state = .starting := by
  obtain ⟨-, ⟨-, -, -, e, -⟩, -⟩ := hc
  exact e.1 h

theorem State.fullStep_keeps (h : s.recorder.accountTimer.isSome = true) : Keeps i s s.fullStep :=
  ((State.fillSlot_keeps s _).trans (State.fillSlot_keeps _ _)).trans
    (.ite (fun _ => State.stopRecording_keeps _ _ fun hc => hc.recording (by
      rw [State.fillSlot_accountTimer, State.fillSlot_accountTimer]; exact h)) fun _ => .refl _ _)

theorem State.relayStep_accountTimer : s.relayStep.recorder.accountTimer = s.recorder.accountTimer := by
  have h (sl : Slot) : (s.relay sl).recorder.accountTimer = s.recorder.accountTimer := by
    cases sl <;> rfl
  unfold State.relayStep
  split
  · exact h _
  · split
    · exact h _
    · rfl

theorem Recorder.charge_stands (r : Recorder) : r.Stands r.charge := ⟨rfl, rfl, rfl, rfl, rfl, rfl, rfl, rfl⟩

theorem State.account_keeps (h : s.recorder.accountTimer.isSome = true) : Keeps i s s.account :=
  ((Keeps.recorder s (Recorder.charge_stands _)).trans (State.relayStep_keeps _)).trans
    ((State.fullStep_keeps _ (by rw [State.relayStep_accountTimer]; exact h)).trans (State.testSlots_keeps _))

/-- The end of the close window (R121). -/
theorem State.closeEnd_keeps (h : s.recorder.closeTimer.isSome = true) :
    Keeps i s (((s.abandonSlot .a).abandonSlot .b).endClip .unconfirmed) := by
  have ht (u : State) (sl : Slot) : (u.abandonSlot sl).recorder.closeTimer = u.recorder.closeTimer := by
    unfold State.abandonSlot
    dsimp only
    split
    · exact (State.setSlot_timers _ _ _).2.2
    · rfl
  exact ((State.abandonSlot_keeps s _).trans (State.abandonSlot_keeps _ _)).trans
    (State.endClip_keeps _ _ nofun fun hc => hc.stopping (by rw [ht, ht]; exact h))

/-- The close that CLIP_CLOSED reports (R120). -/
theorem State.clipClosed_keeps (oa ob : CloseOutcome) (h : s.recorder.state = .stopping) :
    Keeps i s (((s.closeSlot .a oa).closeSlot .b ob).endClip .closed) := by
  have ht (u : State) (sl : Slot) (o : CloseOutcome) : (u.closeSlot sl o).recorder.state = u.recorder.state := by
    unfold State.closeSlot
    dsimp only
    split
    · split <;> exact (State.setSlot_timers _ _ _).1
    · rfl
  exact ((State.closeSlot_keeps s _ _).trans (State.closeSlot_keeps _ _ _)).trans
    (State.endClip_keeps _ _ nofun fun _ => by rw [ht, ht]; exact h)

end recorder

end Sys2Proof.Machine

/-! What the stabiliser and the lens drive keep. -/

namespace Sys2Proof.Machine

/-! ## The stabiliser -/

theorem GyroAxis.idle_iff (x : GyroAxis) : x.idle = true ↔
    x.acc = 0 ∧ x.rem = 0 ∧ x.target = 0 ∧ x.duty = 512 ∧ x.satRun = 0 ∧ x.learnRun = 0 := by
  simp only [GyroAxis.idle, decide_eq_true_eq]

/-- Out of ACTIVE the axes are centred and the runs 0 (R68). -/
def Stabiliser.centred (t : Stabiliser) : Prop :=
  t.yaw.idle = true ∧ t.pitch.idle = true ∧ t.missedRun = 0 ∧ t.railRun = 0 ∧ t.panExit = 0

theorem Stabiliser.leaveActive_centred (t : Stabiliser) : t.leaveActive.centred :=
  ⟨by simp [leaveActive, GyroAxis.idle, GyroAxis.centred], by simp [leaveActive, GyroAxis.idle, GyroAxis.centred], rfl, rfl, rfl⟩

theorem Stabiliser.enter_cond (t : Stabiliser) (st : StabState) :
    (t.enter st).cond = t.cond ∧ (t.enter st).setting = t.setting ∧ (t.enter st).state = st := by
  unfold Stabiliser.enter
  dsimp only
  split <;> exact ⟨rfl, rfl, rfl⟩

theorem Stabiliser.enter_centred {t : Stabiliser} (st : StabState) (h : t.isActive = false → t.centred) :
    (t.enter st).centred := by
  unfold Stabiliser.enter
  dsimp only
  split
  · exact t.leaveActive_centred
  · next hn => exact h (by simpa using hn)

theorem Stabiliser.isActive_iff (t : Stabiliser) : t.isActive = true ↔ ∃ sub, t.state = .active sub := by
  unfold Stabiliser.isActive
  split <;> simp_all

theorem Stabiliser.isActive_of_state {t : Stabiliser} {sub : SubState} (h : t.state = .active sub) : t.isActive = true :=
  t.isActive_iff.2 ⟨sub, h⟩

theorem Stabiliser.isActive_of_fault {t : Stabiliser} (h : t.isFault = true) : t.isActive = false := by
  unfold Stabiliser.isFault at h
  unfold Stabiliser.isActive
  split at h <;> simp_all

theorem Stabiliser.implied_active {t : Stabiliser} {sub : SubState} (h : t.implied = .active sub) :
    t.setting = true ∧ t.cond.run = true ∧ t.cond.zoomHomed = true ∧ t.cond.gyroEnabled = true ∧ t.cond.gyroValid = true := by
  unfold Stabiliser.implied at h
  split at h
  · simp at h
  · next hs =>
    split at h
    · next hc => simp only [Bool.and_eq_true] at hc; exact ⟨by simpa using hs, hc.1.1.1, hc.1.1.2, hc.1.2, hc.2⟩
    · simp at h

theorem Stabiliser.reevaluate_cond (t : Stabiliser) : t.reevaluate.cond = t.cond := by
  unfold Stabiliser.reevaluate
  split
  · rfl
  · split
    · split
      · rfl
      · exact (t.enter_cond _).1
    · split
      · rfl
      · exact (t.enter_cond _).1

/-- Re-evaluated from its copies, the stabiliser is sound (R67, R68). -/
theorem Stabiliser.reevaluate_sound {t : Stabiliser} (h : t.isActive = false → t.centred) : t.reevaluate.sound := by
  unfold Stabiliser.reevaluate
  split
  · next hf => exact ⟨fun ha => absurd (ha.symm.trans (Stabiliser.isActive_of_fault hf)) (by decide), h⟩
  · split
    · next hi =>
      have hc := Stabiliser.implied_active hi
      split
      · next ha => exact ⟨fun _ => hc, fun hn => absurd (ha.symm.trans hn) (by decide)⟩
      · obtain ⟨e1, e2, e3⟩ := t.enter_cond (.active .normal)
        refine ⟨fun _ => by rw [e1, e2]; exact hc, fun hn => ?_⟩
        exact absurd ((Stabiliser.isActive_of_state e3).symm.trans hn) (by decide)
    · next _ st hne =>
      split
      · next hst =>
        have ha : t.isActive = false := by
          rw [← Bool.not_eq_true, Stabiliser.isActive_iff]
          rintro ⟨sub, e⟩
          exact hne sub (hst ▸ e)
        exact ⟨fun hx => absurd (hx.symm.trans ha) (by decide), fun _ => h ha⟩
      · obtain ⟨e1, e2, e3⟩ := t.enter_cond t.implied
        have ha : (t.enter t.implied).isActive = false := by
          rw [← Bool.not_eq_true, Stabiliser.isActive_iff]
          rintro ⟨sub, e⟩
          exact hne sub (e3 ▸ e)
        exact ⟨fun hx => absurd (hx.symm.trans ha) (by decide), fun _ => Stabiliser.enter_centred _ h⟩

section stabiliser
variable {i : Instr} (s : State)

/-- A change of the stabiliser that takes effect is the change and perhaps a notice (R70). -/
theorem Keeps.stabBecomes {u : State} {t : Stabiliser} (h : Keeps i s { u with stab := t }) : Keeps i s (u.stabBecomes t) := by
  unfold State.stabBecomes
  dsimp only
  split
  · exact h
  · exact h.trans (State.post_keeps _ _)

theorem Kept.stabBecomes {u : State} {t : Stabiliser} (h : Kept i s { u with stab := t }) : Kept i s (u.stabBecomes t) := by
  unfold State.stabBecomes
  dsimp only
  split
  · exact h
  · exact h.trans (State.post_keeps _ _).toKept

/-- A change of the stabiliser that takes effect, its copies standing. -/
theorem Keeps.stabBecomes' {t : Stabiliser} (hc : t.cond = s.stab.cond) (h : s.stab.sound → t.sound) :
    Keeps i s (s.stabBecomes t) :=
  Keeps.stabBecomes s (Keeps.stabiliser (by rw [hc]) (by rw [hc]) (by rw [hc]) h)

/-- An update of the gyro-valid flag alone (R67, R71). -/
theorem State.stabUpdate_keeps (valid : Bool) : Keeps i s (s.stabUpdate { s.stab.cond with gyroValid := valid }) := by
  have hc := Stabiliser.reevaluate_cond { s.stab with cond := { s.stab.cond with gyroValid := valid } }
  refine Keeps.stabBecomes s (Keeps.stabiliser (by rw [hc]) (by rw [hc]) (by rw [hc]) fun h => ?_)
  exact Stabiliser.reevaluate_sound (t := { s.stab with cond := { s.stab.cond with gyroValid := valid } }) h.2

theorem Stabiliser.isActive_enter_fault (t : Stabiliser) (r : StabReason) : (t.enter (.fault r)).isActive = false := by
  rw [← Bool.not_eq_true, Stabiliser.isActive_iff]
  rintro ⟨sub, e⟩
  rw [(t.enter_cond _).2.2] at e
  cases e

theorem State.stabFault_keeps (r : StabReason) {t : Stabiliser} (hc : t.cond = s.stab.cond)
    (h : s.stab.sound → t.isActive = false → t.centred) : Keeps i s (({ s with stab := t } : State).stabFault r) := by
  have e := (t.enter_cond (.fault r)).1.trans hc
  have hs : s.stab.sound → (t.enter (.fault r)).sound := fun hs =>
    ⟨fun ha => absurd (ha.symm.trans (t.isActive_enter_fault r)) (by decide), fun _ => Stabiliser.enter_centred _ (h hs)⟩
  have hk : Keeps i s (({ s with stab := t } : State).stabBecomes (t.enter (.fault r))) :=
    Keeps.stabBecomes s (Keeps.stabiliser (by rw [e]) (by rw [e]) (by rw [e]) hs)
  exact hk.trans (State.condition_keeps _ _ _)

theorem State.stabClear_keeps (h : s.stab.isFault = true) : Keeps i s s.stabClear := by
  have hs : s.stab.sound → Stabiliser.sound { s.stab with state := s.stab.implied } := fun hs =>
    ⟨fun ha => let ⟨_, e⟩ := (Stabiliser.isActive_iff _).1 ha; Stabiliser.implied_active e,
      fun _ => hs.2 (Stabiliser.isActive_of_fault h)⟩
  have hk : Keeps i s (s.stabBecomes { s.stab with state := s.stab.implied }) := Keeps.stabBecomes' s rfl hs
  exact hk.trans (State.condition_keeps _ _ _)

theorem State.stabSetting_keeps (on : Bool) : Keeps i s (s.stabSetting on) := by
  unfold State.stabSetting
  dsimp only
  split
  · next hf =>
    have ha := Stabiliser.isActive_of_fault hf
    have h : Keeps i s { s with stab.setting := on } := Keeps.stabiliser rfl rfl rfl fun hs =>
      ⟨fun hx => absurd (hx.symm.trans ha) (by decide), fun _ => hs.2 ha⟩
    split
    · exact h.trans (State.stabClear_keeps _ hf)
    · exact h
  · have hc := Stabiliser.reevaluate_cond { s.stab with setting := on }
    refine Keeps.stabBecomes s (Keeps.stabiliser (by rw [hc]) (by rw [hc]) (by rw [hc]) fun hs => ?_)
    exact Stabiliser.reevaluate_sound (t := { s.stab with setting := on }) hs.2

/-! ## The sample event -/

/-- The computation of a sample event changes neither setting nor copies, and leaves the stabiliser ACTIVE. -/
theorem Stabiliser.compute_stands (t : Stabiliser) (sub : SubState) (position span : Int) (h : t.isActive = true) :
    (t.compute sub position span).cond = t.cond ∧ (t.compute sub position span).setting = t.setting ∧
      (t.compute sub position span).isActive = true := by
  have hp : ∀ (u : Stabiliser) a b, u.isActive = true → (u.panTest sub a b).cond = u.cond ∧
      (u.panTest sub a b).setting = u.setting ∧ (u.panTest sub a b).isActive = true := by
    intro u a b hu
    unfold Stabiliser.panTest
    split
    · split
      · exact ⟨rfl, rfl, rfl⟩
      · exact ⟨rfl, rfl, hu⟩
    · dsimp only
      split <;> split
      all_goals first | exact ⟨rfl, rfl, rfl⟩ | exact ⟨rfl, rfl, hu⟩
  have hl : ∀ (u : Stabiliser) a b, (u.learn a b).cond = u.cond ∧ (u.learn a b).setting = u.setting ∧
      (u.learn a b).isActive = u.isActive := by
    intro u a b
    unfold Stabiliser.learn
    split <;> exact ⟨rfl, rfl, rfl⟩
  obtain ⟨e1, e2, e3⟩ := hp { t with
    yaw := t.yaw.compute sub (gainAt t.gains position span), pitch := t.pitch.compute sub (gainAt t.gains position span) }
    (rateAt t.yaw) (rateAt t.pitch) h
  exact ⟨(hl _ _ _).1.trans e1, (hl _ _ _).2.1.trans e2, (hl _ _ _).2.2.trans e3⟩

theorem State.takePair_keeps (pair : ResultRec × ResultRec) : Keeps i s (s.takePair pair) := by
  have h : Keeps i s { s with stab.mailbox := none, stab.yaw := s.stab.yaw.take pair.1, stab.pitch := s.stab.pitch.take pair.2 } :=
    Keeps.stabiliser rfl rfl rfl id
  exact h.trans (State.stabUpdate_keeps _ _)

theorem State.activeSample_keeps (sub : SubState) (ha : s.stab.isActive = true) : Keeps i s (s.activeSample sub) := by
  unfold State.activeSample
  dsimp only
  split
  · exact State.stabFault_keeps s _ rfl fun _ hn => absurd (ha.symm.trans hn) (by decide)
  · obtain ⟨e1, e2, e3⟩ := Stabiliser.compute_stands
      { s.stab with missedRun := 0, railRun := s.stab.railRunAfter } sub s.lens.zoom.position s.lens.zoom.span ha
    exact Keeps.stabBecomes' s e1 fun hs => ⟨fun _ => by rw [e1, e2]; exact hs.1 ha, fun hn => absurd (e3.symm.trans hn) (by decide)⟩

theorem State.missedSample_keeps (ha : s.stab.isActive = true) : Keeps i s s.missedSample := by
  unfold State.missedSample
  dsimp only
  split
  · exact State.stabFault_keeps s _ rfl fun _ hn => absurd (ha.symm.trans hn) (by decide)
  · exact Keeps.stabiliser rfl rfl rfl fun hs => ⟨hs.1, fun hn => absurd (ha.symm.trans hn) (by decide)⟩

theorem State.sample_keeps : Keeps i s s.sample := by
  unfold State.sample
  split
  · next pair sub _ _ =>
    dsimp only
    split
    · next ha => exact (State.takePair_keeps s pair).trans (State.activeSample_keeps _ _ ha)
    · exact State.takePair_keeps s pair
  · exact State.takePair_keeps s _
  · next hs => exact State.missedSample_keeps s (Stabiliser.isActive_of_state hs)
  · exact .refl _ _

end stabiliser

end Sys2Proof.Machine

/-! What the lens drive keeps. -/

namespace Sys2Proof.Machine

/-- The presets and the spans of a lens drive, by `PresetInv`. -/
def Lens.presetsFit (l : Lens) : Prop :=
  0 ≤ l.zoom.span ∧ (∀ v, l.zoom.spanBefore = some v → 0 ≤ v) ∧ (∀ n : Fin 8, 0 ≤ l.presets.get n) ∧
    (l.zoom.homing = .homed → ∀ n : Fin 8, l.presets.get n ≤ l.zoom.span)

/-- The duties of a lens drive, by `DutyInv`. -/
def Lens.dutiesFit (l : Lens) : Prop := l.zoom.duty ≤ 1023 ∧ l.focus.duty ≤ 1023

/-- What the invariants read of an axis but for its duty. -/
def AxisRec.Stands (a a' : AxisRec) : Prop := a'.span = a.span ∧ a'.spanBefore = a.spanBefore ∧ a'.homing = a.homing

section lens
variable {i : Instr} (s : State)

/-- A change of the zoom that stands but for its duty. -/
theorem Keeps.zoom {a : AxisRec} {l : Lens} (hl : l = { l with zoom := a, presets := s.lens.presets, floating := s.lens.floating })
    (h : s.lens.zoom.Stands a) (hd : s.lens.dutiesFit → l.dutiesFit) : Keeps i s { s with lens := l } := by
  obtain ⟨h1, h2, h3⟩ := h
  rw [hl] at hd ⊢
  refine Keeps.lens (by simp only [h3]) rfl ?_ hd
  simp only [PresetInv, h1, h2, h3]
  exact id

theorem Lens.setAxis_zoom (l : Lens) (a : AxisRec) (ax : Axis) (h : (l.axis ax).Stands a) :
    l.zoom.Stands (l.setAxis a ax).zoom := by
  cases ax
  · exact h
  · exact ⟨rfl, rfl, rfl⟩

theorem Lens.setAxis_duties (l : Lens) (a : AxisRec) (ax : Axis) (h : l.dutiesFit → a.duty ≤ 1023) (hl : l.dutiesFit) :
    (l.setAxis a ax).dutiesFit := by
  cases ax
  · exact ⟨h hl, hl.2⟩
  · exact ⟨hl.1, h hl⟩

theorem Lens.axis_duty {l : Lens} (ax : Axis) (h : l.dutiesFit) : (l.axis ax).duty ≤ 1023 := by
  cases ax
  · exact h.1
  · exact h.2

/-- A change of an axis that stands but for its duty. -/
theorem State.setAxis_keeps (ax : Axis) {a : AxisRec} (h : (s.axis ax).Stands a) (hd : (s.axis ax).duty ≤ 1023 → a.duty ≤ 1023) :
    Keeps i s (s.setAxis ax a) := by
  refine Keeps.zoom s (a := (s.lens.setAxis a ax).zoom) (by cases ax <;> rfl) (Lens.setAxis_zoom _ _ _ h) ?_
  exact Lens.setAxis_duties _ _ _ fun hl => hd (Lens.axis_duty ax hl)

/-! ## Holds and gotos -/

theorem AxisRec.released_stands (a : AxisRec) : a.Stands a.released := ⟨rfl, rfl, rfl⟩

theorem State.motionDone_keeps (ax : Axis) (o : MotionOutcome) : Keeps i s (s.motionDone ax o) := by
  unfold State.motionDone
  split
  · exact State.post_keeps s _
  · exact State.post_keeps s _
  · exact State.post_keeps s _
  · exact .refl _ _
  · exact .refl _ _

theorem State.endHold_keeps (ax : Axis) (o : MotionOutcome) : Keeps i s (s.endHold ax o) := by
  refine (State.motionDone_keeps s ax o).trans ?_
  cases ax
  · exact Keeps.zoom _ rfl (AxisRec.released_stands _) id
  · exact Keeps.zoom _ rfl ⟨rfl, rfl, rfl⟩ id

theorem State.beginGoto_keeps (ax : Axis) (o : Owner) (t : Int) (v : Nat) : Keeps i s (s.beginGoto ax o t v) :=
  State.setAxis_keeps s ax ⟨rfl, rfl, rfl⟩ id

/-- A change of the lens drive apart from its axes and presets. -/
theorem Keeps.lensSettings {l : Lens} (hz : l.zoom = s.lens.zoom) (hf : l.focus = s.lens.focus) (hp : l.presets = s.lens.presets)
    (hl : l.floating = s.lens.floating) : Keeps i s { s with lens := l } :=
  Keeps.zoom s (a := s.lens.zoom) (by rw [← hz, ← hp, ← hl]) ⟨rfl, rfl, rfl⟩ (by simp only [Lens.dutiesFit, hz, hf]; exact id)

/-! ## Homing -/

/-- The zoom takes a homing status and the stabiliser's copy follows (R67). -/
theorem Keeps.zoomHoming {l : Lens} {homed : Bool} (hh : homed = decide (l.zoom.homing = .homed)) (hf : l.floating = s.lens.floating)
    (hp : s.lens.presetsFit → l.presetsFit) (hd : s.lens.dutiesFit → l.dutiesFit) :
    Keeps i s ({ s with lens := l }.stabZoom homed) := by
  have hc := Stabiliser.reevaluate_cond { s.stab with cond := { s.stab.cond with zoomHomed := homed } }
  refine Keeps.stabBecomes s { Keeps.refl i s with
    presets := hp, duties := hd
    stab := fun ⟨_, h2, h3⟩ => ⟨(congrArg Conditions.zoomHomed hc).trans hh, (congrArg Conditions.gyroEnabled hc).trans h2, ?_⟩
    runCopy := (congrArg Conditions.run hc).trans
    float := fun ⟨⟨h1, h2⟩, _⟩ => ⟨fun h => hf.trans (h1 h), fun h => hf.trans (h2 h)⟩ }
  exact Stabiliser.reevaluate_sound (t := { s.stab with cond := { s.stab.cond with zoomHomed := homed } }) h3.2

/-- The focus takes a homing status. -/
theorem Keeps.focus {a : AxisRec} (hd : s.lens.focus.duty ≤ 1023 → a.duty ≤ 1023) : Keeps i s { s with lens.focus := a } :=
  Keeps.zoom s rfl ⟨rfl, rfl, rfl⟩ fun h => ⟨h.1, hd h.2⟩

theorem State.beginHoming_keeps (ax : Axis) : Keeps i s (s.beginHoming ax) := by
  refine (State.endHold_keeps s ax .preempted).trans ?_
  cases ax
  · refine Keeps.zoomHoming _ rfl rfl (fun ⟨h1, h2, h3, _⟩ => ⟨h1, fun v hv => ?_, h3, fun h => ?_⟩) id
    · cases hv; exact h1
    · cases h
  · exact Keeps.focus _ id

theorem State.abandonHoming_keeps (ax : Axis) (r : AbandonReason) : Keeps i s (s.abandonHoming ax r) := by
  refine (State.post_keeps s (.homeDone ax (.abandoned r))).trans ?_
  cases ax
  · refine Keeps.zoomHoming _ rfl rfl (fun ⟨h1, h2, h3, _⟩ => ⟨?_, ?_, h3, fun h => ?_⟩) id
    · show 0 ≤ s.lens.zoom.spanBefore.getD s.lens.zoom.span
      cases hb : s.lens.zoom.spanBefore with
      | none => exact h1
      | some v => exact h2 v hb
    · exact fun v hv => nomatch hv
    · cases h
  · exact Keeps.focus _ id

theorem State.completeHoming_keeps (ax : Axis) : Keeps i s (s.completeHoming ax) := by
  cases ax
  · refine ((State.condition_keeps s .lensFault (false || s.lens.focus.fault)).trans
      (State.post_keeps _ (.homeDone .zoom (.homed s.lens.zoom.span)))).trans ?_
    refine Keeps.zoomHoming _ rfl rfl (fun ⟨h1, _, h3, _⟩ => ⟨h1, fun v hv => (nomatch hv), fun n => ?_, fun _ n => ?_⟩) id
    · show 0 ≤ (vmap (fun _ p => if s.lens.zoom.span < p then s.lens.zoom.span else p) s.lens.presets).get n
      rw [vmap, vector_get_ofFn]
      split
      · exact h1
      · exact h3 n
    · show (vmap (fun _ p => if s.lens.zoom.span < p then s.lens.zoom.span else p) s.lens.presets).get n ≤ s.lens.zoom.span
      rw [vmap, vector_get_ofFn]
      split <;> omega
  · exact ((State.condition_keeps s .lensFault (s.lens.zoom.fault || false)).trans
      (State.post_keeps _ (.homeDone .focus (.homed s.lens.focus.span)))).trans (Keeps.focus _ id)

theorem AxisRec.phase_some {a : AxisRec} {p : HomingPhase} (h : a.phase = some p) : a.homing = .homing p := by
  unfold AxisRec.phase at h
  split at h <;> simp_all

theorem State.seekNearEnd_keeps (ax : Axis) (h : (s.axis ax).phase = some .seekNear) : Keeps i s (s.seekNearEnd ax) := by
  have hn := AxisRec.phase_some h
  cases ax
  · have hz : s.lens.zoom.homing ≠ .homed := fun e => by
      rw [show (s.axis .zoom).homing = s.lens.zoom.homing from rfl, e] at hn; cases hn
    exact Keeps.lens ⟨fun e => (nomatch e), fun e => absurd e hz⟩ rfl
      (fun ⟨h1, h2, h3, _⟩ => ⟨h1, h2, h3, fun e => (nomatch e)⟩) id
  · exact Keeps.focus _ id

theorem spanAccepted_nonneg {ax : Axis} {d : Int} (h : spanAccepted ax d = true) : 0 ≤ d := by
  cases ax <;> simp only [spanAccepted, Bool.and_eq_true, decide_eq_true_eq] at h <;> omega

theorem AxisRec.stand_stands (a : AxisRec) : a.Stands a.stand := ⟨rfl, rfl, rfl⟩

theorem State.seekFarEnd_keeps (ax : Axis) (h : (s.axis ax).phase = some .seekFar) : Keeps i s (s.seekFarEnd ax) := by
  have hn := AxisRec.phase_some h
  unfold State.seekFarEnd
  dsimp only
  split
  · next ha =>
    cases ax
    · have hz : s.lens.zoom.homing ≠ .homed := fun e => by
        rw [show (s.axis .zoom).homing = s.lens.zoom.homing from rfl, e] at hn; cases hn
      exact Keeps.lens ⟨fun e => (nomatch e), fun e => absurd e hz⟩ rfl
        (fun ⟨_, h2, h3, _⟩ => ⟨spanAccepted_nonneg ha, h2, h3, fun e => (nomatch e)⟩) id
    · exact Keeps.focus _ id
  · exact (State.setAxis_keeps s ax (AxisRec.stand_stands _) id).trans (State.abandonHoming_keeps _ _ _)

/-! ## The control event -/

theorem State.arrive_keeps (ax : Axis) : Keeps i s (s.arrive ax) := by
  have h : ∀ o, Keeps i s ((s.endHold ax o).setAxis ax { (s.endHold ax o).axis ax with vcmd := 0 }) := fun o =>
    (State.endHold_keeps s ax o).trans (State.setAxis_keeps _ ax ⟨rfl, rfl, rfl⟩ id)
  unfold State.arrive
  split
  · exact State.completeHoming_keeps s ax
  · exact h _
  · exact h _
  · exact State.setAxis_keeps s ax ⟨rfl, rfl, rfl⟩ id
  · exact State.setAxis_keeps s ax ⟨rfl, rfl, rfl⟩ id

theorem State.rockerClaim_keeps : Keeps i s s.rockerClaim :=
  .ite (fun _ => (State.endHold_keeps s _ _).trans (Keeps.zoom _ rfl ⟨rfl, rfl, rfl⟩ id)) fun _ => .refl _ _

theorem State.claimAt_keeps (ax : Axis) : Keeps i s (s.claimAt ax) := by
  cases ax
  · exact s.rockerClaim_keeps
  · exact .refl _ _

/-- A limited speed does not exceed VMAX (R42). -/
theorem Lens.limitedSpeed_le (l : Lens) (ax : Axis) (speed : Int) : (l.limitedSpeed ax speed).natAbs ≤ l.vmax ax := by
  have hm : l.speedLimit ax ≤ l.vmax ax := by
    unfold Lens.speedLimit
    dsimp only
    split <;> split <;> omega
  have hc : ∀ (c : Nat) (x : Int), (clampInt (-(c : Int)) c x).natAbs ≤ c := by
    intro c x
    unfold clampInt
    split
    · omega
    · split <;> omega
  unfold Lens.limitedSpeed
  dsimp only
  refine (hc _ _).trans ?_
  split
  · exact (Nat.min_le_left _ _).trans hm
  · exact hm

/-- The ramp comes to the limited target speed from below (R43). -/
theorem AxisRec.ramp_le (a : AxisRec) (gap : Nat) (speed : Int) : (a.ramp gap speed).vcmd.natAbs ≤ speed.natAbs := by
  unfold AxisRec.ramp
  split
  · exact Nat.zero_le _
  · split
    · exact Nat.zero_le _
    · split
      · exact Nat.zero_le _
      · split
        · exact le_rfl
        · simp only [clampInt]
          split
          · omega
          · split <;> omega

theorem AxisRec.ramp_stands (a : AxisRec) (gap : Nat) (speed : Int) : a.Stands (a.ramp gap speed) ∧ (a.ramp gap speed).duty = a.duty := by
  unfold AxisRec.ramp
  (repeat' split) <;> exact ⟨⟨rfl, rfl, rfl⟩, rfl⟩

/-- The duty of a commanded speed within VMAX is a duty (R44). -/
theorem dutyOf_le {v : Int} {vmax : Nat} (h : v.natAbs ≤ vmax) : dutyOf v vmax ≤ 1023 := by
  unfold dutyOf
  split
  · decide
  · have : v.natAbs * 927 / vmax ≤ 927 := Nat.div_le_of_le_mul (by rw [Nat.mul_comm vmax]; exact Nat.mul_le_mul h le_rfl |>.trans (by omega))
    omega

theorem State.lensFault_keeps : Keeps i s s.lensFault := State.condition_keeps s _ _

theorem State.confirmStall_keeps (ax : Axis) : Keeps i s (s.confirmStall ax) := by
  have h : Keeps i (s.endHold ax .stalled) ((s.endHold ax .stalled).setAxis ax { (s.endHold ax .stalled).axis ax with
      fault := true, vcmd := 0, duty := 0, dutyRun := none, suspect := none }) :=
    State.setAxis_keeps _ ax ⟨rfl, rfl, rfl⟩ fun _ => Nat.zero_le _
  exact ((State.endHold_keeps s ax _).trans h).trans (State.lensFault_keeps _)

theorem State.stallWatch_keeps (ax : Axis) : Keeps i s (s.stallWatch ax) := by
  have h : Keeps i s (s.setAxis ax ((s.axis ax).watchRun s.clock)) := State.setAxis_keeps s ax ⟨rfl, rfl, rfl⟩ id
  unfold State.stallWatch
  dsimp only
  split
  · split
    · exact h.trans (State.confirmStall_keeps _ _)
    · exact State.setAxis_keeps s ax ⟨rfl, rfl, rfl⟩ fun _ => Nat.zero_le _
  · exact h

theorem Lens.releaseRocker_eq (l : Lens) (ax : Axis) :
    l.releaseRocker ax = l ∨ ax = .zoom ∧ l.releaseRocker ax = { l with zoom := l.zoom.released } := by
  cases ax
  · unfold Lens.releaseRocker
    dsimp only
    split
    · exact .inr ⟨rfl, rfl⟩
    · exact .inl rfl
  · exact .inl rfl

theorem AxisRec.drive_duty (a : AxisRec) {vmax : Nat} (h : a.vcmd.natAbs ≤ vmax) : (a.drive vmax).duty ≤ 1023 := by
  simp only [AxisRec.drive]
  split
  · exact Nat.zero_le _
  · exact dutyOf_le h

/-- The lens drive of a control event before the stall watch (R42 to R44). -/
theorem Lens.controlled_keeps (ax : Axis) (speed : Int) {l' : Lens}
    (hl : l' = (s.lens.setAxis ((s.lens.axis ax).ramp (s.lens.gap ax) (s.lens.limitedSpeed ax speed)) ax).releaseRocker ax) :
    Keeps i s { s with lens := l'.setAxis ((l'.axis ax).drive (l'.vmax ax)) ax } := by
  have hv := (AxisRec.ramp_le (s.lens.axis ax) (s.lens.gap ax) _).trans (Lens.limitedSpeed_le s.lens ax speed)
  obtain ⟨hr, -⟩ := AxisRec.ramp_stands (s.lens.axis ax) (s.lens.gap ax) (s.lens.limitedSpeed ax speed)
  have hduty : ((l'.axis ax).drive (l'.vmax ax)).duty ≤ 1023 := by
    apply AxisRec.drive_duty
    rw [hl]
    rcases Lens.releaseRocker_eq (s.lens.setAxis ((s.lens.axis ax).ramp (s.lens.gap ax) (s.lens.limitedSpeed ax speed)) ax) ax
      with e | ⟨rfl, e⟩
    · rw [e]; cases ax <;> exact hv
    · rw [e]; exact hv
  have hst : s.lens.zoom.Stands (l'.setAxis ((l'.axis ax).drive (l'.vmax ax)) ax).zoom := by
    rw [hl]
    rcases Lens.releaseRocker_eq (s.lens.setAxis ((s.lens.axis ax).ramp (s.lens.gap ax) (s.lens.limitedSpeed ax speed)) ax) ax
      with e | ⟨rfl, e⟩
    · rw [e]
      cases ax
      · exact hr
      · exact ⟨rfl, rfl, rfl⟩
    · rw [e]; exact hr
  refine Keeps.zoom s (a := (l'.setAxis ((l'.axis ax).drive (l'.vmax ax)) ax).zoom) ?_ hst fun hd => ?_
  · rw [hl]
    rcases Lens.releaseRocker_eq (s.lens.setAxis ((s.lens.axis ax).ramp (s.lens.gap ax) (s.lens.limitedSpeed ax speed)) ax) ax
      with e | ⟨rfl, e⟩
    · rw [e]; cases ax <;> rfl
    · rw [e]; rfl
  · cases ax
    · refine ⟨hduty, ?_⟩
      rw [hl]
      rcases Lens.releaseRocker_eq (s.lens.setAxis ((s.lens.axis .zoom).ramp (s.lens.gap .zoom) (s.lens.limitedSpeed .zoom speed)) .zoom)
        .zoom with e | ⟨-, e⟩ <;> (rw [e]; exact hd.2)
    · refine ⟨?_, hduty⟩
      rw [hl]
      exact hd.1

theorem State.controlSpeed_keeps (ax : Axis) (speed : Int) : Keeps i s (s.controlSpeed ax speed) :=
  (Lens.controlled_keeps s ax speed rfl).trans (State.stallWatch_keeps _ ax)

theorem State.controlEvent_keeps (ax : Axis) : Keeps i s (s.controlEvent ax) :=
  .ite
    (fun _ => ((State.arrive_keeps s ax).trans (.ite (fun _ => .refl _ _) fun _ => State.claimAt_keeps _ ax)).trans
      (State.controlSpeed_keeps _ ax 0))
    fun _ => (State.claimAt_keeps s ax).trans (State.controlSpeed_keeps _ ax _)

theorem State.controlTimer_keeps (ax : Axis) : Keeps i s (s.controlTimer ax) := by
  have h : Keeps i s ((s.atTime (s.axis ax).controlDue).setAxis ax { s.axis ax with
      controlDue := (s.axis ax).controlDue + eventPeriod }) :=
    (Keeps.atTime _).trans (State.setAxis_keeps _ ax ⟨rfl, rfl, rfl⟩ id)
  exact h.trans (.ite (fun _ => .refl _ _) fun _ => State.controlEvent_keeps _ ax)

/-! ## Demands of the operator and requests -/

theorem State.rockerDemand_keeps (d : Int) : Keeps i s (s.rockerDemand d) := Keeps.lensSettings s rfl rfl rfl rfl

theorem State.startOverride_keeps : Keeps i s s.startOverride :=
  .ite (fun _ => Keeps.lensSettings s rfl rfl rfl rfl) fun _ => .refl _ _

theorem State.ringDetent_keeps (up : Bool) : Keeps i s (s.ringDetent up) := by
  have h : Keeps i s { s with lens.detents := s.lens.recordDetent s.clock } := Keeps.lensSettings s rfl rfl rfl rfl
  unfold State.ringDetent
  dsimp only
  split
  · exact h
  · refine (Keeps.trans ?_ (State.beginGoto_keeps _ _ _ _ _)).trans (State.startOverride_keeps _)
    split
    · exact h
    · exact h.trans (State.endHold_keeps _ _ _)

theorem clampInt_within {hi : Int} (x : Int) (h : 0 ≤ hi) : 0 ≤ clampInt 0 hi x ∧ clampInt 0 hi x ≤ hi := by
  unfold clampInt
  split
  · omega
  · split <;> omega

/-- A preset stored within the span of the zoom (R57). -/
theorem Keeps.storePreset (n : Fin 8) (p : Int) :
    Keeps i s { s with lens.presets := s.lens.presets.set n (clampInt 0 s.lens.zoom.span p) } := by
  refine Keeps.lens Iff.rfl rfl (fun ⟨h1, h2, h3, h4⟩ => ⟨h1, h2, fun m => ?_, fun hh m => ?_⟩) id
  · rw [vector_get_set]
    split
    · exact (clampInt_within p h1).1
    · exact h3 m
  · rw [vector_get_set]
    split
    · exact (clampInt_within p h1).2
    · exact h4 hh m

theorem State.panelStore_keeps (n : Fin 8) : Keeps i s (s.panelStore n) :=
  .ite (fun _ => (Keeps.storePreset s n _).trans (State.beep_keeps _ _)) fun _ => State.beep_keeps s _

theorem State.recall_keeps (o : Owner) (n : Fin 8) : Keeps i s (s.recall o n) :=
  (State.endHold_keeps s _ _).trans (State.beginGoto_keeps _ _ _ _ _)

theorem State.panelRecall_keeps (n : Fin 8) : Keeps i s (s.panelRecall n) :=
  .ite (fun _ => State.beep_keeps s _) fun _ => State.recall_keeps s _ _

theorem State.setFocusMode_keeps (m : FocusMode) : Keeps i s (s.setFocusMode m) := by
  have h : Keeps i s { s with lens.mode := m, lens.override := none } := Keeps.lensSettings s rfl rfl rfl rfl
  exact .ite (fun _ => .refl _ _) fun _ => .ite (fun _ => h.trans (State.endHold_keeps _ _ _)) fun _ => h

theorem State.driveElapsed_keeps : Keeps i s s.driveElapsed :=
  (State.endHold_keeps s .zoom .elapsed).trans (Keeps.zoom _ rfl ⟨rfl, rfl, rfl⟩ id)

theorem State.lensStop_keeps (ax : Axis) : Keeps i s (s.lensStop ax) := by
  have h : Keeps i s ((s.endHold ax .stopped).setAxis ax { (s.endHold ax .stopped).axis ax with vcmd := 0 }) :=
    (State.endHold_keeps s ax _).trans (State.setAxis_keeps _ ax ⟨rfl, rfl, rfl⟩ id)
  unfold State.lensStop
  split
  · exact State.abandonHoming_keeps s ax _
  · exact h
  · exact h
  · exact h
  · exact .refl _ _

theorem State.blockRocker_keeps (ax : Axis) : Keeps i s (s.blockRocker ax) := by
  cases ax
  · exact Keeps.lensSettings s rfl rfl rfl rfl
  · exact .refl _ _

theorem State.haltAxis_keeps (ax : Axis) (r : AbandonReason) : Keeps i s (s.haltAxis ax r) := by
  have h : Keeps i s (if (s.axis ax).owner = .homing then s.abandonHoming ax r else s.endHold ax .stopped) :=
    .ite (fun _ => State.abandonHoming_keeps s ax r) fun _ => State.endHold_keeps s ax _
  unfold State.haltAxis
  dsimp only
  exact h.trans (State.setAxis_keeps _ ax ⟨rfl, rfl, rfl⟩ fun _ => Nat.zero_le _)

/-- The bridges float after a halt, which the power state asks for: a matter of `State.setPower` and of the lens stop (R39, R64). -/
theorem State.haltLens_kept (r : AbandonReason) : Kept i s (s.haltLens r) := by
  have h := ((State.haltAxis_keeps (i := i) s .zoom r).trans (State.haltAxis_keeps _ .focus r)).toKept
  exact h.trans { Kept.refl i _ with }

theorem State.driveLens_kept : Kept i s s.driveLens :=
  { Kept.refl i s with duties := fun _ => ⟨Nat.zero_le _, Nat.zero_le _⟩ }

end lens

end Sys2Proof.Machine

/-! What the audio level unit keeps. -/

namespace Sys2Proof.Machine

/-! ## Channels -/

/-- The ranges of a channel's gains (R145). -/
def ChannelRec.inRange (c : ChannelRec) : Prop := c.setGain ≤ 63 ∧ c.reduction ≤ 12 ∧ c.agcMax ≤ 63

theorem ChannelRec.wf_iff (c : ChannelRec) : c.wf = true ↔ c.applied = appliedGain c ∧ c.inRange := by
  simp only [ChannelRec.wf, decide_eq_true_eq, ChannelRec.inRange, appliedGain]

theorem ChannelRec.apply_wf {c : ChannelRec} (h : c.inRange) : c.apply.wf = true := (ChannelRec.wf_iff _).2 ⟨rfl, h⟩

theorem ChannelRec.range_of_wf {c : ChannelRec} (h : c.wf = true) : c.inRange := ((ChannelRec.wf_iff c).1 h).2

theorem ChannelRec.applied_of_wf {c : ChannelRec} (h : c.wf = true) : c.applied = appliedGain c := ((ChannelRec.wf_iff c).1 h).1

/-- A channel with the same gains is as well-formed. -/
theorem ChannelRec.wf_congr {c c' : ChannelRec} (ha : c'.applied = c.applied) (hs : c'.settling = c.settling)
    (hg : c'.setGain = c.setGain) (hr : c'.reduction = c.reduction) (hm : c'.agcMax = c.agcMax) (h : c.wf = true) :
    c'.wf = true := by
  simpa only [ChannelRec.wf, ha, hs, hg, hr, hm] using h

theorem ChannelRec.setSource_wf {c : ChannelRec} (g : GainSource) (h : c.wf = true) : (c.setSource g).wf = true := by
  obtain ⟨h1, h2, h3⟩ := (ChannelRec.range_of_wf h)
  unfold ChannelRec.setSource
  split
  · exact h
  · cases g
    · exact ChannelRec.apply_wf (ChannelRec.range_of_wf h)
    · exact ChannelRec.apply_wf (ChannelRec.range_of_wf h)
    · exact ChannelRec.apply_wf ⟨h1, Nat.zero_le _, h3⟩

theorem ChannelRec.configuredChannel_wf {c : ChannelRec} {a : ChannelConfig} (now : Nat) (ha : a.agcMax ≤ 63)
    (h : c.wf = true) : (configuredChannel c a now).wf = true := by
  obtain ⟨h1, h2, -⟩ := (ChannelRec.range_of_wf h)
  refine (ChannelRec.wf_iff _).2 ⟨rfl, h1, ?_, ha⟩
  unfold configuredChannel
  dsimp only
  split
  · exact Nat.zero_le _
  · exact h2

theorem ChannelRec.setGainTo_wf {c : ChannelRec} {g : Nat} (hg : g ≤ 63) (h : c.wf = true) : (c.setGainTo g).wf = true :=
  have ⟨_, h2, h3⟩ := (ChannelRec.range_of_wf h)
  ChannelRec.apply_wf ⟨hg, h2, h3⟩

/-- The work of a level event keeps a channel's gains in agreement (R147 to R152). -/
theorem ChannelWorked.wf {c m : ChannelRec} {r : ResultRec} {linked : Bool} (h : ChannelWorked c m r linked) (hc : c.wf = true) :
    m.wf = true := by
  obtain ⟨hi, hv⟩ := h
  by_cases hs : r.status = .invalid
  · rw [hi hs]
    exact ChannelRec.wf_congr (c := c) rfl rfl rfl rfl rfl hc
  · obtain ⟨x, ⟨ex, -⟩, hfree, hctl⟩ := hv hs
    have hx : x.wf = true := by rw [ex]; exact ChannelRec.wf_congr (c := c) rfl rfl rfl rfl rfl hc
    have hxs : x.settling = c.settling := by rw [ex]
    by_cases hf : c.settling.isSome = true ∨ linked = true
    · rw [hfree hf]; exact hx
    · have hn : c.settling = none := by
        cases he : c.settling with
        | none => rfl
        | some t => exact absurd (.inl (by rw [he]; rfl)) hf
      have hxn : x.settling = none := hxs.trans hn
      obtain ⟨hauto, hlim, hoff⟩ := hctl hn (Bool.eq_false_iff.2 fun e => hf (.inr e))
      obtain ⟨hxa, hx1, hx2, hx3⟩ := (ChannelRec.wf_iff x).1 hx
      simp only [appliedGain, hxn, Option.isSome_none, Bool.false_eq_true, if_false] at hxa
      by_cases ha : c.source = .auto
      · obtain ⟨em, h1, h2, h3⟩ := hauto ha
        have hr : m.reduction = x.reduction := by rw [em]
        have hms : m.settling = none := by rw [em]; exact hxn
        have hmax : m.agcMax = x.agcMax := by rw [em]
        have key : m.setGain ≤ 63 ∧ m.applied = m.setGain - m.reduction := by
          by_cases hp : -120 < x.peak
          · obtain ⟨-, -, g1, g2⟩ := h1 hp
            by_cases h0 : x.attack = 0
            · obtain ⟨-, e1, e2⟩ := g1 h0; omega
            · obtain ⟨-, e1, e2⟩ := g2 (by omega); omega
          · by_cases hq : -260 ≤ x.peak
            · obtain ⟨-, -, -, e1, e2⟩ := h2 hq (by omega); omega
            · obtain ⟨-, g1, g2, g3⟩ := h3 (by omega)
              by_cases hq2 : x.quiet < 2000
              · obtain ⟨-, -, e1, e2⟩ := g1 hq2; omega
              · by_cases hr99 : x.rise < 99
                · obtain ⟨-, -, e1, e2⟩ := g2 (by omega) hr99; omega
                · obtain ⟨-, -, e1, e2⟩ := g3 (by omega) (by omega)
                  split at e1 <;> omega
        refine (ChannelRec.wf_iff m).2 ⟨?_, key.1, by omega, by omega⟩
        simpa only [appliedGain, hms, Option.isSome_none, Bool.false_eq_true, if_false] using key.2
      · by_cases hl : c.limiter = true
        · obtain ⟨em, h1, h2, h3⟩ := hlim ha hl
          have hg : m.setGain = x.setGain := by rw [em]
          have hms : m.settling = none := by rw [em]; exact hxn
          have hmax : m.agcMax = x.agcMax := by rw [em]
          have key : m.reduction ≤ 12 ∧ m.applied = m.setGain - m.reduction := by
            by_cases hp : -40 < x.level
            · obtain ⟨-, -, e1, e2⟩ := h1 hp; omega
            · by_cases hq : -80 ≤ x.level
              · obtain ⟨-, -, e1, e2⟩ := h2 hq (by omega); omega
              · obtain ⟨g1, g2, g3⟩ := h3 (by omega)
                by_cases hq2 : x.release < 300
                · obtain ⟨-, -, e1, e2⟩ := g1 hq2; omega
                · by_cases hf49 : x.fall < 49
                  · obtain ⟨-, -, e1, e2⟩ := g2 (by omega) hf49; omega
                  · obtain ⟨-, -, e1, e2⟩ := g3 (by omega) (by omega); omega
          refine (ChannelRec.wf_iff m).2 ⟨?_, by omega, key.1, by omega⟩
          simpa only [appliedGain, hms, Option.isSome_none, Bool.false_eq_true, if_false] using key.2
        · rw [hoff ha (by simpa using hl)]; exact hx

/-! ## The pair of channels -/

/-- `GainInv`, said of the audio level unit. -/
def Audio.gainsFit (a : Audio) : Prop :=
  a.ch1.wf = true ∧ a.ch2.wf = true ∧
    (a.link = true → a.ch2.source = a.ch1.source ∧ a.ch2.setGain = a.ch1.setGain ∧ a.ch2.reduction = a.ch1.reduction)

theorem Audio.follow_fits {a : Audio} (h1 : a.ch1.wf = true) (h2 : a.ch2.wf = true) : a.follow.gainsFit := by
  unfold Audio.follow
  split
  · exact ⟨h1, ChannelRec.apply_wf ⟨(ChannelRec.range_of_wf h1).1, (ChannelRec.range_of_wf h1).2.1, (ChannelRec.range_of_wf h2).2.2⟩, fun _ => ⟨rfl, rfl, rfl⟩⟩
  · next hl => exact ⟨h1, h2, fun h => absurd h hl⟩

theorem Audio.follow_stands (a : Audio) : a.follow.power = a.power ∧ a.follow.link = a.link := by
  unfold Audio.follow
  split <;> exact ⟨rfl, rfl⟩

theorem Audio.setChannel_wf {a : Audio} {c : ChannelRec} (ch : Channel) (hc : c.wf = true) (h : a.gainsFit) :
    (a.setChannel c ch).ch1.wf = true ∧ (a.setChannel c ch).ch2.wf = true := by
  cases ch
  · exact ⟨hc, h.2.1⟩
  · exact ⟨h.1, hc⟩

theorem Audio.channel_wf {a : Audio} (ch : Channel) (h : a.gainsFit) : (a.channel ch).wf = true := by
  cases ch
  · exact h.1
  · exact h.2.1

/-- A channel replaced by one with the same gains and gain source. -/
theorem Audio.setChannel_fits {a : Audio} {c : ChannelRec} (ch : Channel) (hc : (a.channel ch).wf = true → c.wf = true)
    (hs : c.source = (a.channel ch).source) (hg : c.setGain = (a.channel ch).setGain)
    (hr : c.reduction = (a.channel ch).reduction) (h : a.gainsFit) : (a.setChannel c ch).gainsFit := by
  obtain ⟨w1, w2⟩ := Audio.setChannel_wf ch (hc (Audio.channel_wf ch h)) h
  refine ⟨w1, w2, fun hl => ?_⟩
  cases ch
  · obtain ⟨e1, e2, e3⟩ := h.2.2 hl
    exact ⟨e1.trans hs.symm, e2.trans hg.symm, e3.trans hr.symm⟩
  · obtain ⟨e1, e2, e3⟩ := h.2.2 hl
    exact ⟨hs.trans e1, hg.trans e2, hr.trans e3⟩

section audio
variable {i : Instr} (s : State)

theorem Audio.setChannel_power (a : Audio) (c : ChannelRec) (ch : Channel) : (a.setChannel c ch).power = a.power := by
  cases ch <;> rfl

/-- A channel changed in its meter, its counts and its over condition. -/
theorem Keeps.channel {c : ChannelRec} (ch : Channel) (hc : (s.audio.channel ch).wf = true → c.wf = true)
    (hs : c.source = (s.audio.channel ch).source) (hg : c.setGain = (s.audio.channel ch).setGain)
    (hr : c.reduction = (s.audio.channel ch).reduction) : Keeps i s { s with audio := s.audio.setChannel c ch } :=
  Keeps.audio (Audio.setChannel_power _ _ _) (Audio.setChannel_fits ch hc hs hg hr)

theorem State.setChannel_keeps {c : ChannelRec} (ch : Channel) (hc : (s.audio.channel ch).wf = true → c.wf = true) :
    Keeps i s (s.setChannel ch c) :=
  Keeps.audio ((Audio.follow_stands _).1.trans (Audio.setChannel_power _ _ _)) fun h =>
    have ⟨w1, w2⟩ := Audio.setChannel_wf ch (hc (Audio.channel_wf ch h)) h
    Audio.follow_fits w1 w2

theorem State.endOver_keeps (ch : Channel) : Keeps i s (s.endOver ch) := by
  have h : Keeps i s { s with audio := s.audio.setChannel { s.audio.channel ch with isOver := false } ch } :=
    Keeps.channel s ch (ChannelRec.wf_congr rfl rfl rfl rfl rfl) rfl rfl rfl
  exact .ite (fun _ => h.trans (Keeps.log _ fun _ => ClipLog.overEnds_sound ch)) fun _ => .refl _ _

/-- An over flag that joins the OPEN record (R138). -/
theorem ClipRec.withOver_stands (r : ClipRec) (a b : Bool) : (r.withOver a b).number = r.number ∧
    (r.withOver a b).state = r.state ∧ (r.wf = true → (r.withOver a b).wf = true) := by
  unfold ClipRec.withOver
  split <;> exact ⟨rfl, rfl, id⟩

theorem State.takeLevels_keeps (pair : ResultRec × ResultRec) : Keeps i s (s.takeLevels pair) := by
  obtain ⟨a, b⟩ := pair
  obtain ⟨u, m, hu, eu, h1, h2, h3⟩ := State.takeLevels_taken a b s
  rw [← hu, eu]
  have hl : Keeps i s { s with log := {
      over1 := if u.audio.ch1.isOver = s.audio.ch1.isOver then s.log.over1 else u.audio.ch1.isOver
      over2 := if u.audio.ch2.isOver = s.audio.ch2.isOver then s.log.over2 else u.audio.ch2.isOver
      records := s.log.records.map fun r => r.withOver (u.audio.ch1.isOver && !s.audio.ch1.isOver)
        (u.audio.ch2.isOver && !s.audio.ch2.isOver) } } :=
    Keeps.log s fun _ => ClipLog.sound_map _ rfl (fun r => (r.withOver_stands _ _).1) (fun r => (r.withOver_stands _ _).2.1)
      fun r _ => (r.withOver_stands _ _).2.2
  refine (hl.trans (Keeps.warnings _ _)).trans (Keeps.audio rfl fun ⟨w1, w2, _⟩ => ?_)
  have g1 := h1.wf w1
  have g2 := h2.wf w2
  refine ⟨g1, ?_, fun hlink => ?_⟩
  · show u.audio.ch2.wf = true
    rw [h3]
    split
    · exact (ChannelRec.wf_iff _).2 ⟨rfl, (ChannelRec.range_of_wf g1).1, (ChannelRec.range_of_wf g1).2.1, (ChannelRec.range_of_wf g2).2.2⟩
    · exact g2
  · show u.audio.ch2.source = u.audio.ch1.source ∧ u.audio.ch2.setGain = u.audio.ch1.setGain ∧
      u.audio.ch2.reduction = u.audio.ch1.reduction
    rw [h3, if_pos hlink]
    exact ⟨rfl, rfl, rfl⟩

/-- A change of the audio level unit apart from its channels and the link. -/
theorem Keeps.audioCounts {a : Audio} (hp : a.power = s.audio.power) (h1 : a.ch1 = s.audio.ch1) (h2 : a.ch2 = s.audio.ch2)
    (hl : a.link = s.audio.link) : Keeps i s { s with audio := a } :=
  Keeps.audio hp (by simp only [GainInv, h1, h2, hl]; exact id)

theorem State.level_keeps : Keeps i s s.level := by
  unfold State.level
  split
  · exact State.takeLevels_keeps s _
  · exact Keeps.audioCounts s rfl rfl rfl rfl

theorem State.knobDetent_keeps (ch : Channel) (up : Bool) : Keeps i s (s.knobDetent ch up) := by
  unfold State.knobDetent
  dsimp only
  split
  · exact State.beep_keeps s _
  · have h : ∀ g, ((s.audio.channel ch).wf = true → g ≤ 63) →
        Keeps i s (s.setChannel ch (((s.audio.channel ch).setSource .panel).setGainTo g)) := fun g hg =>
      State.setChannel_keeps s ch fun hc => ChannelRec.setGainTo_wf (hg hc) (ChannelRec.setSource_wf _ hc)
    have hg : (s.audio.channel ch).wf = true →
        (if up = true then min 63 ((s.audio.channel ch).setGain + 1) else (s.audio.channel ch).setGain - 1) ≤ 63 := fun hc => by
      have := (ChannelRec.range_of_wf hc).1
      split <;> omega
    split
    · exact h _ hg
    · exact (h _ hg).trans (State.post_keeps _ _)

theorem State.audioAuto_keeps (ch : Channel) : Keeps i s (s.audioAuto ch) := by
  have h : ∀ g, Keeps i s (s.setChannel ch ((s.audio.channel ch).setSource g)) := fun g =>
    State.setChannel_keeps s ch (ChannelRec.setSource_wf g)
  exact .ite (fun _ => State.beep_keeps s _) fun _ => (h _).trans (State.post_keeps _ _)

/-! ## AUDIO_CONFIG -/

theorem ChannelRec.configure_wf {c : ChannelRec} {a : ChannelConfig} (now : Nat) (ha : a.agcMax ≤ 63) (h : c.wf = true) :
    (c.configure a now).wf = true := by
  rw [ChannelRec.configure_eq c a now (ChannelRec.applied_of_wf h)]
  exact ChannelRec.configuredChannel_wf now ha h

theorem ChannelRec.setInput_wf {c : ChannelRec} (x : AudioInput) (now : Nat) (h : c.wf = true) : (c.setInput x now).wf = true := by
  rw [ChannelRec.setInput_eq c x now (ChannelRec.applied_of_wf h)]
  have hr := ChannelRec.range_of_wf h
  exact (ChannelRec.wf_iff _).2 ⟨rfl, hr⟩

theorem ChannelRec.configure2_wf {c : ChannelRec} {a : AudioConfigArgs} (linked : Bool) (now : Nat) (ha : a.ch2.agcMax ≤ 63)
    (h : c.wf = true) : (c.configure2 a linked now).wf = true := by
  unfold ChannelRec.configure2
  split
  · split
    · have hi := ChannelRec.setInput_wf a.ch2.input now h
      obtain ⟨happ, hset, hred, -⟩ := (ChannelRec.wf_iff _).1 hi
      exact (ChannelRec.wf_iff _).2 ⟨happ, hset, hred, ha⟩
    · exact ChannelRec.configure_wf now ha h
  · exact ChannelRec.configure_wf now ha h

theorem Audio.configure_fits {t : Audio} {a : AudioConfigArgs} (now : Nat) (ha : audioLegal a = true) (h : t.gainsFit) :
    (t.configure a now).gainsFit := by
  simp only [audioLegal, decide_eq_true_eq] at ha
  obtain ⟨w1, w2, -⟩ := h
  have f := Audio.follow_fits (a := { t with ch1 := t.ch1.configure a.ch1 now }) (ChannelRec.configure_wf now ha.1 w1) w2
  have g2 := ChannelRec.configure2_wf t.link now ha.2 f.2.1
  unfold Audio.configure Audio.setLink
  dsimp only
  split
  · exact Audio.follow_fits f.1 g2
  · split
    · exact ⟨f.1, ChannelRec.wf_congr (c := ChannelRec.configure2 _ a t.link now) rfl rfl rfl rfl rfl g2, fun h => nomatch h⟩
    · next hl => exact ⟨f.1, g2, fun h => absurd h hl⟩

theorem Audio.configure_power (t : Audio) (a : AudioConfigArgs) (now : Nat) : (t.configure a now).power = t.power := by
  unfold Audio.configure Audio.setLink
  dsimp only
  split
  · exact (Audio.follow_stands _).1.trans (Audio.follow_stands _).1
  · split <;> exact (Audio.follow_stands _).1

/-- The audio level unit at a change of the power state: the copy is a matter of `State.setPower` (R160). -/
theorem State.audioPower_kept (p : PowerState) : Kept i s (s.audioPower p) := by
  have h : Kept i s { s with audio.power := p } := { Kept.refl i s with }
  unfold State.audioPower
  dsimp only
  split
  · refine (h.trans ((State.endOver_keeps _ .ch1).trans (State.endOver_keeps _ .ch2)).toKept).trans ?_
    refine { Kept.refl i _ with gains := fun ⟨w1, w2, h3⟩ => ⟨?_, ?_, h3⟩ }
    · exact ChannelRec.wf_congr (c := (((({ s with audio.power := p } : State).endOver .ch1).endOver .ch2).audio.ch1)) rfl rfl rfl rfl rfl w1
    · exact ChannelRec.wf_congr (c := (((({ s with audio.power := p } : State).endOver .ch1).endOver .ch2).audio.ch2)) rfl rfl rfl rfl rfl w2
  · exact h

end audio

end Sys2Proof.Machine

/-! What the control scanner's own operations keep, and what a change of the power state keeps. -/

namespace Sys2Proof.Machine

/-! ## Tokens, held records and the rocker -/

section scanner
variable {i : Instr} (s : State)

theorem State.token_keeps (t : BitVec 16) : Keeps i s (s.token t) := by
  have h (hl : s.controls.tokens.length < 16) : Keeps i s { s with controls.tokens := s.controls.tokens ++ [t] } :=
    Keeps.controls fun _ => by simpa using hl
  unfold State.token
  split
  · next hl =>
    split
    · exact (h hl).trans (State.post_keeps _ _)
    · exact h hl
  · exact (State.warn_keeps s _).trans (State.beep_keeps _ _)

theorem State.tokenIf_keeps (made : Bool) (t : BitVec 16) : Keeps i s (s.tokenIf made t) :=
  .ite (fun _ => State.token_keeps s t) fun _ => .refl _ _

theorem State.flush_keeps : Keeps i s s.flush := by
  have h : Keeps i s { s with controls.tokens := [flushToken] } := Keeps.controls fun _ => by simp
  exact .ite (fun _ => h.trans (State.post_keeps _ _)) fun _ => h

theorem State.setSwitch_keeps (n : Fin 24) (w : Switch) : Keeps i s (s.setSwitch n w) := Keeps.scanner s rfl

theorem State.setHeld_keeps (n : Fin 24) (h : Option Held) : Keeps i s (s.setHeld n h) := State.setSwitch_keeps s _ _

theorem State.setAccepted_keeps (n : Fin 24) (level : Bool) : Keeps i s (s.setAccepted n level) := State.setSwitch_keeps s _ _

theorem State.pressModifiers_keeps (n : Fin 24) (h : Held) : Keeps i s (s.pressModifiers n h) := by
  unfold State.pressModifiers
  split <;> first | exact .refl _ _ | exact Keeps.scanner s rfl

theorem State.releaseModifiers_keeps (n : Fin 24) (h : Held) : Keeps i s (s.releaseModifiers n h) := by
  unfold State.releaseModifiers
  split
  · exact .refl _ _
  · split <;> first | exact .refl _ _ | exact Keeps.scanner s rfl

theorem State.dropHeld_keeps (n : Fin 24) : Keeps i s (s.dropHeld n) := by
  unfold State.dropHeld
  split
  · exact (State.setHeld_keeps s _ _).trans (State.releaseModifiers_keeps _ _ _)
  · exact .refl _ _

theorem State.setRocker_keeps (k : Rocker) : Keeps i s (s.setRocker k) := by
  have h : Keeps i s { s with controls.rocker := k } := Keeps.scanner s rfl
  exact .ite (fun _ => h) fun _ => h.trans (State.rockerDemand_keeps _ _)

theorem State.scannerPower_keeps (old new : PowerState) : Keeps i s (s.scannerPower old new) := by
  have h (c : Controls) (hc : c.tokens = s.controls.tokens) : Keeps i s { s with controls := c } := Keeps.scanner s hc
  unfold State.scannerPower
  split
  · exact h _ (by simp only [Controls.readEncoders, Controls.startUp])
  · exact h _ (by simp only [Controls.readEncoders, Controls.resume])
  · exact (h _ (by simp only [Controls.silence])).trans (State.setRocker_keeps _ _)
  · exact (h _ (by simp only [Controls.silence])).trans (State.setRocker_keeps _ _)
  · exact .refl _ _

end scanner

/-! ## A change of the power state -/

section power
variable {i : Instr} (s : State)

theorem State.lensPower_kept (old new : PowerState) : Kept i s (s.lensPower old new) := by
  unfold State.lensPower State.lensRun
  split
  · split
    · exact (State.driveLens_kept s).trans ((State.beginHoming_keeps _ _).trans (State.beginHoming_keeps _ _)).toKept
    · exact State.driveLens_kept s
  · exact State.haltLens_kept s _
  · exact .refl _ _
  · exact .refl _ _

theorem State.stabPower_kept (p : PowerState) : Kept i s (s.stabPower p) := by
  have h : Kept i s { s with stab := ({ s.stab with cond := { s.stab.cond with
      run := p = .run, gyroValid := s.stab.cond.gyroValid && decide (p = .run) } } : Stabiliser).reevaluate } := { Kept.refl i s with
    stab := fun ⟨hz, hg, hs⟩ => ⟨by rw [Stabiliser.reevaluate_cond]; exact hz, by rw [Stabiliser.reevaluate_cond]; exact hg,
      Stabiliser.reevaluate_sound fun h => hs.2 h⟩ }
  exact Kept.stabBecomes s h

theorem State.timecodePower_keeps (old new : PowerState) : Keeps i s (s.timecodePower old new) := by
  unfold State.timecodePower
  split <;> first | exact State.reportDifference_keeps s | exact .refl _ _

theorem State.recPower_kept (p : PowerState) : Kept i s (s.recPower p) := by
  have h : Kept i s { s with recorder.power := p } := { Kept.refl i s with }
  unfold State.recPower
  dsimp only
  split
  · next hs => exact h.trans (State.failStart_keeps { s with recorder.power := .shutdown } _ fun _ => hs).toKept
  · next hs => exact h.trans (State.stopRecording_keeps { s with recorder.power := .shutdown } _ fun _ => hs).toKept
  · exact h

theorem Overlay.onPower_stands (o : Overlay) (p : PowerState) :
    (o.onPower p).fields = o.fields ∧ (o.onPower p).menu = o.menu ∧ (o.onPower p).saved = o.saved ∧
      (o.onPower p).displayed = o.displayed ∧ (o.onPower p).power = p := by
  unfold Overlay.onPower
  split <;> split <;> simp [Overlay.markPage, Overlay.dropWaiting]

theorem State.onPower_kept (p : PowerState) : Kept i s { s with ovl := s.ovl.onPower p } := by
  obtain ⟨hf, hm, hs, hd, -⟩ := Overlay.onPower_stands s.ovl p
  exact { Kept.refl i s with
    fields := by simp only [FieldsInv, hf]; exact id
    menu := by simp only [MenuInv, hm, hs, hd]; exact id }

theorem State.setPower_kept (p : PowerState) : Kept i s (s.setPower p) := by
  have h : Kept i s { s with supply.power := p } := { Kept.refl i s with }
  exact h.trans <| (State.scannerPower_keeps _ _ _).toKept.trans <| (State.lensPower_kept _ _ _).trans <|
    (State.stabPower_kept _ _).trans <| (State.timecodePower_keeps _ _ _).toKept.trans <| (State.recPower_kept _ _).trans <|
    (State.audioPower_kept _ _).trans (State.onPower_kept _ _)

end power

end Sys2Proof.Machine

/-! What the changes of the power state and of the supply state keep of the copies of the power state. -/

namespace Sys2Proof.Machine

/-! ## The copies after a change of the power state -/

/-- What a change of the power state to `p` hands out (R185): the copies, the float state (R39), the report of the reference (R93). -/
structure PowerHanded (p : PowerState) (s t : State) : Prop where
  power : t.supply.power = p
  exit : t.supply.exit = s.supply.exit
  shutdown : t.supply.shutdown = s.supply.shutdown
  recorder : t.recorder.power = p
  audio : t.audio.power = p
  ovl : t.ovl.power = p
  run : t.stab.cond.run = decide (p = .run)
  driven : p = .run → t.lens.floating = false
  floats : p = .standby → t.lens.floating = true
  present : t.tc.present = s.tc.present
  reported : p = .run ∨ p = .shutdown ∧ s.supply.power = .standby → t.tc.reported = t.tc.present
  unreported : ¬(p = .run ∨ p = .shutdown ∧ s.supply.power = .standby) → t.tc.reported = s.tc.reported

section handed
variable (s : State)

theorem State.recPower_power (p : PowerState) : (s.recPower p).recorder.power = p ∧
    (s.recPower p).supply.power = s.supply.power ∧ (s.recPower p).supply.exit = s.supply.exit ∧
    (s.recPower p).supply.shutdown = s.supply.shutdown ∧ (s.recPower p).tc.present = s.tc.present ∧
    (s.recPower p).tc.reported = s.tc.reported := by
  unfold State.recPower State.failStart State.stopRecording State.setRecState
  split <;> simp [State.post, State.warn, State.setWarned, State.condition, State.tally, Recorder.setTally]

theorem State.audioPower_power (p : PowerState) : (s.audioPower p).audio.power = p := by
  unfold State.audioPower State.endOver
  split
  · dsimp only
    split <;> split <;> rfl
  · rfl

theorem State.timecodePower_reported (old new : PowerState) :
    (s.timecodePower old new).tc.present = s.tc.present ∧ (s.timecodePower old new).ovl.power = s.ovl.power ∧
    (new = .run ∨ new = .shutdown ∧ old = .standby → (s.timecodePower old new).tc.reported = s.tc.present) ∧
    (¬(new = .run ∨ new = .shutdown ∧ old = .standby) → (s.timecodePower old new).tc.reported = s.tc.reported) := by
  have h : s.reportDifference.tc.present = s.tc.present ∧ s.reportDifference.ovl.power = s.ovl.power ∧
      s.reportDifference.tc.reported = s.tc.present := by
    refine ⟨?_, State.reportDifference_ovlPower s, ?_⟩
    · unfold State.reportDifference State.reportReference
      split <;> rfl
    · unfold State.reportDifference State.reportReference
      split
      · next e => exact e.symm
      · rfl
  obtain ⟨h1, h2, h3⟩ := h
  unfold State.timecodePower
  cases new <;> cases old <;> simp [h1, h2, h3]

theorem State.stabPower_run (p : PowerState) : (s.stabPower p).stab.cond.run = decide (p = .run) := by
  unfold State.stabPower State.stabUpdate State.stabBecomes
  dsimp only
  split
  · exact (congrArg Conditions.run (Stabiliser.reevaluate_cond _)).trans rfl
  · exact (congrArg Conditions.run (Stabiliser.reevaluate_cond _)).trans rfl

theorem State.beginHoming_floating (ax : Axis) : (s.beginHoming ax).lens.floating = s.lens.floating := by
  unfold State.beginHoming
  rw [State.endHold_eq]
  cases ax
  · simp only [State.stabZoom, State.stabUpdate_frame]
    rfl
  · rfl

theorem State.lensPower_floating (old new : PowerState) : (new = .run → (s.lensPower old new).lens.floating = false) ∧
    (new = .standby → (s.lensPower old new).lens.floating = true) := by
  refine ⟨?_, ?_⟩
  · rintro rfl
    unfold State.lensPower State.lensRun
    dsimp only
    split
    · rw [State.beginHoming_floating, State.beginHoming_floating]; rfl
    · rfl
  · rintro rfl; rfl

theorem State.setPower_handed (p : PowerState) : PowerHanded p s (s.setPower p) := by
  let a : State := ({ s with supply.power := p } : State).scannerPower s.supply.power p
  let b : State := (a.lensPower s.supply.power p).stabPower p
  let d : State := b.timecodePower s.supply.power p
  have hs : d.supply = { s.supply with power := p } := by simp [d, b, a]
  have hl : d.lens = (a.lensPower s.supply.power p).lens := by simp [d, b]
  have ht : b.tc = s.tc := by simp [b, a]
  have hr : d.stab.cond.run = decide (p = .run) := by
    have e : d.stab = b.stab := by simp [d]
    rw [e]
    exact State.stabPower_run _ p
  obtain ⟨r1, r2, r3, r4, r5, r6⟩ := State.recPower_power d p
  obtain ⟨t1, -, t3, t4⟩ := State.timecodePower_reported b s.supply.power p
  obtain ⟨f1, f2⟩ := State.lensPower_floating a s.supply.power p
  have e : s.setPower p = { (d.recPower p).audioPower p with ovl := ((d.recPower p).audioPower p).ovl.onPower p } := rfl
  rw [e]
  have ea := State.audioPower_frame p (d.recPower p)
  have er := State.recPower_frame p d
  exact {
    power := by simp only [ea, r2, hs]
    exit := by simp only [ea, r3, hs]
    shutdown := by simp only [ea, r4, hs]
    recorder := by simp only [ea, r1]
    audio := State.audioPower_power _ _
    ovl := (Overlay.onPower_stands _ _).2.2.2.2
    run := by simp only [ea, er, hr]
    driven := fun h => by simp only [ea, er, hl, f1 h]
    floats := fun h => by simp only [ea, er, hl, f2 h]
    present := by simp only [ea, r5, d, t1, ht]
    reported := fun h => by simp only [ea, r5, r6, d, t1, t3 h]
    unreported := fun h => by simp only [ea, r6, d, t4 h, ht] }

end handed

/-! ## The entries into RUN, STANDBY and SHUTDOWN -/

section entries
variable {i : Instr} (s : State)

/-- A change of the power state by way of which every block is handed it, once exits and shutdowns fit the state entered. -/
theorem Keeps.handed {p : PowerState} {t : State} (hk : Kept i s t) (h : PowerHanded p s t)
    (he : PowerInv s → s.supply.exit.isSome = true → p = .standby)
    (hs : PowerInv s → (s.supply.shutdown.isSome = true ↔ p = .shutdown))
    (hr : ∀ r, s.supply.shutdown = some ⟨r, .released⟩ → PowerInv s → t.supply.pwrHold = false)
    (hf : p = .init → FloatInv s ∧ PowerInv s → t.lens.floating = true)
    (hd : p = .shutdown → s.supply.power = .run ∨ s.supply.power = .standby) : Keeps i s t where
  toKept := hk
  power hp := by
    refine ⟨h.recorder.trans h.power.symm, h.audio.trans h.power.symm, h.ovl.trans h.power.symm, ?_, ?_, ?_⟩
    · rw [h.exit, h.power]; exact he hp
    · rw [h.shutdown, h.power]; exact hs hp
    · rw [h.shutdown]; exact fun r hr' => hr r hr' hp
  recorderPower _ := h.recorder.trans h.power.symm
  runCopy _ := by unfold RunCopy; rw [h.run, h.power]
  float hp := by
    unfold FloatInv
    rw [h.power]
    exact ⟨h.driven, fun g => g.elim (fun g => hf g hp) h.floats⟩
  reported hrep hpow := by
    rw [h.power] at hpow
    by_cases g : p = .run ∨ p = .shutdown ∧ s.supply.power = .standby
    · exact h.reported g
    · rw [h.unreported g, h.present]
      have hps : p = .shutdown := hpow.resolve_left fun e => g (.inl e)
      exact hrep (.inl ((hd hps).resolve_right fun e => g (.inr ⟨hps, e⟩)))

theorem PowerHanded.congr {p : PowerState} {s s' t : State} (h : PowerHanded p s t) (hp : s'.supply.power = s.supply.power)
    (he : s'.supply.exit = s.supply.exit) (hs : s'.supply.shutdown = s.supply.shutdown) (ht : s'.tc = s.tc) :
    PowerHanded p s' t :=
  { h with
    exit := h.exit.trans he.symm, shutdown := h.shutdown.trans hs.symm, present := h.present.trans (by rw [ht])
    reported := by rw [hp]; exact h.reported
    unreported := by rw [hp, ht]; exact h.unreported }

/-- A change of what is under way in the supply monitor: the power state stands. -/
theorem Keeps.underWay {p : Supply} (hp : p.power = s.supply.power)
    (hh : p.pwrHold = s.supply.pwrHold ∨ i = .pwrHoldRelease ∧ p.pwrHold = false)
    (hr : p.recState = s.supply.recState) (hst : p.state = s.supply.state)
    (h : PowerInv s → PowerInv { s with supply := p }) : Keeps i s { s with supply := p } :=
  { Keeps.refl i s with
    pwrHold := hh
    clips := by simp only [ClipCore, LogInv, SupplyInv, hr, hst]; exact id
    power := h
    recorderPower := by simp only [RecorderPower, hp]; exact id
    runCopy := by simp only [RunCopy, hp]; exact id
    reported := by simp only [ReportedInForce, hp]; exact id
    float := by simp only [FloatInv, hp]; exact And.left }

/-- Entry to SHUTDOWN (R188). -/
theorem State.beginShutdown_keeps (r : ShutdownReason) : Keeps i s (s.beginShutdown r) := by
  have hb : Kept i s { s with supply.shutdown := some ⟨r, .waiting⟩, supply.exit := none } := { Kept.refl i s with }
  have h (hp : s.supply.power = .run ∨ s.supply.power = .standby) :
      Keeps i s ({ s with supply.shutdown := some ⟨r, .waiting⟩, supply.exit := none }.setPower .shutdown) := by
    have hk := hb.trans (State.setPower_kept _ .shutdown)
    have hh := State.setPower_handed { s with supply.shutdown := some ⟨r, .waiting⟩, supply.exit := none } .shutdown
    exact {
      toKept := hk
      power := fun _ => by
        refine ⟨hh.recorder.trans hh.power.symm, hh.audio.trans hh.power.symm, hh.ovl.trans hh.power.symm, ?_, ?_, ?_⟩
        · rw [hh.exit]; exact fun h => nomatch h
        · rw [hh.shutdown, hh.power]; exact ⟨fun _ => rfl, fun _ => rfl⟩
        · rw [hh.shutdown]; exact fun _ h => nomatch h
      recorderPower := fun _ => hh.recorder.trans hh.power.symm
      runCopy := fun _ => by unfold RunCopy; rw [hh.run, hh.power]
      float := fun _ => by unfold FloatInv; rw [hh.power]; exact ⟨nofun, nofun⟩
      reported := fun hrep _ => by
        rcases hp with e | e
        · rw [hh.unreported (by simp [e]), hh.present]; exact hrep (.inl e)
        · exact hh.reported (.inr ⟨rfl, e⟩) }
  unfold State.beginShutdown
  split
  · next e => exact (h (.inl e)).trans (State.post_keeps _ _)
  · next e => exact (h (.inr e)).trans (State.post_keeps _ _)
  · exact .refl _ _
  · exact .refl _ _

/-- Entry to STANDBY (R186). -/
theorem State.enterStandby_keeps (hp : s.supply.power = .run) : Keeps i s (s.setPower .standby) :=
  Keeps.handed s (State.setPower_kept s _) (State.setPower_handed s _) (fun _ _ => rfl)
    (fun ⟨_, _, _, _, h, _⟩ => by rw [h, hp]; exact ⟨nofun, nofun⟩)
    (fun r hr ⟨_, _, _, _, h, _⟩ => by rw [hr, hp] at h; exact absurd (h.1 rfl) nofun) nofun nofun

/-- The end of the INIT calibration (R185). -/
theorem State.endInit_keeps (passed : Bool) : Keeps i s (s.endInit passed) := by
  refine .ite (fun hp => ?_) fun _ => .refl _ _
  refine Keeps.trans (t := s.post (.ready s.supply.resetKind passed)) (State.post_keeps s _) ?_
  refine Keeps.handed _ (State.setPower_kept _ _) (State.setPower_handed _ _) ?_ ?_ ?_ nofun nofun
  · rintro ⟨-, -, -, h, -⟩ he
    exact absurd (hp.symm.trans (h he)) nofun
  · rintro ⟨-, -, -, -, h, -⟩
    rw [h]
    exact ⟨fun e => absurd (hp.symm.trans e) nofun, nofun⟩
  · rintro r hr ⟨-, -, -, -, h, -⟩
    exact absurd (hp.symm.trans (h.1 (by rw [hr]; rfl))) nofun

/-- The end of the exit calibration (R187). -/
theorem State.endExit_keeps (passed : Bool) : Keeps i s (s.endExit passed) := by
  unfold State.endExit
  split
  · next src hx =>
    refine (State.post_keeps s (.wake src passed)).trans ?_
    generalize hu : s.post (.wake src passed) = u
    have hxu : u.supply.exit = some src := by rw [← hu]; exact hx
    have hk := State.setPower_kept (i := i) u .run
    have hh := State.setPower_handed u .run
    have hpow : PowerInv u → u.supply.power = .standby := fun ⟨_, _, _, h, _⟩ => h (by rw [hxu]; rfl)
    have hsd : PowerInv u → (u.supply.shutdown.isSome = true ↔ False) := fun hp => by
      obtain ⟨-, -, -, -, h, -⟩ := id hp
      rw [h, hpow hp]
      simp
    exact {
      toKept := hk.trans { Kept.refl i _ with }
      power := fun hp => by
        refine ⟨hh.recorder.trans hh.power.symm, hh.audio.trans hh.power.symm, hh.ovl.trans hh.power.symm, nofun, ?_, ?_⟩
        · dsimp only
          rw [hh.shutdown, hh.power, hsd hp]
          simp
        · dsimp only
          rw [hh.shutdown]
          intro r hr
          exact ((hsd hp).1 (by rw [hr]; rfl)).elim
      recorderPower := fun _ => hh.recorder.trans hh.power.symm
      runCopy := fun _ => by unfold RunCopy; dsimp only; rw [hh.run, hh.power]
      float := fun _ => by
        unfold FloatInv
        dsimp only
        rw [hh.power]
        exact ⟨hh.driven, nofun⟩
      reported := fun _ _ => hh.reported (.inl rfl) }
  · exact .refl _ _

theorem Keeps.lensStopped {r : ShutdownReason} (t : Nat) (h : s.supply.shutdown = some ⟨r, .waiting⟩) :
    Keeps i s { s with lens.override := none, lens.floating := true, supply.shutdown := some ⟨r, .lensStopped t⟩ } := by
  have hp (hi : PowerInv s) : s.supply.power = .shutdown := by
    obtain ⟨-, -, -, -, h5, -⟩ := hi
    exact h5.1 (by rw [h]; rfl)
  exact { Keeps.refl i s with
    power := fun hi => by
      obtain ⟨h1, h2, h3, h4, -, -⟩ := id hi
      exact ⟨h1, h2, h3, h4, ⟨fun _ => hp hi, fun _ => rfl⟩, nofun⟩
    float := fun hi => by
      have e := hp hi.2
      exact ⟨fun g => absurd (e.symm.trans g) nofun, fun _ => rfl⟩ }

/-- The lens stop of a shutdown (R188, 3). -/
theorem State.lensStopped_keeps {r : ShutdownReason} (t : Nat) (h : s.supply.shutdown = some ⟨r, .waiting⟩) :
    Keeps i s { s.haltLens .shutdown with supply.shutdown := some ⟨r, .lensStopped t⟩ } := by
  have hp := (State.haltAxis_keeps (i := i) s .zoom .shutdown).trans (State.haltAxis_keeps _ .focus .shutdown)
  exact hp.trans (Keeps.lensStopped _ t (by simpa using h))

/-- The release of PWR_HOLD (R188, 4). -/
theorem State.released_keeps {r : ShutdownReason} {t : Nat} (h : s.supply.shutdown = some ⟨r, .lensStopped t⟩)
    (hi : i = .pwrHoldRelease) : Keeps i s { s with supply.shutdown := some ⟨r, .released⟩, supply.pwrHold := false } :=
  Keeps.underWay (p := { s.supply with shutdown := some ⟨r, .released⟩, pwrHold := false }) s rfl (.inr ⟨hi, rfl⟩) rfl rfl
    fun ⟨h1, h2, h3, h4, h5, _⟩ => ⟨h1, h2, h3, h4, ⟨fun _ => h5.1 (by rw [h]; rfl), fun _ => rfl⟩, fun _ _ => rfl⟩

end entries

/-! ## The supply state -/

section supply
variable {i : Instr} (s : State)

/-- The lens drive's halving alone (R184). -/
theorem Keeps.halving (b : Bool) : Keeps i s { s with lens.halving := b } :=
  Keeps.lensSettings s rfl rfl rfl rfl

theorem State.supplyWarnings_keeps (st : SupplyState) : Keeps i s (s.supplyWarnings st) :=
  (State.condition_keeps s _ _).trans ((State.condition_keeps _ _ _).trans (State.condition_keeps _ _ _))

/-- The supply state, handed to the record supervisor in a record state that suits it (R184). -/
theorem Keeps.supplyTold (st : SupplyState)
    (h : ClipCore s → st = .low ∨ st = .cutoff → s.recorder.state = .standby ∨ s.recorder.state = .stopping) :
    Keeps i s { s with supply.state := st, recorder.supplyState := st } :=
  { Keeps.refl i s with
    clips := fun hc => by
      have hst := h hc
      obtain ⟨h1, ⟨e1, e2, -, e4⟩, -⟩ := hc
      exact ⟨h1, ⟨e1, e2, rfl, e4⟩, hst⟩ }

theorem State.failStart_told (reason : FailReason) (st : SupplyState) :
    ({ s with supply.state := st, recorder.supplyState := st } : State).failStart reason =
      { s.failStart reason with supply.state := st, recorder.supplyState := st } := by
  simp only [State.failStart, State.setRecState, State.beep_eq_beeped, State.post, State.warn, State.setWarned, State.tally, Recorder.setTally]

theorem State.stopRecording_told (reason : EndReason) (st : SupplyState) :
    ({ s with supply.state := st, recorder.supplyState := st } : State).stopRecording reason =
      { s.stopRecording reason with supply.state := st, recorder.supplyState := st } := by
  simp only [State.stopRecording, State.setRecState, State.beep_eq_beeped, State.post, State.condition, State.setWarned, State.tally,
    Recorder.setTally]

/-- The supply state and the recorder's copy of it: a start fails and a recording stops where the state is LOW or CUTOFF (R184). -/
theorem State.recSupply_keeps (st : SupplyState) : Keeps i s (({ s with supply.state := st } : State).recSupply st) := by
  have hfail (h : s.recorder.state = .starting) :
      Keeps i s { s.failStart .supply with supply.state := st, recorder.supplyState := st } :=
    (State.failStart_keeps s _ fun _ => h).trans (Keeps.supplyTold _ st fun _ _ => .inl (by simp [State.failStart, State.setRecState]; rfl))
  have hstop (h : s.recorder.state = .recording) :
      Keeps i s { s.stopRecording .supply with supply.state := st, recorder.supplyState := st } :=
    (State.stopRecording_keeps s _ fun _ => h).trans (Keeps.supplyTold _ st fun _ _ => .inr (by simp [State.stopRecording]; rfl))
  unfold State.recSupply
  dsimp only
  split
  · next h => rw [State.failStart_told]; exact hfail h
  · next h => rw [State.failStart_told]; exact hfail h
  · next h => rw [State.stopRecording_told]; exact hstop h
  · next h => rw [State.stopRecording_told]; exact hstop h
  · rename_i st _ _ h1 h2 h3 h4
    refine Keeps.supplyTold s st fun _ hst => ?_
    cases hr : s.recorder.state
    case standby => exact .inl rfl
    case stopping => exact .inr rfl
    case starting => exact (hst.elim (h1 · hr) (h2 · hr)).elim
    case recording => exact (hst.elim (h3 · hr) (h4 · hr)).elim

theorem State.supplyChanged_keeps (old new : SupplyState) :
    Keeps i s (({ s with supply.state := new } : State).supplyChanged old new) := by
  have hp := (State.post_keeps (i := i) s (.supplyState new s.supply.effective s.supply.dcPresent)).trans (State.recSupply_keeps _ new)
  have hw := (hp.trans (Keeps.halving _ (new = SupplyState.low ∨ new = SupplyState.cutoff))).trans (State.supplyWarnings_keeps _ new)
  have hb := hw.trans (.ite (c := old = .normal ∧ new = .warn) (fun _ => State.beep_keeps _ .long) fun _ => .refl _ _)
  exact hb.trans (.ite (fun _ => State.beginShutdown_keeps _ _) fun _ => .refl _ _)

theorem State.supplyState_keeps : Keeps i s s.supplyState :=
  .ite (fun _ => .refl _ _) fun _ => State.supplyChanged_keeps s _ _

theorem State.supplySample_keeps (battery dcin : ResultRec) : Keeps i s (s.supplySample battery dcin) :=
  .ite (fun _ => .refl _ _) fun _ => (Keeps.supply (p := s.supply.sample _ _) rfl rfl rfl rfl rfl rfl).trans (State.supplyState_keeps _)

end supply

end Sys2Proof.Machine

/-! What the command port keeps, and what the shared converter keeps. -/

namespace Sys2Proof.Machine

/-! ## The command port -/

theorem setInHand_length (st : EntryState) (l : List Entry) : (setInHand st l).length = l.length := by
  induction l with
  | nil => rfl
  | cons e es ih =>
    unfold setInHand
    split <;> simp [ih]

theorem releaseEntry_length_le (l : List Entry) : (releaseEntry l).length ≤ l.length := by
  induction l with
  | nil => exact le_rfl
  | cons e es ih =>
    unfold releaseEntry
    split
    · simp
    · simpa using ih

theorem dropUntaken_length_le (l : List Entry) : (dropUntaken l).length ≤ l.length := by
  induction l with
  | nil => exact le_rfl
  | cons e es ih =>
    unfold dropUntaken
    split
    · simpa using ih
    · simpa using List.length_filter_le _ _

/-- A port with the same replies, frame being sent and notices, and no longer a queue. -/
theorem Port.fits_of {p q : Port} (hq : q.queue.length ≤ p.queue.length) (hr : q.replies = p.replies) (ht : q.tx = p.tx)
    (hn : q.notices = p.notices) (h : p.fits) : q.fits :=
  ⟨hq.trans h.1, (Port.overruns_eq_of hr ht).trans_le h.2.1, by rw [hn]; exact h.2.2⟩

theorem Port.arrive_fits {p : Port} (kind tag : Byte) (payload : Option (List Byte)) (h : p.fits) :
    (p.arrive kind tag payload).fits := by
  obtain ⟨h1, h2, h3⟩ := h
  unfold Port.arrive
  split
  · exact ⟨by simp only [List.length_append, List.length_singleton]; omega, h2, h3⟩
  · split
    · refine ⟨h1, ?_, h3⟩
      have : ({ p with replies := p.replies ++ [mkReply kind tag .overrun .none .none true] } : Port).overruns = p.overruns + 1 := by
        simp [Port.overruns, mkReply]
        omega
      omega
    · exact ⟨h1, h2, h3⟩

theorem Port.bring_fits {p : Port} (kind tag : Byte) (h : p.fits) : (p.bring kind tag).fits := by
  unfold Port.bring
  split
  · exact h
  · exact Port.arrive_fits _ _ _ h

theorem Port.answer_fits {p : Port} (kind tag : Byte) (r : Result) (x : Reason) (b : Body) (h : p.fits) :
    (p.answer kind tag r x b).fits := by
  obtain ⟨h1, h2, h3⟩ := h
  refine ⟨(setInHand_length _ _).trans_le h1, ?_, h3⟩
  have : (p.answer kind tag r x b).overruns = p.overruns := by simp [Port.overruns, Port.answer, mkReply]
  omega

theorem Port.decided_fits {p : Port} (k : Kind) (tag : Byte) (a : Answer) (h : p.fits) : (p.decided k tag a).fits := by
  unfold Port.decided
  split
  · exact Port.fits_of (p := p) (setInHand_length _ _).le rfl rfl rfl h
  · exact Port.answer_fits _ _ _ _ _ h

theorem Port.answerAccepted_fits {p : Port} (h : p.fits) : p.answerAccepted.fits := by
  unfold Port.answerAccepted
  split
  · split
    · exact Port.answer_fits _ _ _ _ _ h
    · exact h
  · exact h

theorem Port.frameEnd_fits {p : Port} (chars : List Byte) (h : p.fits) : (p.frameEnd chars).fits := by
  have ha (q : Port) (hq : q.queue = p.queue) (hr : q.replies = p.replies) (ht : q.tx = p.tx) (hn : q.notices = p.notices) : q.fits :=
    Port.fits_of (p := p) (by rw [hq]) hr ht hn h
  unfold Port.frameEnd
  split
  · split
    · exact Port.arrive_fits _ _ _ (ha _ rfl rfl rfl rfl)
    · exact ha _ rfl rfl rfl rfl
  · exact ha _ rfl rfl rfl rfl

theorem Port.character_fits {p : Port} (c : Byte) (h : p.fits) : (p.character c).fits := by
  have ha (q : Port) (hq : q.queue = p.queue) (hr : q.replies = p.replies) (ht : q.tx = p.tx) (hn : q.notices = p.notices) : q.fits :=
    Port.fits_of (p := p) (by rw [hq]) hr ht hn h
  unfold Port.character
  split
  · split
    · exact ha _ rfl rfl rfl rfl
    · exact h
  · split <;> exact ha _ rfl rfl rfl rfl
  · dsimp only
    split
    · exact ha _ rfl rfl rfl rfl
    · exact Port.frameEnd_fits _ h

theorem Port.characters_fits {p : Port} (chars : List Byte) (h : p.fits) : (chars.foldl Port.character p).fits := by
  induction chars generalizing p with
  | nil => exact h
  | cons c cs ih => exact ih (Port.character_fits c h)

theorem Port.frameSent_fits {p : Port} (h : p.fits) : p.frameSent.fits := by
  obtain ⟨h1, h2, h3⟩ := h
  unfold Port.frameSent
  split
  · next r part ht =>
    have hs : (p.replies.filter (·.overrun)).length ≤ p.overruns := by simp [Port.overruns]
    split
    · exact ⟨h1, by simpa [Port.overruns, ht] using h2, h3⟩
    · refine ⟨?_, ?_, h3⟩
      · dsimp only
        split
        · exact h1
        · exact (releaseEntry_length_le _).trans h1
      · show (p.replies.filter (·.overrun)).length + 0 ≤ 4
        omega
  · next n ht =>
    have : ({ p with tx := none } : Port).overruns = p.overruns := by simp [Port.overruns, ht]
    exact ⟨h1, this.trans_le h2, h3⟩
  · exact ⟨h1, h2, h3⟩

theorem Port.kick_fits {p : Port} (h : p.fits) : p.kick.fits := by
  obtain ⟨h1, h2, h3⟩ := h
  unfold Port.kick
  split
  · exact ⟨h1, h2, h3⟩
  · next r rs ht hr =>
    refine ⟨h1, ?_, h3⟩
    have : ({ p with tx := some (.reply r 0), replies := rs } : Port).overruns = p.overruns := by
      simp only [Port.overruns, ht, hr, List.filter_cons]
      cases r.overrun <;> simp
    omega
  · next n ns ht hr hn =>
    have : ({ p with tx := some (.notice n), notices := ns } : Port).overruns = p.overruns := by simp [Port.overruns, ht]
    refine ⟨h1, this.trans_le h2, ?_⟩
    rw [hn] at h3
    exact (Nat.le_succ _).trans h3
  · exact ⟨h1, h2, h3⟩

section port
variable {i : Instr} (s : State)

/-- The end of every step keeps the invariants (R165, R197). -/
theorem settle_keeps : Keeps i s (settle s) :=
  (publish_keeps_invariants s).trans (Keeps.port fun h => Port.kick_fits (Port.fits_of (by simp) (by simp) (by simp) (by simp) h))

end port

/-! ## The shared converter -/

section converter
variable {i : Instr} (s : State)

theorem Converter.remember_stands (c : Converter) (made : List ResultRec) : (c.remember made).enables = c.enables ∧
    (c.remember made).activity = c.activity ∧ (c.remember made).pending = c.pending ∧ (c.remember made).owed = c.owed :=
  ⟨rfl, rfl, rfl, rfl⟩

theorem Keeps.stabMailbox (m : Option (ResultRec × ResultRec)) : Keeps i s { s with stab.mailbox := m } :=
  Keeps.stabiliser rfl rfl rfl id

theorem State.rockerResult_keeps (r : ResultRec) : Keeps i s (s.rockerResult r) := State.setRocker_keeps s _

theorem State.deliver_keeps (g : Group) (made : List ResultRec) : Keeps i s (s.deliver g made) := by
  have h : Keeps i s { s with conv := s.conv.remember made } := Keeps.converter' rfl id
  unfold State.deliver
  dsimp only
  split
  · exact h.trans (Keeps.stabMailbox _ _)
  · exact h.trans (Keeps.audioCounts _ rfl rfl rfl rfl)
  · exact h.trans (State.rockerResult_keeps _ _)
  · exact h.trans (State.supplySample_keeps _ _ _)
  · exact h

theorem State.miss_keeps (g : Group) : Keeps i s (s.miss g) := by
  cases g
  · exact Keeps.stabiliser rfl rfl rfl id
  · exact Keeps.audioCounts s rfl rfl rfl rfl
  · exact Keeps.scanner s rfl
  · exact Keeps.supply rfl rfl rfl rfl rfl rfl

theorem State.beginCalibration_keeps : Keeps i s s.beginCalibration := by
  have h : Keeps i s { s with conv.activity := .calibrating (s.clock + calibrationTime), conv.owed := false } :=
    Keeps.converter' rfl fun _ => nofun
  exact h.trans (Keeps.port Port.answerAccepted_fits)

/-- A group is taken into service. -/
theorem Keeps.serving (v : Service) : Keeps i s { s with conv.activity := .converting v } :=
  Keeps.converter' rfl fun _ => nofun

/-- The fuel of `State.becomeFree` covers the groups that pend (R28). -/
theorem State.becomeFree_keeps (n : Nat) (h : s.conv.pending.count < n) : Keeps i s (s.becomeFree n) := by
  induction n generalizing s with
  | zero => omega
  | succ n ih =>
    unfold State.becomeFree
    split
    · exact State.beginCalibration_keeps s
    · next ho =>
      split
      · next hh => exact Keeps.converter' rfl fun _ _ => ⟨GroupSet.highest_none _ hh, by simpa using ho⟩
      · next g hh =>
        have hcount := GroupSet.count_put _ g hh
        have hp : Keeps i s { s with conv.pending := s.conv.pending.put false g } := Keeps.converter' rfl fun hc ha => by
          obtain ⟨h1, h2⟩ := hc ha
          rw [h1] at hh
          exact absurd hh nofun
        dsimp only
        split
        · refine (hp.trans (State.deliver_keeps _ g _)).trans (ih _ ?_)
          rw [(State.deliver_conv g _ _).1]
          dsimp only
          omega
        · exact hp.trans (Keeps.serving _ _)

theorem State.becomeFree5_keeps : Keeps i s (s.becomeFree 5) :=
  State.becomeFree_keeps s 5 (by have := s.conv.pending.count_le; omega)

theorem State.askConverter_keeps (g : Group) : Keeps i s (s.askConverter g) := by
  refine .ite (fun _ => ?_) fun hb => ?_
  · exact .ite (fun _ => (State.deliver_keeps s g _).trans (State.becomeFree5_keeps _)) fun _ => Keeps.serving s _
  · have h : Keeps i s { s with conv.pending := s.conv.pending.put true g } :=
      Keeps.converter' rfl fun hc ha => absurd ⟨ha, (hc ha).2⟩ hb
    exact .ite (fun _ => h.trans (State.miss_keeps _ g)) fun _ => h

theorem State.callCalibration_keeps : Keeps i s s.callCalibration := by
  unfold State.callCalibration
  split
  · exact State.beginCalibration_keeps s
  · next v ha =>
    exact Keeps.converter' rfl fun _ h => absurd (ha.symm.trans h) nofun
  · exact .refl _ _

theorem State.conversionEnd_keeps (v : Service) (raw : RawCode) : Keeps i s (s.conversionEnd v raw) := by
  unfold State.conversionEnd
  split
  · exact .refl _ _
  · exact .ite (fun _ => (State.deliver_keeps s _ _).trans (State.becomeFree5_keeps _)) fun _ => Keeps.serving s _

theorem State.reportCalibration_keeps (p : Parties) (reference : RawCode) : Keeps i s (s.reportCalibration p reference) := by
  have h1 : Keeps i s (if p.host = true then s.post (.adcDone s.conv.selfCheck s.conv.offset reference.toNat) else s) :=
    .ite (fun _ => State.post_keeps s _) fun _ => .refl _ _
  have h2 (u : State) : Keeps i u (if p.reset = true then u.endInit s.conv.selfCheck else u) :=
    .ite (fun _ => State.endInit_keeps u _) fun _ => .refl _ _
  have h3 (u : State) : Keeps i u (if p.exit = true then u.endExit s.conv.selfCheck else u) :=
    .ite (fun _ => State.endExit_keeps u _) fun _ => .refl _ _
  exact (h1.trans (h2 _)).trans (h3 _)

theorem State.calibrationEnd_keeps (reference : RawCode) : Keeps i s (s.calibrationEnd reference) := by
  have h (c : Converter) (he : c.enables = s.conv.enables) (ha : c.activity = s.conv.activity) (hp : c.pending = s.conv.pending)
      (ho : c.owed = s.conv.owed) : Keeps i s { s with conv := c } :=
    Keeps.converter' he (by simp only [ConverterInv, ha, hp, ho]; exact id)
  have hc := h { s.conv with
    offset := offsetOfReference reference, selfCheck := passes (offsetOfReference reference), parties := ⟨false, false, false⟩ }
    rfl rfl rfl rfl
  exact (hc.trans (State.reportCalibration_keeps _ s.conv.parties reference)).trans (State.becomeFree5_keeps _)

/-- The enables of ADC_ENABLE, handed to the stabiliser (R25, R67). -/
theorem State.enables_keeps (e : Vector Bool 7) : Keeps i s (({ s with conv.enables := e } : State).handGyro s.conv) := by
  refine .ite (fun h => ?_) fun _ => ?_
  · exact { Keeps.refl i s with stab := fun ⟨hz, hg, hs⟩ => ⟨hz, hg.trans (congrArg₂ and h.1 h.2), hs⟩ }
  · refine Keeps.stabBecomes s ?_
    have hc := Stabiliser.reevaluate_cond { s.stab with cond := { s.stab.cond with gyroEnabled := e.get 0 && e.get 1 } }
    exact { Keeps.refl i s with
      stab := fun ⟨hz, _, hs⟩ =>
        ⟨(congrArg Conditions.zoomHomed hc).trans hz, congrArg Conditions.gyroEnabled hc, Stabiliser.reevaluate_sound fun h => hs.2 h⟩
      runCopy := (congrArg Conditions.run hc).trans }

theorem State.beginExit_keeps (src : ExitSource) (hp : s.supply.power = .standby) : Keeps i s (s.beginExit src) := by
  have h : Keeps i s { s with supply.exit := some src, conv.parties.exit := true } :=
    (Keeps.underWay (p := { s.supply with exit := some src }) s rfl (.inl rfl) rfl rfl
      fun ⟨h1, h2, h3, _, h5⟩ => ⟨h1, h2, h3, fun _ => hp, h5⟩).trans (Keeps.converter' rfl id)
  exact h.trans (State.callCalibration_keeps _)

theorem State.wake_keeps (n : Fin 24) : Keeps i s (s.wake n) :=
  .ite (fun h => State.beginExit_keeps s _ h.1) fun _ => .refl _ _

end converter

end Sys2Proof.Machine

/-! What the scan, the bound actions and the resets keep. -/

namespace Sys2Proof.Machine

/-! ## Presses and releases -/

section controls
variable {i : Instr} (s : State)

theorem State.pressAction_keeps (h : Held) : Keeps i s (s.pressAction h) := by
  unfold State.pressAction
  split
  case h_6 => exact State.recToggle_keeps s
  case h_7 => exact State.panelMark_keeps s
  case h_8 => exact State.goodShot_keeps s
  case h_9 => exact State.stabSetting_keeps s _
  case h_10 => exact State.setFocusMode_keeps s _
  case h_11 => exact .ite (fun _ => State.panelRecall_keeps s _) fun _ => .refl _ _
  case h_12 => exact State.audioAuto_keeps s _
  case h_13 => exact State.menuToggle_keeps s
  case h_14 => exact State.flush_keeps s
  all_goals exact .refl _ _

theorem State.longAction_keeps (h : Held) : Keeps i s (s.longAction h) := by
  unfold State.longAction
  split
  · exact State.panelStore_keeps s _
  · exact State.beginShutdown_keeps s _
  · exact .refl _ _

theorem State.releaseAction_keeps (h : Held) : Keeps i s (s.releaseAction h) := by
  unfold State.releaseAction
  split
  · exact .ite (fun _ => State.panelRecall_keeps s _) fun _ => .refl _ _
  · exact State.beginShutdown_keeps s _
  · exact .refl _ _

theorem State.press_keeps (n : Fin 24) : Keeps i s (s.press n) := by
  unfold State.press
  split
  · exact ((State.setHeld_keeps s n _).trans (State.warn_keeps _ _)).trans (State.beep_keeps _ _)
  · exact (((State.setHeld_keeps s n _).trans (State.pressModifiers_keeps _ n _)).trans (State.tokenIf_keeps _ _ _)).trans
      (State.pressAction_keeps _ _)

theorem State.releaseHeld_keeps (n : Fin 24) (h : Held) : Keeps i s (s.releaseHeld n h) := by
  have hr : Keeps i s ((s.setHeld n none).releaseModifiers n h) :=
    (State.setHeld_keeps s n _).trans (State.releaseModifiers_keeps _ n h)
  refine .ite (fun _ => hr) fun _ => .ite (fun _ => ?_) fun _ => ?_
  · exact .ite (fun _ => hr.trans (State.beginShutdown_keeps _ _)) fun _ => hr
  · exact (hr.trans (State.tokenIf_keeps _ _ _)).trans (State.releaseAction_keeps _ _)

theorem State.release_keeps (n : Fin 24) : Keeps i s (s.release n) := by
  unfold State.release
  split
  · exact State.releaseHeld_keeps s n _
  · exact .refl _ _

/-! ## The scan -/

theorem State.acceptedChange_keeps (n : Fin 24) (level : Bool) : Keeps i s (s.acceptedChange n level) := by
  unfold State.acceptedChange
  split
  · exact State.press_keeps s n
  · exact State.release_keeps s n
  · exact .refl _ _
  · exact State.dropHeld_keeps s n

theorem State.debounce_keeps (n : Fin 24) (level : Bool) : Keeps i s (s.debounce n level) :=
  .ite (fun _ => State.setSwitch_keeps s n _) fun _ => .ite (fun _ => State.setSwitch_keeps s n _) fun _ =>
    (State.setAccepted_keeps s n level).trans (State.acceptedChange_keeps _ n level)

theorem State.wakeChange_keeps (n : Fin 24) (level : Bool) : Keeps i s (s.wakeChange n level) := by
  have h := State.setAccepted_keeps (i := i) s n level
  refine Keeps.trans (.ite (fun _ => ?_) fun _ => ?_) (State.wake_keeps _ n)
  · exact (h.trans (State.setHeld_keeps _ n _)).trans (State.pressModifiers_keeps _ n _)
  · exact h.trans (State.dropHeld_keeps _ n)

theorem State.powerOff_keeps (n : Fin 24) : Keeps i s (s.powerOff n) :=
  ((State.setAccepted_keeps s n false).trans (State.dropHeld_keeps _ n)).trans (State.beginShutdown_keeps _ _)

theorem State.pollChange_keeps (n : Fin 24) (level : Bool) {t : State} (h : s.pollChange n level = some t) : Keeps i s t := by
  unfold State.pollChange at h
  split at h
  · obtain rfl := Option.some.inj h
    exact State.powerOff_keeps s n
  · split at h
    · obtain rfl := Option.some.inj h
      exact State.wakeChange_keeps s n level
    · cases h

theorem State.poll_keeps (n : Fin 24) (level : Bool) : Keeps i s (s.poll n level) := by
  unfold State.poll
  dsimp only
  split
  · exact State.setSwitch_keeps s n _
  · split
    · exact .refl _ _
    · next t ht => exact .ite (fun _ => State.setSwitch_keeps s n _) fun _ => State.pollChange_keeps s n level ht

theorem State.scanInput_keeps (levels : Vector Bool 24) (n : Fin 24) : Keeps i s (State.scanInput levels s n) :=
  .ite (fun _ => .ite (fun _ => State.poll_keeps s n _) fun _ => State.debounce_keeps s n _) fun _ => .refl _ _

theorem State.scanInputs_keeps (levels : Vector Bool 24) (l : List (Fin 24)) : Keeps i s (l.foldl (State.scanInput levels) s) := by
  induction l generalizing s with
  | nil => exact .refl _ _
  | cons n l ih => exact (State.scanInput_keeps s levels n).trans (ih _)

theorem State.scan_keeps (levels : Vector Bool 24) : Keeps i s (s.scan levels) :=
  .ite (fun _ => Keeps.scanner s (by simp only [Controls.takeLevels])) fun _ => State.scanInputs_keeps s levels _

theorem State.longPress_keeps (n : Fin 24) (h : Held) : Keeps i s (s.longPress n h) :=
  ((State.setHeld_keeps s n _).trans (State.tokenIf_keeps _ _ _)).trans (State.longAction_keeps _ _)

/-! ## Encoders and the configuration of an input -/

theorem State.detent_keeps (e : Encoder) (up : Bool) : Keeps i s (s.detent e up) := by
  have htoken (e : Encoder) (l : Layer) : Keeps i s (s.detentToken e up l) := State.token_keeps s _
  unfold State.detent
  split
  · split
    · exact State.ringDetent_keeps s up
    all_goals exact .refl _ _
  · split
    · exact htoken _ _
    · exact State.ringDetent_keeps s up
    · exact htoken _ _
    · exact State.knobDetent_keeps s _ up
    · exact State.knobDetent_keeps s _ up

theorem Controls.setDecoder_tokens (c : Controls) (d : Decoder) (e : Encoder) : (c.setDecoder d e).tokens = c.tokens := by
  cases e <;> rfl

theorem State.disableInput_keeps (n : Fin 24) : Keeps i s (s.disableInput n) :=
  (State.dropHeld_keeps s n).trans (State.setAccepted_keeps _ n false)

theorem State.configureInput_keeps (n : Fin 24) (c : InputConfig) : Keeps i s (s.configureInput n c) :=
  Keeps.trans (.ite (fun _ => State.disableInput_keeps s n) fun _ =>
    .ite (fun _ => State.setAccepted_keeps s n false) fun _ => .refl _ _) (State.setSwitch_keeps _ n _)

/-! ## The warm reset -/

theorem ChannelRec.warm_wf {c : ChannelRec} (now : Nat) (h : c.wf = true) : (c.warm now).wf = true := by
  obtain ⟨h1, -, h3⟩ := ChannelRec.range_of_wf h
  exact ChannelRec.apply_wf ⟨h1, Nat.zero_le _, h3⟩

theorem Stabiliser.warm_sound (t : Stabiliser) (on : Bool) : (t.warm on).sound := by
  refine ⟨fun h => ?_, fun _ => ⟨rfl, rfl, rfl, rfl, rfl⟩⟩
  obtain ⟨sub, hs⟩ := (Stabiliser.isActive_iff _).1 h
  simp only [Stabiliser.warm] at hs
  split at hs <;> exact absurd hs nofun

theorem State.warmBlocks_clips (h : LogInv s) : ClipCore s.warmBlocks := by
  have hl : s.resetLog.sound false := ClipLog.sound_close (l := s.log) (label := some s.resetEndLabel) nofun rfl h
  have hr : s.warmBlocks.recorder.state = .standby := rfl
  refine ⟨hl, ⟨rfl, rfl, rfl, ?_⟩, fun _ => .inl hr⟩
  rw [hr]
  exact ⟨⟨nofun, nofun⟩, ⟨nofun, nofun⟩, ⟨nofun, nofun⟩, nofun, nofun⟩

theorem State.warmBlocks_gains (h : GainInv s) : GainInv s.warmBlocks := by
  obtain ⟨h1, h2, h3⟩ := h
  exact ⟨ChannelRec.warm_wf _ h1, ChannelRec.warm_wf _ h2, fun hl => ⟨(h3 hl).1, (h3 hl).2.1, rfl⟩⟩

/-- A warm reset keeps what a piece of work keeps (R190). -/
theorem State.warmBlocks_kept : Kept i s s.warmBlocks where
  pending := by simp only [State.warmBlocks]
  clock := by simp only [State.warmBlocks, le_refl]
  label := by simp only [LabelInv, State.warmBlocks, Timecode.warm, imp_self]
  labelMove h := absurd (by simp only [State.warmBlocks, Timecode.warm]) h
  pwrHold := .inl (by simp only [State.warmBlocks, Supply.warmed])
  timers := by simp only [ReferenceTimers, State.warmBlocks, Timecode.warm, imp_self]
  queues _ := ⟨Nat.zero_le _, Nat.zero_le _, Nat.zero_le _, Nat.zero_le _⟩
  clips h := State.warmBlocks_clips s h.1
  gains := State.warmBlocks_gains s
  fields := by simp only [FieldsInv, State.warmBlocks, Overlay.warm, imp_self]
  menu _ := ⟨nofun, fun _ => rfl⟩
  stab _ := ⟨rfl, rfl, Stabiliser.warm_sound _ _⟩
  presets := fun ⟨h1, _, h3, _⟩ => ⟨h1, nofun, h3, nofun⟩
  duties _ := ⟨Nat.zero_le _, Nat.zero_le _⟩
  converter _ := nofun

theorem State.warmBlocks_keeps : Keeps i s s.warmBlocks :=
  have hp : s.warmBlocks.supply.power = .init := rfl
  { State.warmBlocks_kept s with
    power := fun _ => ⟨rfl, rfl, rfl, nofun, ⟨nofun, nofun⟩, nofun⟩
    recorderPower := fun _ => rfl
    runCopy := fun _ => rfl
    float := fun _ => ⟨by rw [hp]; exact nofun, fun _ => rfl⟩
    reported := fun _ h => by rw [hp] at h; exact absurd h nofun }

theorem State.warmReset_keeps : Keeps i s s.warmReset := (State.warmBlocks_keeps s).trans (State.condition_keeps _ _ _)

end controls

end Sys2Proof.Machine

/-! What the owners of the requests keep, and what every command keeps. -/

namespace Sys2Proof.Machine

/-! ## The frame of a request -/

section requests
variable {i : Instr} {s : State}

/-- A command answers a next state that keeps the invariants. -/
def Answers (i : Instr) (s : State) (o : Host.Outcome State Fault Refusal) : Prop := ∃ t, o = .next t ∧ Keeps i s t

theorem Answers.finish {u : State} (h : Keeps i s u) : Answers i s (finish u) := ⟨_, rfl, h.trans (settle_keeps u)⟩

theorem Keeps.withArgs {α : Type} {a : Args α} {f : α → Answer} (h : ∀ x, Keeps i s (f x).state) :
    Keeps i s (withArgs a s f).state := by
  cases a with
  | malformed => exact .refl _ _
  | given x => exact h x

theorem Keeps.withNone {a : NoArgs} {f : Answer} (h : Keeps i s f.state) : Keeps i s (withNone a s f).state := by
  unfold Sys2Proof.Machine.withNone
  split <;> first | exact h | exact .refl _ _

theorem Keeps.decision {k : Kind} {owner : State → Answer} (h : Keeps i s (owner s).state) :
    Keeps i s (decision k owner s).state := by
  unfold Sys2Proof.Machine.decision
  split
  · exact .refl _ _
  · exact h

/-- A request keeps the invariants where its owner's decision does (R196). -/
theorem Answers.request {k : Kind} {tag : Byte} {owner : State → Answer} (h : ∀ u, Keeps i u (owner u).state) :
    Answers i s (request k tag owner s) := by
  unfold Sys2Proof.Machine.request
  split
  · have hb : Keeps i s { s with port := s.port.bring (kindCode k) tag } := Keeps.port (Port.bring_fits _ _)
    have hd := hb.trans (Keeps.decision (k := k) (h _))
    exact Answers.finish (hd.trans (Keeps.port (Port.decided_fits _ _ _)))
  · exact Answers.finish (Keeps.port (Port.arrive_fits _ _ _))

/-! ## The overlay's owners -/

theorem finOf_val {n k : Nat} {x : Fin n} (h : finOf n k = some x) : x.val = k := by
  unfold finOf at h
  split at h
  · rw [← Option.some.inj h]
  · cases h

theorem ovlWriteOwner_keeps (a : Args WriteArgs) (u : State) : Keeps i u (ovlWriteOwner a u).state := by
  refine Keeps.withArgs fun a => ?_
  split
  · split
    · exact .refl _ _
    · exact Keeps.setCells u _ _
  · exact .refl _ _

theorem ovlFillOwner_keeps (a : Args FillArgs) (u : State) : Keeps i u (ovlFillOwner a u).state := by
  refine Keeps.withArgs fun a => ?_
  split
  · split
    · exact .refl _ _
    · exact Keeps.setCells u _ _
  · exact .refl _ _

theorem ovlScrollOwner_keeps (a : Args ScrollArgs) (u : State) : Keeps i u (ovlScrollOwner a u).state := by
  refine Keeps.withArgs fun a => ?_
  split
  · split
    · exact Keeps.setCells u _ _
    · exact .refl _ _
  · exact .refl _ _

theorem ovlClearOwner_keeps (a : Args Nat) (u : State) : Keeps i u (ovlClearOwner a u).state := by
  refine Keeps.withArgs fun a => ?_
  split
  · exact Keeps.setCells u _ _
  · exact .refl _ _

theorem ovlCursorOwner_keeps (a : Args CursorArgs) (u : State) : Keeps i u (ovlCursorOwner a u).state := by
  refine Keeps.withArgs fun a => ?_
  split
  · exact Keeps.setCursor u _ _
  · exact .refl _ _

theorem ovlPageSelectOwner_keeps (a : Args Nat) (u : State) : Keeps i u (ovlPageSelectOwner a u).state := by
  refine Keeps.withArgs fun a => ?_
  split
  · split
    · exact .refl _ _
    · next hm => exact Keeps.display u _ (by simpa using hm)
  · exact .refl _ _

theorem ovlMenuSetOwner_keeps (a : Args Bool) (u : State) : Keeps i u (ovlMenuSetOwner a u).state :=
  Keeps.withArgs fun _ => Keeps.setMenu u _

theorem ovlFieldSetOwner_keeps (a : Args FieldArgs) (u : State) : Keeps i u (ovlFieldSetOwner a u).state := by
  refine Keeps.withArgs fun a => ?_
  split
  · next page row column _ _ hcol =>
    dsimp only
    split
    · exact .refl _ _
    · next hw =>
      split
      · exact .refl _ _
      · next hc =>
        have hv : column.val = a.column := finOf_val hcol
        exact Keeps.setField u _ _ (fun he => by dsimp only at he ⊢; have := not_and.1 hw he; omega)
          fun he => by simpa using fun h => hc ⟨he, h⟩
  · exact .refl _ _

theorem ovlGetOwner_keeps (a : Args OvlGetArgs) (u : State) : Keeps i u (ovlGetOwner a u).state := by
  refine Keeps.withArgs fun a => ?_
  split <;> exact .refl _ _

/-! ## The timecode generator's and the stabiliser's owners -/

theorem tcSetOwner_keeps (hi : MovesLabel i) (a : Args Label) (u : State) : Keeps i u (tcSetOwner a u).state := by
  refine Keeps.withArgs fun l => ?_
  split
  · exact .refl _ _
  · next hl =>
    split
    · exact .refl _ _
    · exact Keeps.timecode rfl rfl rfl rfl rfl (fun _ => validLabel_correctDropped (by simpa using hl)) fun _ => hi

theorem tcModeSetOwner_keeps (hi : MovesLabel i) (a : Args TcModeArgs) (u : State) : Keeps i u (tcModeSetOwner a u).state := by
  refine Keeps.withArgs fun m => ?_
  split
  · exact .refl _ _
  · exact Keeps.timecode rfl rfl rfl rfl rfl validLabel_labelToRate fun _ => hi

theorem userbitsSetOwner_keeps (a : Args (BitVec 32)) (u : State) : Keeps i u (userbitsSetOwner a u).state :=
  Keeps.withArgs fun _ => Keeps.timecode rfl rfl rfl rfl rfl id fun h => absurd rfl h

theorem tcGetOwner_keeps (u : State) : Keeps i u (tcGetOwner u).state :=
  Keeps.timecode (t := { u.tc with dayRoll := false }) rfl rfl rfl rfl rfl id fun h => absurd rfl h

theorem stabModeSetOwner_keeps (a : Args Bool) (u : State) : Keeps i u (stabModeSetOwner a u).state :=
  Keeps.withArgs fun _ => State.stabSetting_keeps u _

theorem stabGainTableSetOwner_keeps (a : Args (List Nat)) (u : State) : Keeps i u (stabGainTableSetOwner a u).state := by
  refine Keeps.withArgs fun l => ?_
  split
  · exact Keeps.stabiliser rfl rfl rfl id
  · exact .refl _ _

theorem Stabiliser.setAxis_sound {t : Stabiliser} {x : GyroAxis} {ax : Gyro} (hx : (t.axis ax).idle = true → x.idle = true)
    (h : t.sound) : (t.setAxis x ax).sound := by
  obtain ⟨h1, h2⟩ := h
  cases ax
  · exact ⟨h1, fun h => let ⟨g1, g2⟩ := h2 h; ⟨hx g1, g2⟩⟩
  · exact ⟨h1, fun h => let ⟨g1, g2, g3⟩ := h2 h; ⟨g1, hx g2, g3⟩⟩

theorem GyroAxis.idle_offset {x : GyroAxis} (z : Int) (h : x.idle = true) :
    ({ x with z := z, learnRun := 0, rem := 0 } : GyroAxis).idle = true := by
  rw [GyroAxis.idle_iff] at h ⊢
  obtain ⟨h1, -, h3, h4, h5, -⟩ := h
  exact ⟨h1, rfl, h3, h4, h5, rfl⟩

theorem Keeps.stabAxis (u : State) {x : GyroAxis} (ax : Gyro) (hx : (u.stab.axis ax).idle = true → x.idle = true) :
    Keeps i u { u with stab := u.stab.setAxis x ax } := by
  have hc : (u.stab.setAxis x ax).cond = u.stab.cond := by cases ax <;> rfl
  exact Keeps.stabiliser (by rw [hc]) (by rw [hc]) (by rw [hc]) (Stabiliser.setAxis_sound hx)

theorem stabOffsetSetOwner_keeps (a : Args OffsetArgs) (u : State) : Keeps i u (stabOffsetSetOwner a u).state := by
  refine Keeps.withArgs fun a => ?_
  split
  · exact .refl _ _
  · exact Keeps.stabAxis u a.axis (GyroAxis.idle_offset _)

theorem stabGetOwner_keeps (u : State) : Keeps i u (stabGetOwner u).state :=
  Keeps.stabiliser (t := { u.stab with missed := 0, replacements := 0 }) rfl rfl rfl id

end requests

end Sys2Proof.Machine

/-! What the owners of the other blocks keep. -/

namespace Sys2Proof.Machine

section owners
variable {i : Instr}

/-! ## The lens drive's owners -/

theorem moveRequest_keeps {ax : Axis} {operator : Bool} {u : State} {accept : State → Answer}
    (h : Keeps i u (accept u).state) : Keeps i u (moveRequest ax operator u accept).state := by
  unfold moveRequest
  split
  · exact .refl _ _
  · exact h

theorem acceptGoto_keeps (ax : Axis) (a : GotoArgs) (u : State) : Keeps i u (acceptGoto ax a u).state :=
  (State.endHold_keeps u ax .preempted).trans (State.beginGoto_keeps _ _ _ _ _)

theorem zoomGotoOwner_keeps (a : Args GotoArgs) (u : State) : Keeps i u (zoomGotoOwner a u).state := by
  refine Keeps.withArgs fun a => ?_
  split
  · exact moveRequest_keeps (acceptGoto_keeps _ _ _)
  · exact .refl _ _

theorem focusGotoOwner_keeps (a : Args GotoArgs) (u : State) : Keeps i u (focusGotoOwner a u).state := by
  refine Keeps.withArgs fun a => ?_
  split
  · exact moveRequest_keeps (acceptGoto_keeps _ _ _)
  · exact .refl _ _

/-- The REMOTE drive that the zoom begins (R55). -/
theorem Keeps.zoomDrive (u : State) (v : Int) (t : Option Nat) :
    Keeps i u { u with
      lens.zoom := { u.lens.zoom with owner := .remote, move := some .drive, driveSpeed := v }, lens.driveTimer := t } :=
  Keeps.zoom u rfl ⟨rfl, rfl, rfl⟩ id

theorem zoomDriveOwner_keeps (a : Args DriveArgs) (u : State) : Keeps i u (zoomDriveOwner a u).state := by
  refine Keeps.withArgs fun a => ?_
  split
  · refine moveRequest_keeps ?_
    exact Keeps.trans (.ite (fun _ => .refl _ _) fun _ => State.endHold_keeps u .zoom .preempted) (Keeps.zoomDrive _ _ _)
  · exact .refl _ _

theorem presetRecallOwner_keeps (a : Args Nat) (u : State) : Keeps i u (presetRecallOwner a u).state := by
  refine Keeps.withArgs fun a => ?_
  split
  · exact moveRequest_keeps (State.recall_keeps u _ _)
  · exact .refl _ _

theorem presetSetOwner_keeps (a : Args PresetSetArgs) (u : State) : Keeps i u (presetSetOwner a u).state := by
  refine Keeps.withArgs fun a => ?_
  split
  · exact .refl _ _
  · dsimp only
    split
    · exact .refl _ _
    · split
      · exact .refl _ _
      · exact Keeps.storePreset u _ _

theorem lensHomeOwner_keeps (a : Args Axis) (u : State) : Keeps i u (lensHomeOwner a u).state := by
  refine Keeps.withArgs fun ax => ?_
  split
  · exact .refl _ _
  · split
    · exact .refl _ _
    · split
      · exact .refl _ _
      · exact State.beginHoming_keeps u ax

theorem lensStopOwner_keeps (a : Args Axis) (u : State) : Keeps i u (lensStopOwner a u).state := by
  refine Keeps.withArgs fun ax => ?_
  split
  · exact .refl _ _
  · exact (State.lensStop_keeps u ax).trans (State.blockRocker_keeps _ ax)

theorem focusModeSetOwner_keeps (a : Args FocusMode) (u : State) : Keeps i u (focusModeSetOwner a u).state := by
  refine Keeps.withArgs fun m => ?_
  split
  · exact .refl _ _
  · exact State.setFocusMode_keeps u m

theorem lensConfigOwner_keeps (a : Args LensConfigArgs) (u : State) : Keeps i u (lensConfigOwner a u).state := by
  refine Keeps.withArgs fun a => ?_
  split
  · exact .refl _ _
  · split
    · exact .refl _ _
    · exact Keeps.lensSettings u rfl rfl rfl rfl

/-! ## The clip log's and the record supervisor's owners -/

theorem clipMarkOwner_keeps (a : NoArgs) (u : State) : Keeps i u (clipMarkOwner a u).state := by
  refine Keeps.withNone ?_
  split
  · next h => exact State.appendMark_keeps u h
  · exact .refl _ _

theorem clipReadOwner_keeps (a : Args ClipSelector) (u : State) : Keeps i u (clipReadOwner a u).state := by
  unfold clipReadOwner
  cases a with
  | malformed => exact .refl _ _
  | given sel => dsimp only; split <;> exact .refl _ _

theorem clipLogClearOwner_keeps (u : State) : Keeps i u (clipLogClearOwner u).state := by
  unfold clipLogClearOwner
  split
  · exact .refl _ _
  · next h =>
    have hs : u.recorder.state = .standby := not_not.1 h
    have hc : ClipCore u → ClipCore { u with log.records := [] } := fun ⟨_, h2, h3⟩ =>
      ⟨⟨Nat.zero_le _, List.nodup_nil, rfl, rfl, by rw [show ({ u with log.records := [] } : State).recorder.state = .standby from hs]; rfl⟩, h2, h3⟩
    exact { Keeps.refl i u with clips := hc }

theorem cardReportOwner_keeps (a : Args CardReportArgs) (u : State) : Keeps i u (cardReportOwner a u).state := by
  refine Keeps.withArgs fun a => ?_
  dsimp only
  split
  · exact .refl _ _
  · split
    · exact (State.setSlot_keeps u _ _).trans (State.testSlots_keeps _)
    · split <;> exact .refl _ _

theorem mediaUpdateOwner_keeps (a : Args MediaUpdateArgs) (u : State) : Keeps i u (mediaUpdateOwner a u).state := by
  refine Keeps.withArgs fun a => ?_
  have hs (r : SlotRec) := State.setSlot_keeps (i := i) u a.slot r
  dsimp only
  split
  · exact .refl _ _
  · split
    · exact ((hs _).trans (State.reformStart_keeps _ _)).trans (State.testSlots_keeps _)
    · exact (hs _).trans (State.testSlots_keeps _)
    · exact (hs _).trans (State.testSlots_keeps _)
    all_goals exact .refl _ _

theorem mediaFaultOwner_keeps (a : Args Slot) (u : State) : Keeps i u (mediaFaultOwner a u).state := by
  refine Keeps.withArgs fun sl => ?_
  have hs (r : SlotRec) := State.setSlot_keeps (i := i) u sl r
  dsimp only
  split
  · exact ((hs _).trans (State.reformStart_keeps _ _)).trans (State.testSlots_keeps _)
  · exact ((hs _).trans (State.loseActive_keeps _ _ _ _)).trans (State.testSlots_keeps _)
  all_goals exact .refl _ _

theorem recConfigOwner_keeps (a : Args RecConfigArgs) (u : State) : Keeps i u (recConfigOwner a u).state := by
  refine Keeps.withArgs fun a => ?_
  split
  · exact .refl _ _
  · have h : Keeps i u { u with recorder := { u.recorder with mode := a.mode, current := a.current, bitrate := a.bitrate } } :=
      Keeps.recorder u ⟨rfl, rfl, rfl, rfl, rfl, rfl, rfl, rfl⟩
    exact h.trans (State.testWarnings_keeps _)

theorem clipNumberSetOwner_keeps (a : Args Nat) (u : State) : Keeps i u (clipNumberSetOwner a u).state := by
  refine Keeps.withArgs fun n => ?_
  split
  · exact .refl _ _
  · split
    · exact .refl _ _
    · exact Keeps.recorder u ⟨rfl, rfl, rfl, rfl, rfl, rfl, rfl, rfl⟩

theorem tallySetOwner_keeps (a : Args Bool) (u : State) : Keeps i u (tallySetOwner a u).state :=
  Keeps.withArgs fun _ => Keeps.recorder u ⟨rfl, rfl, rfl, rfl, rfl, rfl, rfl, rfl⟩

theorem recStartOwner_keeps (u : State) : Keeps i u (recStartOwner u).state := by
  unfold recStartOwner
  split
  · exact .refl _ _
  · next h => exact State.acceptStart_keeps u h

theorem recConfirmOwner_keeps (a : Args Nat) (u : State) : Keeps i u (recConfirmOwner a u).state := by
  refine Keeps.withArgs fun n => ?_
  split
  · exact .refl _ _
  · next hn =>
    split
    · next hs =>
      split
      · exact State.beginClip_keeps u n (by simpa using hn) hs
      · exact .refl _ _
    · exact .refl _ _
    all_goals split <;> exact .refl _ _

theorem recStopOwner_keeps (u : State) : Keeps i u (recStopOwner u).state := by
  unfold recStopOwner
  split
  · next h => exact State.stopRecording_keeps u _ fun _ => h
  · next h => exact State.failStart_keeps u _ fun _ => h
  all_goals exact .refl _ _

theorem clipClosedOwner_keeps (a : Args ClipClosedArgs) (u : State) : Keeps i u (clipClosedOwner a u).state := by
  refine Keeps.withArgs fun a => ?_
  split
  · exact .refl _ _
  · split
    · next h => exact State.clipClosed_keeps u _ _ h.1
    · split
      · split <;> exact .refl _ _
      · exact .refl _ _

/-! ## The audio level unit's owners -/

theorem audioConfigOwner_keeps (a : Args AudioConfigArgs) (u : State) : Keeps i u (audioConfigOwner a u).state := by
  refine Keeps.withArgs fun a => ?_
  split
  · exact .refl _ _
  · next hl =>
    split
    · exact .refl _ _
    · exact Keeps.audio (Audio.configure_power _ _ _) (Audio.configure_fits u.clock (by simpa using hl))

theorem audioGainSetOwner_keeps (a : Args GainArgs) (u : State) : Keeps i u (audioGainSetOwner a u).state := by
  refine Keeps.withArgs fun a => ?_
  split
  · exact .refl _ _
  · next ch _ =>
    have h : Keeps i u (u.setChannel ch ((u.audio.channel ch).setGainTo (min 63 a.gain))) :=
      State.setChannel_keeps u ch (ChannelRec.setGainTo_wf (Nat.min_le_left _ _))
    dsimp only
    split
    · exact .refl _ _
    · split
      · exact .refl _ _
      · split
        · exact .refl _ _
        · split
          · exact .refl _ _
          · exact h

theorem audioGetOwner_keeps (u : State) : Keeps i u (audioGetOwner u).state :=
  Keeps.audio (a := { u.audio with ch1 := u.audio.ch1.reported, ch2 := u.audio.ch2.reported, missed := 0, replacements := 0 }) rfl
    fun ⟨h1, h2, h3⟩ => ⟨ChannelRec.wf_congr (c := u.audio.ch1) rfl rfl rfl rfl rfl h1,
      ChannelRec.wf_congr (c := u.audio.ch2) rfl rfl rfl rfl rfl h2, h3⟩

/-! ## The supply monitor's and the converter's owners -/

theorem supplySetOwner_keeps (a : Args SupplyArgs) (u : State) : Keeps i u (supplySetOwner a u).state := by
  refine Keeps.withArgs fun a => ?_
  split
  · exact .refl _ _
  · exact Keeps.supply rfl rfl rfl rfl rfl rfl

theorem supplyGetOwner_keeps (u : State) : Keeps i u (supplyGetOwner u).state :=
  Keeps.supply (p := { u.supply with missed := 0 }) rfl rfl rfl rfl rfl rfl

theorem standbyEnterOwner_keeps (a : NoArgs) (u : State) : Keeps i u (standbyEnterOwner a u).state := by
  refine Keeps.withNone ?_
  split
  · next h =>
    split
    · exact State.enterStandby_keeps u h
    · exact .refl _ _
  · split <;> exact .refl _ _
  all_goals exact .refl _ _

theorem standbyExitOwner_keeps (a : NoArgs) (u : State) : Keeps i u (standbyExitOwner a u).state := by
  refine Keeps.withNone ?_
  split
  · next h =>
    split
    · exact .refl _ _
    · exact State.beginExit_keeps u _ h
  all_goals exact .refl _ _

theorem shutdownOwner_keeps (a : NoArgs) (u : State) : Keeps i u (shutdownOwner a u).state := by
  refine Keeps.withNone ?_
  split
  all_goals first | exact .refl _ _ | exact State.beginShutdown_keeps u _

theorem resetPartOwner_keeps (a : NoArgs) (u : State) : Keeps i u (resetPartOwner a u).state := Keeps.withNone (.refl _ _)

theorem adcEnableOwner_keeps (a : Args (List Nat)) (u : State) : Keeps i u (adcEnableOwner a u).state := by
  refine Keeps.withArgs fun l => ?_
  split
  · exact State.enables_keeps u _
  · exact .refl _ _

theorem adcCalibrateOwner_keeps (u : State) : Keeps i u (adcCalibrateOwner u).state := by
  have h : Keeps i u { u with conv.parties.host := true } := Keeps.converter' rfl id
  unfold adcCalibrateOwner
  split
  · exact .refl _ _
  · split
    · exact .refl _ _
    · dsimp only
      split <;> exact h.trans (State.callCalibration_keeps _)

/-! ## The control scanner's and the command port's owners -/

theorem inputConfigOwner_keeps (a : Args InputConfigArgs) (u : State) : Keeps i u (inputConfigOwner a u).state := by
  refine Keeps.withArgs fun a => ?_
  split
  · exact State.configureInput_keeps u _ _
  · exact .refl _ _

theorem keymapSetOwner_keeps (a : Args KeymapSetArgs) (u : State) : Keeps i u (keymapSetOwner a u).state := by
  refine Keeps.withArgs fun a => ?_
  split
  · exact Keeps.scanner u rfl
  · exact .refl _ _

theorem keymapGetOwner_keeps (a : Args KeymapGetArgs) (u : State) : Keeps i u (keymapGetOwner a u).state := by
  refine Keeps.withArgs fun a => ?_
  split <;> exact .refl _ _

theorem rockerSetOwner_keeps (a : Args RockerArgs) (u : State) : Keeps i u (rockerSetOwner a u).state := by
  refine Keeps.withArgs fun a => ?_
  split
  · exact Keeps.scanner u rfl
  · exact .refl _ _

theorem tokensReadOwner_keeps (u : State) : Keeps i u (tokensReadOwner u).state :=
  Keeps.controls (c := { u.controls with tokens := u.controls.tokens.drop 8 }) fun h => by
    simp only [List.length_drop]
    omega

theorem beeperSetOwner_keeps (a : Args Bool) (u : State) : Keeps i u (beeperSetOwner a u).state :=
  Keeps.withArgs fun _ => Keeps.scanner u rfl

theorem controlsGetOwner_keeps (u : State) : Keeps i u (controlsGetOwner u).state :=
  Keeps.scanner (c := { u.controls with rocker.misses := 0 }) u rfl

theorem statusGetOwner_keeps (u : State) : Keeps i u (statusGetOwner u).state :=
  Keeps.port (p := { u.port with linkError := false, noticesLost := false }) (Port.fits_of le_rfl rfl rfl rfl)

theorem beepOwner_keeps (a : Args Pattern) (u : State) : Keeps i u (beepOwner a u).state := by
  refine Keeps.withArgs fun p => ?_
  split
  · exact .refl _ _
  · split
    · exact .refl _ _
    · exact State.beep_keeps u p

end owners

end Sys2Proof.Machine

/-! What the events keep, and so every command. -/

namespace Sys2Proof.Machine

section events
variable {i : Instr} (s : State)

/-! ## The events of the blocks -/

theorem execUnknownKind_answers (tag kind : Byte) : Answers i s (execUnknownKind tag kind s) := by
  refine .finish (.ite (fun _ => .refl _ _) fun _ => .ite (fun _ => ?_) fun _ => ?_)
  · exact Keeps.port fun h => Port.answer_fits _ _ _ _ _ (Port.bring_fits _ _ h)
  · exact Keeps.port (Port.arrive_fits _ _ _)

theorem execFrameReceived_answers (chars : List Byte) : Answers i s (execFrameReceived chars s) :=
  .finish (Keeps.port (Port.characters_fits chars))

theorem Keeps.lineError : Keeps i s { s with port := s.port.lineError } := Keeps.port (Port.fits_of le_rfl rfl rfl rfl)

theorem execInterByteTimeout_answers : Answers i s (execInterByteTimeout s) := by
  refine .finish ?_
  split
  · exact Keeps.lineError s
  · exact .refl _ _

theorem execCharacterError_answers (c : CharFault) : Answers i s (execCharacterError c s) :=
  .finish (.ite (fun _ => Keeps.lineError s) fun _ => .refl _ _)

theorem execLineBreak_answers : Answers i s (execLineBreak s) :=
  .finish (Keeps.port (p := { s.port with assembler := .hunting, queue := dropUntaken s.port.queue })
    (Port.fits_of (dropUntaken_length_le _) rfl rfl rfl))

theorem execTxFrameEnd_answers : Answers i s (execTxFrameEnd s) :=
  .finish (.ite (fun _ => State.warmReset_keeps s) fun _ => Keeps.port Port.frameSent_fits)

theorem execScan_answers (levels : Vector Bool 24) : Answers i s (execScan levels s) := by
  have h : Keeps i s { s.atTime s.controls.scanDue with
      controls.scanDue := s.controls.scanDue + scanInterval s.supply.power } :=
    (Keeps.atTime _).trans (Keeps.scanner (s.atTime s.controls.scanDue) rfl)
  exact .finish (h.trans (State.scan_keeps _ _))

theorem execLongPressTimerExpiry_answers (n : Fin 24) : Answers i s (execLongPressTimerExpiry n s) := by
  refine .finish ?_
  split
  · split
    · exact (Keeps.atTime _).trans (State.longPress_keeps _ _ _)
    · exact .refl _ _
  · exact .refl _ _

theorem execEncoderTransition_answers (e : Encoder) (a b : Bool) (time : Nat) :
    Answers i s (execEncoderTransition e a b time s) := by
  have h : Keeps i s { s.atTime time with pins := s.pins.setEncoder ⟨a, b⟩ e } := (Keeps.atTime time).trans (Keeps.pins _)
  have hd (d : Decoder) : Keeps i s { s.atTime time with
      pins := s.pins.setEncoder ⟨a, b⟩ e, controls := s.controls.setDecoder d e } :=
    h.trans (Keeps.scanner _ (Controls.setDecoder_tokens _ _ _))
  refine .finish (.ite (fun _ => ?_) fun _ => h)
  dsimp only
  split
  · exact (hd _).trans (State.detent_keeps _ _ _)
  · exact hd _

theorem execBeepPatternEnd_answers : Answers i s (execBeepPatternEnd s) := by
  refine .finish ?_
  split
  · exact (Keeps.atTime _).trans (Keeps.scanner (c := { s.controls with beeper := none }) _ rfl)
  · exact .refl _ _

theorem execRockerRequestTimer_answers : Answers i s (execRockerRequestTimer s) := by
  have h : Keeps i s { s.atTime s.controls.rockerDue with controls.rockerDue := s.controls.rockerDue + rockerPeriod } :=
    (Keeps.atTime _).trans (Keeps.scanner (s.atTime s.controls.rockerDue) rfl)
  exact .finish (.ite (fun _ => h.trans (State.askConverter_keeps _ _)) fun _ => h)

theorem execSupplyRequestTimer_answers : Answers i s (execSupplyRequestTimer s) := by
  have h : Keeps i s { s.atTime s.supply.requestDue with
      supply.requestDue := s.supply.requestDue + supplyPeriod s.supply.power } :=
    (Keeps.atTime _).trans (Keeps.supply (s := s.atTime s.supply.requestDue) rfl rfl rfl rfl rfl rfl)
  exact .finish (h.trans (State.askConverter_keeps _ _))

theorem execSampleEvent_answers : Answers i s (execSampleEvent s) := by
  have h : Keeps i s { s.atTime s.stab.sampleDue with stab.sampleDue := s.stab.sampleDue + eventPeriod } :=
    (Keeps.atTime _).trans (Keeps.stabiliser (s := s.atTime s.stab.sampleDue) rfl rfl rfl id)
  exact .finish (.ite (fun _ => (h.trans (State.sample_keeps _)).trans (State.askConverter_keeps _ _)) fun _ => h)

theorem execLevelEvent_answers : Answers i s (execLevelEvent s) := by
  have h : Keeps i s { s.atTime s.audio.levelDue with audio.levelDue := s.audio.levelDue + eventPeriod } :=
    (Keeps.atTime _).trans (Keeps.audioCounts (s.atTime s.audio.levelDue) rfl rfl rfl rfl)
  exact .finish (.ite (fun _ => h) fun _ => (h.trans (State.level_keeps _)).trans (State.askConverter_keeps _ _))

theorem execConversionEnd_answers (raw : RawCode) : Answers i s (execConversionEnd raw s) := by
  refine .finish ?_
  split
  · exact (Keeps.atTime _).trans (State.conversionEnd_keeps _ _ _)
  all_goals exact .refl _ _

theorem execCalibrationEnd_answers (reference : RawCode) : Answers i s (execCalibrationEnd reference s) := by
  refine .finish ?_
  split
  · exact (Keeps.atTime _).trans (State.calibrationEnd_keeps _ _)
  all_goals exact .refl _ _

theorem execControlEvent_answers (ax : Axis) : Answers i s (execControlEvent ax s) := .finish (State.controlTimer_keeps s ax)

theorem execDirectionGapEnd_answers (ax : Axis) : Answers i s (execDirectionGapEnd ax s) :=
  .finish (.ite (fun _ => State.controlTimer_keeps s ax) fun _ => .refl _ _)

/-- A change of an axis at a later time that leaves its span, its homing status and its duty. -/
theorem Keeps.axisAt (t : Nat) (ax : Axis) {a : AxisRec} (h : (s.axis ax).Stands a) (hd : a.duty = (s.axis ax).duty) :
    Keeps i s ((s.atTime t).setAxis ax a) :=
  (Keeps.atTime t).trans (State.setAxis_keeps (s.atTime t) ax h (by rw [hd]; exact id))

theorem execStallPauseEnd_answers (ax : Axis) : Answers i s (execStallPauseEnd ax s) := by
  refine .finish ?_
  split
  · exact Keeps.axisAt s _ ax ⟨rfl, rfl, rfl⟩ rfl
  · exact .refl _ _

theorem execStallSuspectExpiry_answers (ax : Axis) : Answers i s (execStallSuspectExpiry ax s) := by
  refine .finish ?_
  split
  · exact Keeps.axisAt s _ ax ⟨rfl, rfl, rfl⟩ rfl
  · exact .refl _ _

theorem execSpeedTimeout_answers (ax : Axis) : Answers i s (execSpeedTimeout ax s) := by
  refine .finish ?_
  split
  · exact Keeps.axisAt s _ ax (AxisRec.stand_stands _) rfl
  · exact .refl _ _

theorem AxisRec.captureEdge_stands (a : AxisRec) (now : Nat) (positive : Bool) :
    a.Stands (a.captureEdge now positive) ∧ (a.captureEdge now positive).duty = a.duty := by
  unfold AxisRec.captureEdge
  split
  · exact ⟨⟨rfl, rfl, rfl⟩, rfl⟩
  · split
    · exact ⟨⟨rfl, rfl, rfl⟩, rfl⟩
    · split <;> exact ⟨⟨rfl, rfl, rfl⟩, rfl⟩

theorem execMotorEncoderEdge_answers (ax : Axis) (line : EncoderLine) (time : Nat) :
    Answers i s (execMotorEncoderEdge ax line time s) := by
  obtain ⟨u, hu⟩ : ∃ u, u = { s.atTime time with pins := s.pins.setMotor ((s.pins.motor ax).toggle line) ax } := ⟨_, rfl⟩
  have h : Keeps i s u := hu ▸ (Keeps.atTime time).trans (Keeps.pins _)
  unfold execMotorEncoderEdge
  dsimp only
  rw [← hu]
  have hc (a : AxisRec) (now : Nat) (p : Bool) := AxisRec.captureEdge_stands a now p
  exact .finish (h.trans (State.setAxis_keeps u ax (hc _ _ _).1 (by rw [(hc _ _ _).2]; exact id)))

theorem execSeekEnd_answers (ax : Axis) : Answers i s (execSeekEnd ax s) := by
  refine .finish ?_
  split
  · next h => exact (Keeps.atTime (s.axis ax).seekEnd).trans (State.seekNearEnd_keeps _ ax h)
  · next h => exact (Keeps.atTime (s.axis ax).seekEnd).trans (State.seekFarEnd_keeps _ ax h)
  all_goals exact .refl _ _

theorem execHomingTimeout_answers (ax : Axis) : Answers i s (execHomingTimeout ax s) := by
  refine .finish ?_
  split
  · exact (Keeps.atTime _).trans (State.abandonHoming_keeps _ _ _)
  · exact .refl _ _

theorem execDriveTimerExpiry_answers : Answers i s (execDriveTimerExpiry s) := by
  refine .finish ?_
  split
  · exact .ite (fun _ => (Keeps.atTime _).trans (State.driveElapsed_keeps _)) fun _ => .refl _ _
  · exact .refl _ _

theorem execOverrideWindowExpiry_answers : Answers i s (execOverrideWindowExpiry s) := by
  refine .finish ?_
  split
  · exact (Keeps.atTime _).trans (Keeps.lensSettings (l := { s.lens with override := none }) _ rfl rfl rfl rfl)
  · exact .refl _ _

theorem execFsyncEdge_answers (hi : MovesLabel i) : Answers i s (execFsyncEdge s) :=
  .finish (.ite (fun h => State.edgePresent_keeps s h hi) fun _ => State.edgeLost_keeps s hi)

theorem execFsyncWatchExpiry_answers : Answers i s (execFsyncWatchExpiry s) := by
  refine .finish ?_
  split
  · exact (Keeps.atTime _).trans (State.loseReference_keeps _)
  · exact .refl _ _

theorem execInternalFrameTimerExpiry_answers (hi : MovesLabel i) : Answers i s (execInternalFrameTimerExpiry s) := by
  refine .finish ?_
  split
  · next t ht =>
    exact (Keeps.atTime t).trans (State.frameTimerExpiry_keeps _ _ (by
      rw [show (s.atTime t).tc = s.tc from rfl, ht]; rfl) hi)
  · exact .refl _ _

theorem execRowMessageEnd_answers : Answers i s (execRowMessageEnd s) := by
  refine .finish ?_
  split
  · exact Keeps.beginRows s _
  · exact .refl _ _

theorem execVfPresentChange_answers (level : Bool) : Answers i s (execVfPresentChange level s) :=
  .finish ((Keeps.pins { s.pins with vfPresent := level }).trans (Keeps.setVfPresent { s with pins.vfPresent := level } level))

theorem execWarningExpiry_answers (k : WarnKind) : Answers i s (execWarningExpiry k s) := by
  refine .finish ?_
  split
  · exact (Keeps.atTime _).trans (State.setWarned_keeps _ _ _)
  all_goals exact .refl _ _

theorem execCardLineEdge_answers (sl : Slot) (line : CardLine) (level : Bool) : Answers i s (execCardLineEdge sl line level s) :=
  .finish (.ite (fun _ => .refl _ _) fun _ => (Keeps.pins _).trans (State.setSlot_keeps _ _ _))

theorem execCardLineAccepted_answers (sl : Slot) (line : CardLine) : Answers i s (execCardLineAccepted sl line s) := by
  refine .finish ?_
  split
  · exact ((Keeps.atTime _).trans (State.setSlot_keeps _ _ _)).trans (State.acceptLine_keeps _ _ _)
  · exact .refl _ _

theorem execMountTimeout_answers (sl : Slot) : Answers i s (execMountTimeout sl s) := by
  refine .finish ?_
  split
  · exact ((Keeps.atTime _).trans (State.setSlot_keeps _ _ _)).trans (State.testSlots_keeps _)
  · exact .refl _ _

theorem execConfirmationTimeout_answers : Answers i s (execConfirmationTimeout s) := by
  refine .finish ?_
  split
  · next t h =>
    exact (Keeps.atTime t).trans (State.failStart_keeps (s.atTime t) _ fun hc => hc.starting (by
      rw [show (s.atTime t).recorder = s.recorder from rfl, h]; rfl))
  · exact .refl _ _

theorem execCloseTimeout_answers : Answers i s (execCloseTimeout s) := by
  refine .finish ?_
  split
  · next t h =>
    exact (Keeps.atTime t).trans (State.closeEnd_keeps (s.atTime t) (by
      rw [show (s.atTime t).recorder = s.recorder from rfl, h]; rfl))
  · exact .refl _ _

theorem execAccountingEvent_answers : Answers i s (execAccountingEvent s) := by
  refine .finish ?_
  split
  · next t h =>
    have ht : Keeps i s { s.atTime t with recorder.accountTimer := some (t + accountTime) } :=
      (Keeps.atTime t).trans (Keeps.recorder (s.atTime t) ⟨rfl, rfl, rfl, rfl, by
        rw [show (s.atTime t).recorder = s.recorder from rfl, h]; rfl, rfl, rfl, rfl⟩)
    exact ht.trans (State.account_keeps _ rfl)
  · exact .refl _ _

theorem execToggleInhibitExpiry_answers : Answers i s (execToggleInhibitExpiry s) := by
  refine .finish ?_
  split
  · exact (Keeps.atTime _).trans (Keeps.inhibit _ none)
  · exact .refl _ _

theorem execTallyBlinkToggle_answers : Answers i s (execTallyBlinkToggle s) := by
  refine .finish ?_
  split
  · exact (Keeps.atTime _).trans (Keeps.recorder (s.atTime _) ⟨rfl, rfl, rfl, rfl, rfl, rfl, rfl, rfl⟩)
  · exact .refl _ _

theorem execSettlingExpiry_answers (ch : Channel) : Answers i s (execSettlingExpiry ch s) := by
  refine .finish ?_
  dsimp only
  split
  · refine (((Keeps.atTime _).trans (Keeps.channel (c := ({ s.audio.channel ch with settling := none } : ChannelRec).apply)
      (s.atTime _) ch ?_ rfl rfl rfl))).trans (State.post_keeps _ _)
    intro hc
    have hr := ChannelRec.range_of_wf hc
    exact ChannelRec.apply_wf hr
  · exact .refl _ _

theorem execShutdownLensStop_answers : Answers i s (execShutdownLensStop s) := by
  refine .finish ?_
  split
  · next h => exact .ite (fun _ => State.lensStopped_keeps s _ h) fun _ => .refl _ _
  · exact .refl _ _

theorem execPwrHoldRelease_answers (hi : i = .pwrHoldRelease) : Answers i s (execPwrHoldRelease s) := by
  refine .finish ?_
  split
  · next h => exact (Keeps.atTime _).trans (State.released_keeps (s.atTime _) h hi)
  · exact .refl _ _

/-! ## Every command -/

/-- Every command but a power-on reset answers a next state that keeps the invariants. -/
theorem exec_answers (hi : i ≠ .powerOnReset) : Answers i s (exec i s) := by
  cases i
  case powerOnReset => exact absurd rfl hi
  case warmReset => exact .finish (State.warmReset_keeps s)
  case lineBreak => exact execLineBreak_answers s
  case frameReceived chars => exact execFrameReceived_answers s chars
  case interByteTimeout => exact execInterByteTimeout_answers s
  case txFrameEnd => exact execTxFrameEnd_answers s
  case unknownKind tag kind => exact execUnknownKind_answers s tag kind
  case statusGet => exact .request statusGetOwner_keeps
  case beep => exact .request (beepOwner_keeps _)
  case inputConfig => exact .request (inputConfigOwner_keeps _)
  case keymapSet => exact .request (keymapSetOwner_keeps _)
  case keymapGet => exact .request (keymapGetOwner_keeps _)
  case rockerSet => exact .request (rockerSetOwner_keeps _)
  case tokensRead => exact .request tokensReadOwner_keeps
  case beeperSet => exact .request (beeperSetOwner_keeps _)
  case controlsGet => exact .request controlsGetOwner_keeps
  case adcEnable => exact .request (adcEnableOwner_keeps _)
  case adcCalibrate => exact .request adcCalibrateOwner_keeps
  case adcGet => exact .request fun _ => .refl _ _
  case lensHome => exact .request (lensHomeOwner_keeps _)
  case lensStop => exact .request (lensStopOwner_keeps _)
  case zoomGoto => exact .request (zoomGotoOwner_keeps _)
  case zoomDrive => exact .request (zoomDriveOwner_keeps _)
  case presetRecall => exact .request (presetRecallOwner_keeps _)
  case presetSet => exact .request (presetSetOwner_keeps _)
  case focusGoto => exact .request (focusGotoOwner_keeps _)
  case focusModeSet => exact .request (focusModeSetOwner_keeps _)
  case lensConfig => exact .request (lensConfigOwner_keeps _)
  case lensGet => exact .request fun _ => .refl _ _
  case stabModeSet => exact .request (stabModeSetOwner_keeps _)
  case stabGainTableSet => exact .request (stabGainTableSetOwner_keeps _)
  case stabOffsetSet => exact .request (stabOffsetSetOwner_keeps _)
  case stabGet => exact .request stabGetOwner_keeps
  case tcSet tag a => exact .request (tcSetOwner_keeps (.inr (.inr (.inl ⟨tag, a, rfl⟩))) _)
  case tcModeSet tag a => exact .request (tcModeSetOwner_keeps (.inr (.inr (.inr ⟨tag, a, rfl⟩))) _)
  case userbitsSet => exact .request (userbitsSetOwner_keeps _)
  case tcGet => exact .request tcGetOwner_keeps
  case recConfig => exact .request (recConfigOwner_keeps _)
  case clipNumberSet => exact .request (clipNumberSetOwner_keeps _)
  case recStart => exact .request recStartOwner_keeps
  case recConfirm => exact .request (recConfirmOwner_keeps _)
  case recStop => exact .request recStopOwner_keeps
  case clipClosed => exact .request (clipClosedOwner_keeps _)
  case cardReport => exact .request (cardReportOwner_keeps _)
  case mediaUpdate => exact .request (mediaUpdateOwner_keeps _)
  case mediaFault => exact .request (mediaFaultOwner_keeps _)
  case tallySet => exact .request (tallySetOwner_keeps _)
  case recGet => exact .request fun _ => .refl _ _
  case clipRead => exact .request (clipReadOwner_keeps _)
  case clipMark => exact .request (clipMarkOwner_keeps _)
  case clipLogClear => exact .request clipLogClearOwner_keeps
  case audioConfig => exact .request (audioConfigOwner_keeps _)
  case audioGainSet => exact .request (audioGainSetOwner_keeps _)
  case audioGet => exact .request audioGetOwner_keeps
  case ovlWrite => exact .request (ovlWriteOwner_keeps _)
  case ovlFill => exact .request (ovlFillOwner_keeps _)
  case ovlScroll => exact .request (ovlScrollOwner_keeps _)
  case ovlClear => exact .request (ovlClearOwner_keeps _)
  case ovlCursor => exact .request (ovlCursorOwner_keeps _)
  case ovlPageSelect => exact .request (ovlPageSelectOwner_keeps _)
  case ovlMenuSet => exact .request (ovlMenuSetOwner_keeps _)
  case ovlFieldSet => exact .request (ovlFieldSetOwner_keeps _)
  case ovlGet => exact .request (ovlGetOwner_keeps _)
  case supplySet => exact .request (supplySetOwner_keeps _)
  case supplyGet => exact .request supplyGetOwner_keeps
  case standbyEnter => exact .request (standbyEnterOwner_keeps _)
  case standbyExit => exact .request (standbyExitOwner_keeps _)
  case shutdown => exact .request (shutdownOwner_keeps _)
  case resetPart => exact .request (resetPartOwner_keeps _)
  case scan levels => exact execScan_answers s levels
  case longPressTimerExpiry n => exact execLongPressTimerExpiry_answers s n
  case encoderTransition e a b time => exact execEncoderTransition_answers s e a b time
  case beepPatternEnd => exact execBeepPatternEnd_answers s
  case rockerRequestTimer => exact execRockerRequestTimer_answers s
  case supplyRequestTimer => exact execSupplyRequestTimer_answers s
  case conversionEnd raw => exact execConversionEnd_answers s raw
  case calibrationEnd r => exact execCalibrationEnd_answers s r
  case controlEvent ax => exact execControlEvent_answers s ax
  case stallPauseEnd ax => exact execStallPauseEnd_answers s ax
  case stallSuspectExpiry ax => exact execStallSuspectExpiry_answers s ax
  case directionGapEnd ax => exact execDirectionGapEnd_answers s ax
  case motorEncoderEdge ax line time => exact execMotorEncoderEdge_answers s ax line time
  case speedTimeout ax => exact execSpeedTimeout_answers s ax
  case seekEnd ax => exact execSeekEnd_answers s ax
  case homingTimeout ax => exact execHomingTimeout_answers s ax
  case driveTimerExpiry => exact execDriveTimerExpiry_answers s
  case overrideWindowExpiry => exact execOverrideWindowExpiry_answers s
  case sampleEvent => exact execSampleEvent_answers s
  case fsyncEdge => exact execFsyncEdge_answers s (.inl rfl)
  case fsyncWatchExpiry => exact execFsyncWatchExpiry_answers s
  case internalFrameTimerExpiry => exact execInternalFrameTimerExpiry_answers s (.inr (.inl rfl))
  case rowMessageEnd => exact execRowMessageEnd_answers s
  case vfPresentChange level => exact execVfPresentChange_answers s level
  case warningExpiry k => exact execWarningExpiry_answers s k
  case cardLineEdge sl line level => exact execCardLineEdge_answers s sl line level
  case cardLineAccepted sl line => exact execCardLineAccepted_answers s sl line
  case mountTimeout sl => exact execMountTimeout_answers s sl
  case confirmationTimeout => exact execConfirmationTimeout_answers s
  case closeTimeout => exact execCloseTimeout_answers s
  case accountingEvent => exact execAccountingEvent_answers s
  case toggleInhibitExpiry => exact execToggleInhibitExpiry_answers s
  case tallyBlinkToggle => exact execTallyBlinkToggle_answers s
  case levelEvent => exact execLevelEvent_answers s
  case settlingExpiry ch => exact execSettlingExpiry_answers s ch
  case shutdownLensStop => exact execShutdownLensStop_answers s
  case pwrHoldRelease => exact execPwrHoldRelease_answers s rfl
  case characterError c => exact execCharacterError_answers s c

end events

end Sys2Proof.Machine

/-! The invariants of a step, of the reset, and what every command moves. -/

namespace Sys2Proof.Machine

/-! ## The part after a power-on reset -/

section reset
variable (p : Pins)

theorem Fields.powerOn_disabled (k : FieldKind) : (Fields.powerOn.entry k).enable = false := by cases k <;> rfl

theorem State.powerOn_fields : FieldsInv (State.powerOn p) := by
  have h (k : FieldKind) : ((State.powerOn p).ovl.fields.entry k).enable = true → False := fun e =>
    absurd (e.symm.trans (Fields.powerOn_disabled k)) nofun
  exact ⟨fun k _ _ e _ => (h k e).elim, fun k e => (h k e).elim⟩

theorem State.powerOn_queues : QueueInv (State.powerOn p) := ⟨Nat.zero_le _, Nat.zero_le _, Nat.zero_le _, Nat.zero_le _⟩

theorem State.powerOn_clips : ClipInv (State.powerOn p) := by
  refine ⟨⟨Nat.zero_le _, List.nodup_nil, rfl, rfl, rfl⟩, ⟨rfl, rfl, rfl, rfl, ?_⟩, fun _ => .inl rfl⟩
  exact ⟨⟨nofun, nofun⟩, ⟨nofun, nofun⟩, ⟨nofun, nofun⟩, nofun, nofun⟩

theorem State.powerOn_gains : GainInv (State.powerOn p) := by
  have h : ChannelRec.powerOn.wf = true := rfl
  exact ⟨h, h, nofun⟩

theorem State.powerOn_menu : MenuInv (State.powerOn p) := ⟨nofun, fun _ => rfl⟩

theorem State.powerOn_stab : StabInv (State.powerOn p) := by
  have hg : Converter.powerOn.enables.get 0 = true ∧ Converter.powerOn.enables.get 1 = true := ⟨rfl, rfl⟩
  have hi : GyroAxis.powerOn.idle = true := rfl
  exact ⟨⟨rfl, rfl, by
    rw [show (State.powerOn p).conv = Converter.powerOn from rfl, hg.1, hg.2]; rfl⟩, nofun, fun _ => ⟨hi, hi, rfl, rfl, rfl⟩⟩

theorem State.powerOn_lens : LensInv (State.powerOn p) := by
  have hp (n : Fin 8) : Lens.powerOn.presets.get n = 0 := vector_get_replicate _ _
  have h0 : (0 : Int) ≤ Lens.powerOn.zoom.span := by decide
  refine ⟨⟨h0, nofun, fun n => (hp n).ge, nofun⟩, ⟨Nat.zero_le _, Nat.zero_le _⟩, nofun, fun _ => rfl⟩

theorem State.powerOn_converter : ConverterInv (State.powerOn p) := nofun

theorem State.powerOn_power : PowerInv (State.powerOn p) := ⟨rfl, rfl, rfl, nofun, ⟨nofun, nofun⟩, nofun⟩

theorem State.powerOn_reference : ReferenceInv (State.powerOn p) := ⟨rfl, rfl, fun _ => rfl⟩

theorem State.powerOn_label : LabelInv (State.powerOn p) := by
  have h : validLabel Timecode.powerOn.rate Timecode.powerOn.label = true := by decide
  exact h

end reset

/-- Settles O16. -/
theorem resetMeetsEveryInvariant : Obligations.ResetMeetsEveryInvariant :=
  ⟨State.powerOn_label _, State.powerOn_queues _, State.powerOn_clips _, State.powerOn_gains _, State.powerOn_fields _,
    State.powerOn_menu _, State.powerOn_stab _, State.powerOn_lens _, State.powerOn_converter _, State.powerOn_power _,
    State.powerOn_reference _⟩

/-! ## Steps -/

/-- A command other than a power-on reset keeps the invariants. -/
theorem exec_keeps {i : Instr} {s t : State} (hi : i ≠ .powerOnReset) (h : exec i s = .next t) : Keeps i s t := by
  obtain ⟨u, hu, hk⟩ := exec_answers s hi
  obtain rfl := Host.Outcome.next.inj (hu.symm.trans h)
  exact hk

theorem exec_powerOnReset {s t : State} (h : exec .powerOnReset s = .next t) :
    Keeps .powerOnReset { State.powerOn s.pins with pending := s.pending } t := by
  obtain rfl := Host.Outcome.next.inj h
  exact settle_keeps _

/-- A predicate that every piece of work keeps, that a power-on reset meets and that does not read the waiting commands, is kept by
every step. -/
theorem step_preserves {P : State → Prop} (hk : ∀ {i s t}, Keeps i s t → P s → P t) (hr : ∀ p, P (State.powerOn p))
    (hq : ∀ s q, P s → P { s with pending := q }) {s t : State} (hs : P s) (h : step s = .next t) : P t := by
  unfold step at h
  split at h
  · obtain rfl := Host.Outcome.next.inj h
    exact hs
  · next c rest _ =>
    by_cases hc : c = .powerOnReset
    · subst hc
      exact hk (exec_powerOnReset h) (hq _ _ (hr _))
    · exact hk (exec_keeps hc h) (hq _ _ hs)

theorem clipInv_iff (s : State) : ClipInv s ↔ ClipCore s ∧ RecorderPower s := by
  unfold ClipInv ClipCore RecorderInv RecorderPower
  tauto

theorem stabInv_iff (s : State) : StabInv s ↔ StabCore s ∧ RunCopy s := by
  unfold StabInv StabCore CopiesInv RunCopy Stabiliser.sound
  tauto

theorem referenceInv_iff (s : State) : ReferenceInv s ↔ ReferenceTimers s ∧ ReportedInForce s := by
  unfold ReferenceInv ReferenceTimers ReportedInForce
  tauto

/-- Settles O7: each command keeps the label valid, the two timers with the reference state, and the report with it. -/
theorem stepKeepsTheLabelAndTheReference : Obligations.StepKeepsTheLabelAndTheReference := by
  refine fun s t h => ⟨fun hs => ?_, fun hs => ?_⟩
  · exact step_preserves (P := LabelInv) (fun hk => hk.label) State.powerOn_label (fun _ _ => id) hs h
  · refine step_preserves (P := ReferenceInv) (fun {i s t} hk hs => ?_) State.powerOn_reference (fun _ _ => id) hs h
    rw [referenceInv_iff] at hs ⊢
    exact ⟨hk.timers hs.1, hk.reported hs.2⟩

/-- Settles O8. -/
theorem stepKeepsTheQueueCapacities : Obligations.StepKeepsTheQueueCapacities := fun _ _ =>
  step_preserves (P := QueueInv) (fun hk => hk.queues) State.powerOn_queues fun _ _ => id

/-- Settles O9: the clip log, the record state and the supply state by `ClipCore`, the recorder's copy of the power state apart. -/
theorem stepKeepsTheClipsAndTheSupplyInStep : Obligations.StepKeepsTheClipsAndTheSupplyInStep := fun _ _ =>
  step_preserves (P := ClipInv) (fun {i s t} hk hs => by
    rw [clipInv_iff] at hs ⊢
    exact ⟨hk.clips hs.1, hk.recorderPower hs.2⟩) State.powerOn_clips fun _ _ => id

/-- Settles O10. -/
theorem stepKeepsTheGains : Obligations.StepKeepsTheGains := fun _ _ =>
  step_preserves (P := GainInv) (fun hk => hk.gains) State.powerOn_gains fun _ _ => id

/-- Settles O11. -/
theorem stepKeepsTheOverlay : Obligations.StepKeepsTheOverlay := fun _ _ =>
  step_preserves (P := fun s => FieldsInv s ∧ MenuInv s) (fun hk hs => ⟨hk.fields hs.1, hk.menu hs.2⟩)
    (fun p => ⟨State.powerOn_fields p, State.powerOn_menu p⟩) fun _ _ => id

/-- Settles O12: the conditions and the centred coils by `StabCore`, the copy of the power state apart. -/
theorem stepKeepsTheStabiliser : Obligations.StepKeepsTheStabiliser := fun _ _ =>
  step_preserves (P := StabInv) (fun {i s t} hk hs => by
    rw [stabInv_iff] at hs ⊢
    exact ⟨hk.stab hs.1, hk.runCopy hs.2⟩) State.powerOn_stab fun _ _ => id

/-- Settles O13: the bridges follow the power state, so `PowerInv` is kept along. -/
theorem stepKeepsTheLens : Obligations.StepKeepsTheLens := fun _ _ hs h =>
  And.left <| step_preserves (P := fun s => LensInv s ∧ PowerInv s)
    (fun hk ⟨⟨h1, h2, h3⟩, hp⟩ => ⟨⟨hk.presets h1, hk.duties h2, hk.float ⟨h3, hp⟩⟩, hk.power hp⟩)
    (fun p => ⟨State.powerOn_lens p, State.powerOn_power p⟩) (fun _ _ => id) hs h

/-- Settles O14. -/
theorem stepKeepsTheConverterBusy : Obligations.StepKeepsTheConverterBusy := fun _ _ =>
  step_preserves (P := ConverterInv) (fun hk => hk.converter) State.powerOn_converter fun _ _ => id

/-- Settles O15. -/
theorem stepKeepsThePowerState : Obligations.StepKeepsThePowerState := fun _ _ =>
  step_preserves (P := PowerInv) (fun hk => hk.power) State.powerOn_power fun _ _ => id

/-! ## Every command -/

/-- Settles O2. -/
theorem everyCommandCompletes : Obligations.EveryCommandCompletes := by
  intro i s
  by_cases hi : i = .powerOnReset
  · subst hi
    exact ⟨_, rfl, (settle_keeps (i := .powerOnReset) { State.powerOn s.pins with pending := s.pending }).pending,
      fun h => absurd rfl h⟩
  · obtain ⟨t, ht, hk⟩ := exec_answers s hi
    exact ⟨t, ht, hk.pending, fun _ => hk.clock⟩

/-- Settles O17: the label moves by the commands of `MovesLabel`, and PWR_HOLD by its release, a power-on reset apart. -/
theorem onlyNamedCommandsMoveTheLabelAndPwrHold : Obligations.OnlyNamedCommandsMoveTheLabelAndPwrHold := by
  intro i s t h
  by_cases hi : i = .powerOnReset
  · subst hi
    have hk := exec_powerOnReset h
    refine ⟨fun _ => .inr (.inr (.inl rfl)), fun _ ht => ?_, fun _ _ => rfl⟩
    rcases hk.pwrHold with e | ⟨e, -⟩
    · exact absurd (ht.symm.trans e) nofun
    · exact e
  · have hk := exec_keeps hi h
    refine ⟨fun hne => ?_, fun hs ht => ?_, fun hs ht => ?_⟩
    · rcases hk.labelMove hne with e | e | e | e
      · exact .inl e
      · exact .inr (.inl e)
      · exact .inr (.inr (.inr (.inl e)))
      · exact .inr (.inr (.inr (.inr e)))
    · rcases hk.pwrHold with e | ⟨e, -⟩
      · exact absurd (ht.symm.trans (e.trans hs)) nofun
      · exact e
    · rcases hk.pwrHold with e | ⟨-, e⟩
      · exact absurd (ht.symm.trans (e.trans hs)) nofun
      · exact absurd (ht.symm.trans e) nofun

/-- Settles O1. -/
theorem stepRunsTheFrontCommand : Obligations.StepRunsTheFrontCommand := by
  refine ⟨fun c rest s => rfl, fun s h => ?_⟩
  unfold step
  rw [h]

end Sys2Proof.Machine

/-! The end of every command: the live fields and the transmitter. -/

namespace Sys2Proof.Machine

/-! ## The live fields at the end of a step -/

theorem allFields_nodup : allFields.Nodup := by decide

theorem Overlay.handField_entry (o : Overlay) (k k' : FieldKind) (text : List Cell) :
    (o.handField k text).fields.entry k' = if k' = k then { o.fields.entry k with text := text } else o.fields.entry k' := by
  have he := Fields.entry_setEntry o.fields { o.fields.entry k with text := text } k k'
  unfold Overlay.handField
  dsimp only
  by_cases ht : (o.fields.entry k).text = text
  · rw [if_pos ht]
    split
    · next hk => rw [hk, ← ht]
    · rfl
  · rw [if_neg ht]
    split <;> exact he

/-- A row that a live text's change marks (R176). -/
def marksRow (e : LiveField) (text : List Cell) (page : Fin 4) (row : Fin 16) : Prop :=
  e.enable = true ∧ e.page = page ∧ e.row = row ∧ e.text ≠ text

theorem Overlay.markRow_dirty (o : Overlay) (p page : Fin 4) (r row : Fin 16) :
    ((o.markRow p r).pages.get page).dirty.get row = true ↔
      (o.pages.get page).dirty.get row = true ∨ p = page ∧ r = row := by
  obtain ⟨-, hother, -, -, hdirty⟩ := Overlay.markRow_marks o p r
  by_cases hp : page = p
  · subst hp
    rw [hdirty, Bool.or_eq_true, decide_eq_true_eq, eq_comm (a := row)]
    exact or_congr_right (by rw [eq_self, true_and])
  · rw [hother page hp]
    simp [Ne.symm hp]

theorem Overlay.handField_dirty (o : Overlay) (k : FieldKind) (text : List Cell) (page : Fin 4) (row : Fin 16) :
    ((o.handField k text).pages.get page).dirty.get row = true ↔
      (o.pages.get page).dirty.get row = true ∨ marksRow (o.fields.entry k) text page row := by
  unfold Overlay.handField marksRow
  dsimp only
  by_cases ht : (o.fields.entry k).text = text
  · simp [ht]
  · rw [if_neg ht]
    split
    · next he => rw [Overlay.markRow_dirty]; simp [he, ht]
    · next he => simp [he]

/-- The live fields handed over one by one (R165, R176). -/
theorem Overlay.handFields (f : FieldKind → List Cell) (l : List FieldKind) (hl : l.Nodup) (o : Overlay) :
    (∀ k, (l.foldl (fun o k => o.handField k (f k)) o).fields.entry k =
      if k ∈ l then { o.fields.entry k with text := f k } else o.fields.entry k) ∧
    ∀ page row, ((l.foldl (fun o k => o.handField k (f k)) o).pages.get page).dirty.get row = true ↔
      (o.pages.get page).dirty.get row = true ∨ ∃ k ∈ l, marksRow (o.fields.entry k) (f k) page row := by
  induction l generalizing o with
  | nil => simp
  | cons k l ih =>
    obtain ⟨hk, hl⟩ := List.nodup_cons.1 hl
    obtain ⟨ihe, ihd⟩ := ih hl (o.handField k (f k))
    refine ⟨fun k' => ?_, fun page row => ?_⟩
    · rw [List.foldl_cons, ihe, Overlay.handField_entry]
      by_cases hk' : k' = k
      · subst hk'
        simp [hk]
      · simp [hk']
    · rw [List.foldl_cons, ihd, Overlay.handField_dirty, or_assoc]
      have hrest : (∃ k' ∈ l, marksRow ((o.handField k (f k)).fields.entry k') (f k') page row) ↔
          ∃ k' ∈ l, marksRow (o.fields.entry k') (f k') page row := by
        refine exists_congr fun k' => and_congr_right fun hm => ?_
        rw [Overlay.handField_entry, if_neg (ne_of_mem_of_not_mem hm hk)]
      rw [hrest]
      simp

theorem publish_entry (s : State) (k : FieldKind) :
    (publish s).ovl.fields.entry k = { s.ovl.fields.entry k with text := render s k } := by
  have h := (Overlay.handFields (render s) allFields allFields_nodup s.ovl).1 k
  rwa [if_pos (mem_allFields k)] at h

theorem publish_dirty (s : State) (page : Fin 4) (row : Fin 16) :
    ((publish s).ovl.pages.get page).dirty.get row = true ↔
      (s.ovl.pages.get page).dirty.get row = true ∨ ∃ k, marksRow (s.ovl.fields.entry k) (render s k) page row := by
  have h := (Overlay.handFields (render s) allFields allFields_nodup s.ovl).2 page row
  simp only [mem_allFields, true_and] at h
  exact h

/-- The texts do not enter what is rendered (R165). -/
theorem render_settle (s : State) (k : FieldKind) : render (settle s) k = render s k := by
  have hw : (settle s).ovl.warnings = s.ovl.warnings := by
    have h := congrArg Overlay.warnings (publish_keeps s).1
    exact h
  cases k
  case warning => simp only [render, hw]
  all_goals rfl

theorem settle_entry (s : State) (k : FieldKind) :
    (settle s).ovl.fields.entry k = { s.ovl.fields.entry k with text := render s k } := publish_entry s k

/-! ## Every command ends with `settle` -/

theorem request_settles (k : Kind) (tag : Byte) (owner : State → Answer) (s : State) : ∃ u, request k tag owner s = finish u := by
  unfold request
  split <;> exact ⟨_, rfl⟩

theorem exec_settles (i : Instr) (s : State) : ∃ u, exec i s = finish u := by
  by_cases h : ∃ p, requestOf i = some p
  · obtain ⟨⟨k, tag⟩, h⟩ := h
    obtain ⟨owner, ho⟩ := exec_eq_request i k tag h
    rw [ho]
    exact request_settles _ _ _ _
  · cases i
    all_goals first | exact ⟨_, rfl⟩ | exact absurd ⟨_, rfl⟩ h

theorem settled_of_exec {i : Instr} {s t : State} (h : exec i s = .next t) : ∃ u, t = settle u := by
  obtain ⟨u, hu⟩ := exec_settles i s
  exact ⟨u, (Host.Outcome.next.inj (hu.symm.trans h)).symm⟩

/-- Settles O3: every command ends with `settle`, which renders each field. -/
theorem liveFieldsFollowTheBlocks : Obligations.LiveFieldsFollowTheBlocks := by
  intro i s t h k
  obtain ⟨u, rfl⟩ := settled_of_exec h
  have ht : ((settle u).ovl.fields.entry k).text = render (settle u) k := by rw [settle_entry, render_settle]
  exact ⟨ht, ht ▸ render_shows (settle u) k⟩

/-! ## The transmitter at the end of a step -/

theorem Port.kick_busy {p : Port} (h : p.tx.isSome = true) : p.kick = p := by
  obtain ⟨f, hf⟩ := Option.isSome_iff_exists.1 h
  unfold Port.kick
  rw [hf]

theorem Port.kick_reply {p : Port} {r : Reply} {rest : List Reply} (h : p.tx = none) (hr : p.replies = r :: rest) :
    p.kick = { p with tx := some (.reply r 0), replies := rest } := by
  unfold Port.kick
  rw [h, hr]

theorem Port.kick_notice {p : Port} {n : Notice} {rest : List Notice} (h : p.tx = none) (hr : p.replies = [])
    (hn : p.notices = n :: rest) : p.kick = { p with tx := some (.notice n), notices := rest } := by
  unfold Port.kick
  rw [h, hr, hn]

theorem Port.kick_frame (p : Port) :
    p.kick = { p with replies := p.kick.replies, notices := p.kick.notices, tx := p.kick.tx } := by
  unfold Port.kick
  split <;> rfl

theorem Port.kick_idle {p : Port} (h : p.kick.tx = none) : p.kick.replies = [] ∧ p.kick.notices = [] := by
  cases ht : p.tx with
  | some f => rw [Port.kick_busy (by rw [ht]; rfl), ht] at h; cases h
  | none =>
    cases hr : p.replies with
    | cons r rest => rw [Port.kick_reply ht hr] at h; cases h
    | nil =>
      cases hn : p.notices with
      | cons n rest => rw [Port.kick_notice ht hr hn] at h; cases h
      | nil => rw [Port.kick_of_empty p ht hr hn]; exact ⟨hr, hn⟩

/-- Settles O4: every command ends with `settle`, in which an idle transmitter takes what waits. -/
theorem idleTransmitterLeavesNothingWaiting : Obligations.IdleTransmitterLeavesNothingWaiting := by
  intro i s t h hidle
  obtain ⟨u, rfl⟩ := settled_of_exec h
  exact Port.kick_idle hidle

/-- Settles O5: the live fields by `publish`, the transmitter by `Port.kick`. -/
theorem endOfStepFrame : Obligations.EndOfStepFrame := by
  intro s
  obtain ⟨ho, hcur, -⟩ := publish_keeps s
  refine ⟨rfl, ?_, Port.kick_frame s.port, Port.kick_busy, fun h => ⟨fun r rest => Port.kick_reply h, fun n rest => Port.kick_notice h,
    Port.kick_of_empty s.port h⟩, fun k => ⟨settle_entry s k, render_shows s k⟩, fun page => ⟨?_, hcur page, fun row => ?_⟩⟩
  · exact ho.trans rfl
  · obtain ⟨-, -, hcells, -⟩ := publish_pages s page
    exact hcells
  · exact publish_dirty s page row

/-! ## The two layers -/

theorem covers_iff (k : FieldKind) (e : LiveField) (page : Fin 4) (row : Fin 16) (column : Fin 40) :
    covers k e page row column = true ↔
      e.enable = true ∧ e.page = page ∧ e.row = row ∧ e.column ≤ column ∧ column.val < e.column.val + fieldWidth k := by
  simp only [covers, decide_eq_true_eq]

/-- Where no two enabled fields overlap, one of them at most covers a position (R164). -/
theorem covers_unique {s : State} (h : FieldsInv s) {k k' : FieldKind} {page : Fin 4} {row : Fin 16} {column : Fin 40}
    (hk : covers k (s.ovl.fields.entry k) page row column = true)
    (hk' : covers k' (s.ovl.fields.entry k') page row column = true) : k = k' := by
  rw [covers_iff] at hk hk'
  obtain ⟨e1, p1, r1, c1, w1⟩ := hk
  obtain ⟨e2, p2, r2, c2, w2⟩ := hk'
  by_contra hne
  have hf := h.1 k k' hne e1 e2
  have : overlaps k (s.ovl.fields.entry k) k' (s.ovl.fields.entry k') = true := by
    simp only [overlaps, decide_eq_true_eq]
    rw [Fin.le_def] at c1 c2
    exact ⟨p1.trans p2.symm, r1.trans r2.symm, by omega, by omega⟩
  rw [hf] at this
  cases this

/-- Settles O6: at most one enabled field covers the position, and the search over the fields finds it. -/
theorem displayedCellsComeFromTheTwoLayers : Obligations.DisplayedCellsComeFromTheTwoLayers := by
  intro s page row column hinv
  refine ⟨fun k cell hk hcell => ?_, fun hnone => ?_⟩
  · unfold Overlay.displayedCell
    cases hfind : allFields.find? fun k => covers k (s.ovl.fields.entry k) page row column with
    | none => exact absurd hk (by simpa using List.find?_eq_none.1 hfind k (mem_allFields k))
    | some k' =>
      obtain rfl := covers_unique hinv hk (by simpa using List.find?_some hfind)
      simp [hcell]
  · unfold Overlay.displayedCell
    rw [List.find?_eq_none.2 fun k _ => by simp [hnone k]]

end Sys2Proof.Machine

/-! The command port: the turn of requests, frames, line errors, the transmitter (O18 to O23, O26). -/

namespace Sys2Proof.Machine

/-! ## Shorthands for the outcomes of a request -/

/-- A request whose owner's answer is BAD_ARGUMENT. -/
theorem request_badArgument {k : Kind} {tag : Byte} {owner : State → Answer} {s : State} (h : Passed k tag s)
    (ho : owner (s.brought k tag) = badArgument (s.brought k tag)) :
    request k tag owner s = .next (answered k tag .badArgument .none .none (s.brought k tag)) :=
  request_of_passed h ho rfl

/-- A request that is refused for a reason. -/
theorem request_refused {k : Kind} {tag : Byte} {owner : State → Answer} {s : State} {r : Reason} (h : Passed k tag s)
    (ho : owner (s.brought k tag) = refuse r (s.brought k tag)) :
    request k tag owner s = .next (answered k tag .refused r .none (s.brought k tag)) :=
  request_of_passed h ho rfl

/-- A request that is answered OK. -/
theorem request_ok {k : Kind} {tag : Byte} {owner : State → Answer} {s u : State} (h : Passed k tag s)
    (ho : owner (s.brought k tag) = ok u) : request k tag owner s = .next (answered k tag .ok .none .none u) :=
  request_of_passed h ho rfl

/-- STATUS_GET is decided in every power state (R189, R200). -/
theorem request_statusGet {tag : Byte} {s : State} (h : s.port.takes (kindCode .statusGet) tag = true) :
    exec (.statusGet tag) s = .next (answered .statusGet tag .ok .none (.status (s.brought .statusGet tag).status)
      { s.brought .statusGet tag with port.linkError := false, port.noticesLost := false }) := by
  show request .statusGet tag statusGetOwner s = _
  unfold request
  rw [if_pos h]
  simp only [decision, ne_eq, not_true_eq_false, and_false, if_false]
  rfl

/-! ## SHUTDOWN -/

theorem State.abandonSlot_log (sl : Slot) (s : State) :
    (s.abandonSlot sl).log = s.log ∧ (s.abandonSlot sl).recorder.endLabel = s.recorder.endLabel := by
  unfold State.abandonSlot
  dsimp only
  split
  · cases sl <;> exact ⟨rfl, rfl⟩
  · exact ⟨rfl, rfl⟩

theorem State.endClip_log (st : ClipState) (s : State) : (s.endClip st).log = s.log.close st s.recorder.endLabel := by
  simp [State.endClip, State.setRecState]

/-- The end of the close window closes the OPEN record UNCONFIRMED (R121, R136). -/
theorem exec_closeTimeout_log {s : State} {t : Nat} (h : s.recorder.closeTimer = some t) :
    ∃ u, exec .closeTimeout s = .next u ∧ u.log.records = s.log.records.map fun r =>
      if r.state = .opened then { r with state := .unconfirmed, endLabel := s.recorder.endLabel } else r := by
  refine ⟨settle ((((s.atTime t).abandonSlot .a).abandonSlot .b).endClip .unconfirmed), ?_, ?_⟩
  · show execCloseTimeout s = _
    unfold execCloseTimeout
    rw [h]
    rfl
  · show ((((s.atTime t).abandonSlot .a).abandonSlot .b).endClip .unconfirmed).log.records = _
    simp only [State.endClip_log, State.abandonSlot_log, State.atTime_log, State.atTime_recorder]
    rfl

theorem exec_warmReset_power (s : State) : ∃ t, exec .warmReset s = .next t ∧ t.supply.power = .init :=
  ⟨settle s.warmReset, rfl, by simp [settle, State.warmReset, State.warmBlocks, Supply.warmed, Supply.powerOn]⟩

/-- Settles O18: the decision of a request is the refusal, STATUS_GET excepted; two events do what they do in any power state. -/
theorem shutdownRefusesEveryRequest : Obligations.ShutdownRefusesEveryRequest := by
  refine ⟨fun i k tag s hi hk hp ht => ?_, fun tag s _ ht => ⟨_, State.status_reported _, request_statusGet ht⟩,
    fun s _ => ⟨fun t => exec_closeTimeout_log, exec_warmReset_power s⟩⟩
  obtain ⟨owner, ho⟩ := exec_eq_request i k tag hi
  rw [ho, request_of_shutdown ht hp hk]
  congr 2
  cases k <;> rfl

/-! ## The turn of requests -/

theorem replyKind_kindCode (k : Kind) : replyKind (kindCode k) = kindCode k + 0x80 := by
  rw [replyKind, if_pos (kindOf_kindCode k)]

theorem State.brought_waiting {k : Kind} {tag : Byte} {s : State} (h : ∃ x ∈ s.port.queue, x.state ≠ .taken) :
    s.brought k tag = s := by
  have hi : s.port.inHand.isSome = true := by
    unfold Port.inHand
    rw [List.find?_isSome]
    simpa using h
  simp only [State.brought, Port.bring, hi, if_true]

theorem Port.bring_arriving {p : Port} {kind tag : Byte} (h : ∀ x ∈ p.queue, x.state = .taken) :
    p.bring kind tag = p.arrive kind tag none := by
  rw [Port.bring, Port.inHand_none p h]
  rfl

theorem Port.arrive_room {p : Port} (kind tag : Byte) (payload : Option (List Byte)) (h : p.queue.length < 4) :
    p.arrive kind tag payload = { p with queue := p.queue ++ [⟨kind, tag, payload, .untaken⟩] } := if_pos h

theorem Port.arrive_overrun {p : Port} (kind tag : Byte) (payload : Option (List Byte)) (h : 4 ≤ p.queue.length)
    (ho : p.overruns < 4) : p.arrive kind tag payload =
      { p with replies := p.replies ++ [⟨replyKind kind, tag, .overrun, .none, .none, true⟩] } := by
  rw [Port.arrive, if_neg (by omega), if_pos ho]
  rfl

theorem Port.arrive_lost {p : Port} (kind tag : Byte) (payload : Option (List Byte)) (h : 4 ≤ p.queue.length)
    (ho : 4 ≤ p.overruns) : p.arrive kind tag payload = { p with linkError := true } := by
  rw [Port.arrive, if_neg (by omega), if_neg (by omega)]

theorem exec_unknownKind {tag kind : Byte} {s : State} (h : catalogued kind = false) :
    exec (.unknownKind tag kind) s = .next (settle (if s.port.takes kind tag then
      { s with port := (s.port.bring kind tag).answer kind tag .unknownKind .none .none }
      else { s with port := s.port.arrive kind tag none })) := by
  have hk : (kindOf kind).isSome = false := (kindOf_isSome_eq_catalogued kind).trans h
  show execUnknownKind tag kind s = _
  simp only [execUnknownKind, finish, hk, Bool.false_eq_true, if_false]

/-- What bringing a request to the port changes (R195). -/
theorem Port.bring_frame {p : Port} {kind tag : Byte} (h : p.takes kind tag = true) :
    p.bring kind tag = { p with queue := (p.bring kind tag).queue } := by
  rcases (Port.takes_iff p kind tag).1 h with ⟨before, e, rest, hq, hb, he, -⟩ | ⟨ht, hl⟩
  · have hi := Port.inHand_at p before rest e hq hb (by rw [he]; decide)
    simp [Port.bring, hi]
  · rw [Port.bring_arriving ht, Port.arrive_room _ _ _ hl]

/-- Settles O19: `Port.takes_iff`, and the arrival and the answer of a request by the room in the queue. -/
theorem requestsAreTakenInTheirTurn : Obligations.RequestsAreTakenInTheirTurn := by
  refine ⟨fun k tag s => ⟨Port.takes_iff _ _ _, State.brought_waiting, fun ht hl => ?_, fun before rest e hq hb he => ⟨?_, ?_⟩⟩,
    fun i k tag s hi ht => ?_, fun tag kind s hc => ⟨fun ht => ?_, fun ht hl => ?_⟩⟩
  · rw [State.brought, Port.bring_arriving ht, Port.arrive_room _ _ _ hl]
  · intro result reason body
    rw [answered, Port.answer, hq, setInHand_at _ _ _ _ hb he, mkReply, replyKind_kindCode]
  · intro st
    rw [hq, setInHand_at _ _ _ _ hb he]
  · obtain ⟨owner, ho⟩ := exec_eq_request i k tag hi
    rw [ho, request_of_arriving ht]
    refine ⟨fun hl => ?_, fun hl hr => ?_, fun hl hr => ?_⟩
    · rw [Port.arrive_room _ _ _ hl]
    · rw [Port.arrive_overrun _ _ _ hl hr, replyKind_kindCode]
    · rw [Port.arrive_lost _ _ _ hl hr]
  · have hk : replyKind kind = 0xBF := by
      rw [replyKind, kindOf_isSome_eq_catalogued, hc]
      rfl
    rw [exec_unknownKind hc, if_pos ht, Port.answer, mkReply, hk, Port.bring_frame ht]
  · rw [exec_unknownKind hc, ht, if_neg (by decide), Port.arrive_room _ _ _ hl]

/-! ## Frames -/

/-- A frame that comes whole to a hunting assembler (R194, R195). -/
theorem exec_frameReceived {kind tag check : Byte} {payload : List Byte} {s : State} (hs : s.port.assembler = .hunting)
    (hl : payload.length ≤ 128) :
    exec (.frameReceived ([0xA5, BitVec.ofNat 8 payload.length, kind, tag] ++ payload ++ [check])) s =
      .next (settle { s with port := (if (byteSum ([BitVec.ofNat 8 payload.length, kind, tag] ++ payload ++ [check]) = 0) then
        s.port.arrive kind tag (some payload) else { s.port with linkError := true }) }) := by
  show finish _ = _
  rw [character_fold_frame kind tag check payload s.port hs hl]
  unfold finish
  congr 3
  unfold Port.frameEnd
  have e : BitVec.ofNat 8 payload.length :: ([kind, tag] ++ payload ++ [check]) =
      [BitVec.ofNat 8 payload.length, kind, tag] ++ payload ++ [check] := rfl
  rw [e]
  split
  · simp only [List.cons_append, List.nil_append, List.dropLast_concat]
    rw [← hs]
  · simp only [Port.lineError]
    rw [← hs]

theorem exec_frameReceived_oversize {len : Byte} {s : State} (hs : s.port.assembler = .hunting) (hl : 128 < len.toNat) :
    exec (.frameReceived [0xA5, len]) s = .next (settle { s with port.linkError := true }) := by
  have hp : [0xA5, len].foldl Port.character s.port = { s.port with linkError := true } := by
    simp only [List.foldl_cons, List.foldl_nil, Port.character, hs, if_true, oversize, hl, decide_true, Port.lineError]
  show finish _ = _
  rw [hp]
  rfl

/-- Settles O20. -/
theorem framesArriveWhole : Obligations.FramesArriveWhole := by
  intro kind tag check payload s hs hl
  have hf := exec_frameReceived (kind := kind) (tag := tag) (check := check) hs hl
  refine ⟨fun h0 => ⟨fun hq => ?_, fun hq ho => ?_, fun hq ho => ?_⟩, fun h0 => ?_, fun len h => exec_frameReceived_oversize hs h⟩
  · rw [hf, if_pos h0, Port.arrive_room _ _ _ hq]
  · rw [hf, if_pos h0, Port.arrive_overrun _ _ _ hq ho, replyKind, kindOf_isSome_eq_catalogued]
  · rw [hf, if_pos h0, Port.arrive_lost _ _ _ hq ho]
  · rw [hf, if_neg h0]

theorem cellBytes_length (cells : Vector Cell 40) : (cellBytes cells).length = 80 := by
  simp [cellBytes]

/-- Settles O21: the last byte of both is the check byte of those before. -/
theorem framesAndRowMessagesSumToZero : Obligations.FramesAndRowMessagesSumToZero := by
  refine ⟨fun kind tag payload => byteSum_checkByte _, fun page row cells cursor => ⟨byteSum_checkByte _, ?_⟩⟩
  simp [rowMessage, cellBytes_length]

/-! ## Line errors -/

theorem exec_characterError {c : CharFault} {s : State} (h : s.port.isLineError c = true) :
    exec (.characterError c) s = .next (settle { s with port.assembler := .hunting, port.linkError := true }) := by
  show execCharacterError c s = _
  rw [execCharacterError, h]
  rfl

/-- Settles O22. -/
theorem lineErrorsAndLineBreaks : Obligations.LineErrorsAndLineBreaks := by
  intro s
  refine ⟨exec_characterError rfl, exec_characterError rfl, fun n hn => exec_characterError (by simpa [Port.isLineError] using hn),
    fun n hn => ?_, fun h => exec_characterError (by simpa [Port.isLineError] using h), fun chars h => ?_,
    fun taken rest e hq ht he => ?_, fun ht => ?_⟩
  · show execCharacterError _ s = _
    have : s.port.isLineError (.lowLine n) = false := by simpa [Port.isLineError] using hn
    rw [execCharacterError, this]
    rfl
  · show execInterByteTimeout s = _
    rw [execInterByteTimeout, h]
    rfl
  · show execLineBreak s = _
    rw [execLineBreak, hq, dropUntaken_at_inHand _ _ _ ht he]
    rfl
  · show execLineBreak s = _
    rw [execLineBreak, dropUntaken_of_taken _ ht]
    rfl

end Sys2Proof.Machine

/-! The transmitter, the reports and the beeper (O23 to O26). -/

namespace Sys2Proof.Machine

/-! ## The end of a frame -/

theorem Port.post_room {p : Port} {n : Notice} (h : p.notices.length < 32) : p.post n = { p with notices := p.notices ++ [n] } :=
  if_pos h

theorem Port.post_full {p : Port} {n : Notice} (h : 32 ≤ p.notices.length) : p.post n = { p with noticesLost := true } :=
  if_neg (by omega)

/-- The end of a settling period posts its notice (R146). -/
theorem exec_settlingExpiry_port {s : State} {ch : Channel} {t : Nat} (h : (s.audio.channel ch).settling = some t)
    (ht : s.port.tx.isSome = true) :
    ∃ u, exec (.settlingExpiry ch) s = .next u ∧ u.port = s.port.post (.audioSettled ch (s.audio.channel ch).input) := by
  refine ⟨_, rfl, ?_⟩
  simp only [h]
  refine Port.kick_busy ?_
  show (s.port.post _).tx.isSome = true
  unfold Port.post
  split <;> exact ht

theorem exec_txFrameEnd {s : State} (h : s.port.sendsReset = false) :
    exec .txFrameEnd s = .next (settle { s with port := s.port.frameSent }) := by
  show execTxFrameEnd s = _
  rw [execTxFrameEnd, h]
  rfl

theorem Port.sendsReset_reply {p : Port} {r : Reply} {part : Nat} (h : p.tx = some (.reply r part)) :
    p.sendsReset = isResetReply r := by
  rw [Port.sendsReset, h]

theorem lastPart_overlay {r : Reply} {o : OvlReport} (h : r.body = .overlay o) : lastPart r = 3 := by rw [lastPart, h]

theorem lastPart_other {r : Reply} (h : ∀ o, r.body ≠ .overlay o) : lastPart r = 0 := by
  unfold lastPart
  split
  · next o ho => exact absurd ho (h o)
  · rfl

/-- The last frame of a reply frees the transmitter and the reply's entry (R193, R197). -/
theorem exec_txFrameEnd_last {s : State} {r : Reply} {part : Nat} (ht : s.port.tx = some (.reply r part))
    (hr : isResetReply r = false) (hl : lastPart r ≤ part) : exec .txFrameEnd s = .next (settle { s with
      port.tx := none, port.queue := if r.overrun then s.port.queue else releaseEntry s.port.queue }) := by
  rw [exec_txFrameEnd ((Port.sendsReset_reply ht).trans hr), Port.frameSent, ht]
  simp only [if_neg (show ¬part < lastPart r by omega)]

/-- A frame of OVL_GET's reply before the last is followed by the next (R197). -/
theorem exec_txFrameEnd_next {s : State} {r : Reply} {part : Nat} (ht : s.port.tx = some (.reply r part))
    (hr : isResetReply r = false) (hl : part < lastPart r) :
    exec .txFrameEnd s = .next (settle { s with port.tx := some (.reply r (part + 1)) }) := by
  rw [exec_txFrameEnd ((Port.sendsReset_reply ht).trans hr), Port.frameSent, ht]
  simp only [if_pos hl]

theorem exec_txFrameEnd_notice {s : State} {n : Notice} (ht : s.port.tx = some (.notice n)) :
    exec .txFrameEnd s = .next (settle { s with port.tx := none }) := by
  rw [exec_txFrameEnd (by rw [Port.sendsReset, ht]), Port.frameSent, ht]

theorem exec_txFrameEnd_reset {s : State} {r : Reply} {part : Nat} (ht : s.port.tx = some (.reply r part))
    (hr : isResetReply r = true) : ∃ t, exec .txFrameEnd s = .next t ∧ exec .warmReset s = .next t := by
  refine ⟨settle s.warmReset, ?_, rfl⟩
  show execTxFrameEnd s = _
  rw [execTxFrameEnd, Port.sendsReset_reply ht, hr]
  rfl

/-- The bytes of a frame of OVL_GET's reply that carries cells or texts (R197). -/
theorem sendingBytes_overlay {r : Reply} {o : OvlReport} {part : Nat} {bytes : List Byte} (h : r.body = .overlay o)
    (hb : (o.contents part).bytes = some bytes) : sendingBytes (.reply r part) =
      some (frameBytes r.kind r.tag ([resultCode r.result, reasonCode r.reason, partByte r part] ++ bytes)) := by
  simp [sendingBytes, replyPayload, h, hb]

theorem OvlReport.texts_bytes (o : OvlReport) : (o.contents 1).bytes = some
    ((o.fields.timecode.text ++ o.fields.recState.text ++ o.fields.clipNo.text ++ o.fields.supply.text ++ o.fields.mediaA.text ++
      o.fields.mediaB.text ++ o.fields.zoomBar.text ++ o.fields.focus.text ++ o.fields.stab.text ++ o.fields.audio1.text ++
      o.fields.audio2.text ++ o.fields.warning.text).map (·.code)) := by
  simp [OvlReport.contents, OvlContents.bytes, allFields, Fields.entry]

theorem cellBytes_eq (cells : Vector Cell 40) :
    cellBytes cells = (cells.toList.map fun c => [c.code, styleCode c.style]).flatten := by
  rw [cellBytes, List.flatMap_def]

/-- Settles O23. -/
theorem framesAreSentToTheirEnd : Obligations.FramesAreSentToTheirEnd := by
  refine ⟨fun p n => ⟨Port.post_room, Port.post_full⟩, fun s ch t h ht => ?_,
    fun s => ⟨fun n => exec_txFrameEnd_notice, fun r part ht hr => ⟨fun o ho hp => ?_, fun hl => ?_⟩,
      fun r part => exec_txFrameEnd_reset⟩, fun r o h => ?_⟩
  · obtain ⟨u, hu, hp⟩ := exec_settlingExpiry_port h ht
    exact ⟨u, hu, fun hn => hp.trans (Port.post_room hn), fun hn => hp.trans (Port.post_full hn)⟩
  · exact exec_txFrameEnd_next ht hr (by rw [lastPart_overlay ho]; exact hp)
  · have hlast : lastPart r ≤ part := by
      by_cases ho : ∃ o, r.body = .overlay o
      · obtain ⟨o, ho⟩ := ho
        rw [lastPart_overlay ho]
        exact hl.resolve_left fun h => h o ho
      · rw [lastPart_other fun o h => ho ⟨o, h⟩]
        exact Nat.zero_le _
    have he := exec_txFrameEnd_last ht hr hlast
    refine ⟨fun ho => ?_, fun untaken rest e ho hq hu hk => ?_⟩
    · rw [he, if_pos ho]
    · rw [he, if_neg (by simp [ho]), hq, releaseEntry_at _ _ _ hu hk]
  · have hpart (part : Nat) : partByte r part = BitVec.ofNat 8 part ||| if part = 3 then 0x80 else 0 := by
      rw [partByte, lastPart_overlay h]
    refine ⟨hpart 0, hpart 1, hpart 2, hpart 3, rfl, ?_, ?_, ?_⟩
    · rw [sendingBytes_overlay h o.texts_bytes, hpart]; rfl
    · rw [sendingBytes_overlay h (bytes := cellBytes o.hostCells) rfl, hpart, cellBytes_eq]; rfl
    · rw [sendingBytes_overlay h (bytes := cellBytes o.displayedCells) rfl, hpart, cellBytes_eq]; rfl

/-! ## The reports -/

theorem ChannelRec.reported_eq (c : ChannelRec) : c.reported = { c with overFlag := c.overFlag && c.isOver } := by
  unfold ChannelRec.reported
  cases c.isOver <;> simp

theorem tokensRead_split {tokens read left : List (BitVec 16)} (h : tokens = read ++ left)
    (hr : read.length = min 8 tokens.length) : tokens.take 8 = read ∧ tokens.drop 8 = left := by
  by_cases hl : 8 ≤ tokens.length
  · rw [min_eq_left hl] at hr
    rw [h, ← hr]
    exact ⟨List.take_left, List.drop_left⟩
  · have ht : left = [] := by
      have := congrArg List.length h
      rw [List.length_append] at this
      exact List.length_eq_zero_iff.1 (by omega)
    subst ht
    rw [List.append_nil] at h
    subst h
    exact ⟨List.take_of_length_le (by omega), List.drop_eq_nil_of_le (by omega)⟩

/-- Settles O24: each owner's report and what it clears. -/
theorem reportsClearWhatTheyReport : Obligations.ReportsClearWhatTheyReport := by
  intro tag s
  refine ⟨fun h => ⟨_, State.status_reported _, request_statusGet h.1⟩,
    fun h => ⟨_, Controls.report_reported _, request_of_passed h rfl rfl⟩,
    fun h => ⟨_, Stabiliser.report_reported _, request_of_passed h rfl rfl⟩,
    fun h => ⟨_, Timecode.report_reported _, request_of_passed h rfl rfl⟩,
    fun h => ⟨_, Audio.report_reported _ _, ?_⟩,
    fun h => ⟨_, Supply.report_reported _, request_of_passed h rfl rfl⟩, fun read left h ht hr => ?_⟩
  · have ho : audioGetOwner (s.brought .audioGet tag) = okWith (.audio (s.audio.report s.clock)) { s.brought .audioGet tag with
        audio.ch1.overFlag := s.audio.ch1.overFlag && s.audio.ch1.isOver
        audio.ch2.overFlag := s.audio.ch2.overFlag && s.audio.ch2.isOver, audio.missed := 0, audio.replacements := 0 } := by
      simp only [audioGetOwner, ChannelRec.reported_eq]
      rfl
    exact request_of_passed h ho rfl
  · obtain ⟨e1, e2⟩ := tokensRead_split ht hr
    have ho : tokensReadOwner (s.brought .tokensRead tag) =
        okWith (.tokens read left.length) { s.brought .tokensRead tag with controls.tokens := left } := by
      simp only [tokensReadOwner, State.brought_controls, e1, e2]
    exact request_of_passed h ho rfl

/-! ## The reports that change nothing -/

theorem inputOf_val {n : Nat} {i : Fin 24} (h : n = i.val) : inputOf n = some i := finOf_eq_some i h

theorem inputOf_large {n : Nat} (h : 24 ≤ n) : inputOf n = none := finOf_eq_none h

theorem ClipLog.find_byIndex {l : ClipLog} {i : Nat} {r : ClipRec} (h : l.records[i]? = some r) (hi : i ≤ 63) :
    l.find (.byIndex i) = some (i, r) := by
  simp only [ClipLog.find, if_pos hi, h, Option.map_some]

theorem ClipLog.find_byNumber {l : ClipLog} {i : Nat} {r : ClipRec} (h : l.records[i]? = some r)
    (hl : clipNumberLegal r.number = true) (hn : ∀ j x, j < i → l.records[j]? = some x → x.number ≠ r.number) :
    l.find (.byNumber r.number) = some (i, r) := by
  have hi : i < l.records.length := (List.getElem?_eq_some_iff.1 h).1
  have hf : l.records.findIdx? (fun x => x.number = r.number) = some i := by
    rw [List.findIdx?_eq_some_iff_getElem]
    refine ⟨hi, by rw [(List.getElem?_eq_some_iff.1 h).2]; simp, fun j hj => ?_⟩
    simpa using hn j _ hj (List.getElem?_eq_getElem _)
  simp only [ClipLog.find, hl, if_true, hf, h, Option.map_some]

theorem ClipLog.find_byNumber_none {l : ClipLog} {n : Nat} (h : ∀ r ∈ l.records, r.number ≠ n) : l.find (.byNumber n) = none := by
  have hf : l.records.findIdx? (fun x => x.number = n) = none := by
    rw [List.findIdx?_eq_none_iff]
    simpa using h
  simp only [ClipLog.find, hf, ite_self]

theorem ClipLog.find_byIndex_none {l : ClipLog} {i : Nat} (h : l.records.length ≤ i ∨ 63 < i) : l.find (.byIndex i) = none := by
  unfold ClipLog.find
  dsimp only
  split
  · rw [List.getElem?_eq_none (by omega)]
    rfl
  · rfl

/-- CLIP_READ that finds a record, and one that does not (R141). -/
theorem exec_clipRead_found {tag : Byte} {s : State} (h : Passed .clipRead tag s) {sel : ClipSelector} {i : Nat} {r : ClipRec}
    (hf : s.log.find sel = some (i, r)) : exec (.clipRead tag (.given sel)) s = .next (answered .clipRead tag .ok .none
      (.clip s.log.records.length (some (i, r))) (s.brought .clipRead tag)) := by
  have ho : clipReadOwner (.given sel) (s.brought .clipRead tag) =
      okWith (.clip s.log.records.length (some (i, r))) (s.brought .clipRead tag) := by
    simp only [clipReadOwner, State.brought_log, hf]
  exact request_of_passed h ho rfl

theorem exec_clipRead_missing {tag : Byte} {s : State} (h : Passed .clipRead tag s) {sel : ClipSelector}
    (hf : s.log.find sel = none) : exec (.clipRead tag (.given sel)) s = .next (answered .clipRead tag .badArgument .none
      (.clip s.log.records.length none) (s.brought .clipRead tag)) := by
  have ho : clipReadOwner (.given sel) (s.brought .clipRead tag) =
      { badArgument (s.brought .clipRead tag) with body := .clip s.log.records.length none } := by
    simp only [clipReadOwner, State.brought_log, hf, alwaysCarried]
  exact request_of_passed h ho rfl

theorem ovlGetOwner_outside {a : OvlGetArgs} (h : 4 ≤ a.page ∨ 16 ≤ a.row) (u : State) :
    ovlGetOwner (.given a) u = badArgument u := by
  simp only [ovlGetOwner, withArgs]
  rcases h with h | h
  · rw [finOf_eq_none h]
  · rw [finOf_eq_none h]
    split
    · next e => cases e
    · rfl

/-- Settles O25. -/
theorem reportsThatChangeNothing : Obligations.ReportsThatChangeNothing := by
  intro tag s
  refine ⟨fun a h hi => ?_, fun h => request_badArgument (owner := keymapGetOwner .malformed) h rfl,
    fun a h hp => request_badArgument h (ovlGetOwner_outside hp _), fun h => request_badArgument (owner := ovlGetOwner .malformed) h rfl,
    fun h => request_of_passed (owner := clipReadOwner .malformed) h rfl rfl, fun a i h hi => ?_,
    fun h => ⟨_, Converter.report_reported _, request_of_passed (owner := adcGetOwner) h rfl rfl⟩,
    fun h => ⟨_, Lens.report_reported _ _, request_of_passed (owner := lensGetOwner) h rfl rfl⟩,
    fun h => ⟨_, State.recReport_reported s, request_of_passed (owner := recGetOwner) h rfl rfl⟩, fun a page row h hp hr => ?_,
    fun h => ⟨fun i r hr hi => exec_clipRead_found h (ClipLog.find_byIndex hr hi),
      fun i r hr hl hn => exec_clipRead_found h (ClipLog.find_byNumber hr hl hn), fun sel => exec_clipRead_missing h,
      fun n => ClipLog.find_byNumber_none, fun i => ClipLog.find_byIndex_none⟩⟩
  · have ho : keymapGetOwner (.given a) (s.brought .keymapGet tag) = badArgument (s.brought .keymapGet tag) := by
      simp only [keymapGetOwner, withArgs, inputOf_large hi]
    exact request_badArgument h ho
  · have ho : keymapGetOwner (.given a) (s.brought .keymapGet tag) =
        okWith (.keyEntry ((s.controls.keymap.layer a.layer).get i)) (s.brought .keymapGet tag) := by
      simp only [keymapGetOwner, withArgs, inputOf_val hi, State.brought_controls]
    exact request_of_passed h ho rfl
  · have ho : ovlGetOwner (.given a) (s.brought .ovlGet tag) =
        okWith (.overlay (s.ovlReport page row)) (s.brought .ovlGet tag) := by
      simp only [ovlGetOwner, withArgs, finOf_eq_some page hp, finOf_eq_some row hr]
      rfl
    exact ⟨_, State.ovlReport_reported s page row, request_of_passed h ho rfl⟩

/-! ## The beeper -/

theorem Controls.beeperOn_at {c : Controls} {p : Pattern} {start d : Nat} (h : c.beeper = some ⟨p, start + patternTime p⟩) :
    c.beeperOn (start + d) = levelAfter true (patternPeriods p) d := by
  have e : start + d + patternTime p - (start + patternTime p) = d := by omega
  simp only [Controls.beeperOn, h, e]

/-- The output of each pattern (R21, column Sound). -/
theorem levelAfter_pattern (p : Pattern) (d : Nat) : levelAfter true (patternPeriods p) d = true ↔ match p with
    | .short => d < 40000
    | .double => d < 40000 ∨ (100000 ≤ d ∧ d < 140000)
    | .long => d < 400000
    | .reject => d < 30000 ∨ (60000 ≤ d ∧ d < 90000) ∨ (120000 ≤ d ∧ d < 150000) := by
  cases p <;> simp [patternPeriods, levelAfter] <;> omega

theorem beepOwner_given {p : Pattern} {u : State} : beepOwner (.given p) u =
    if u.controls.beepEnable = false then refuse .none u
    else if u.controls.beeper.isSome then refuse .inProgress u else ok (u.beep p) := rfl

/-- Settles O26. -/
theorem beepIsDecidedByItsTable : Obligations.BeepIsDecidedByItsTable := by
  refine ⟨fun tag s ht => ⟨fun hp a => request_of_shutdown ht hp (by decide), fun hp => ⟨?_, fun p => ⟨fun h1 => ?_, fun h1 h2 => ?_,
    fun h1 h2 => ?_⟩⟩⟩, rfl, rfl, rfl, rfl, fun c t => ⟨fun h => by rw [Controls.beeperOn, h], fun p start d h e => ?_⟩⟩
  · exact request_badArgument (owner := beepOwner .malformed) ⟨ht, hp⟩ rfl
  · exact request_refused ⟨ht, hp⟩ (beepOwner_given.trans (if_pos h1))
  · exact request_refused ⟨ht, hp⟩ (beepOwner_given.trans (by
      simp only [State.brought_controls, h1, h2, Bool.true_eq_false, if_false, if_true]))
  · exact request_ok ⟨ht, hp⟩ (beepOwner_given.trans (by
      simp only [State.brought_controls, State.beep, h1, h2, Bool.true_eq_false, Option.isSome_none, Bool.false_eq_true, if_false,
        true_and, if_true]
      rfl))
  · rw [e, Controls.beeperOn_at h]
    exact levelAfter_pattern p d

end Sys2Proof.Machine

/-! The settings of the control scanner and of the converter (O27, O28). -/

namespace Sys2Proof.Machine

/-! ## Control scanner and beeper -/

theorem rockerLegal_iff {a : RockerArgs} :
    rockerLegal a = true ↔ a.centre ≤ 4095 ∧ a.deadZone ≤ 4095 ∧ a.fullScale ≤ 4095 ∧ a.deadZone < a.fullScale := by
  simp [rockerLegal]

/-- A held record is discarded with the modifier changes of its release (R3). -/
theorem State.dropHeld_some {i : Fin 24} {h : Held} {s : State} (hh : (s.controls.switches.get i).held = some h) :
    s.dropHeld i = { s with controls := { s.controls with
      switches := s.controls.switches.set i { s.controls.switches.get i with held := none } }.withRelease i h } := by
  rw [State.dropHeld, hh]
  exact State.releaseModifiers_eq i h _

theorem State.dropHeld_none {i : Fin 24} {s : State} (hh : (s.controls.switches.get i).held = none) : s.dropHeld i = s := by
  rw [State.dropHeld, hh]

/-- An input that stays enabled or stays disabled takes its configuration alone (R1). -/
theorem State.configureInput_same {i : Fin 24} {c : InputConfig} {s : State}
    (h : c.enabled = (s.controls.switches.get i).config.enabled) : s.configureInput i c =
      { s with controls.switches := s.controls.switches.set i { s.controls.switches.get i with config := c } } := by
  simp only [State.configureInput]
  rw [if_neg (by rw [← h]; simp), if_neg (by rw [← h]; simp)]
  rfl

/-- An input that is enabled starts INACTIVE (R3). -/
theorem State.configureInput_enabled {i : Fin 24} {c : InputConfig} {s : State}
    (h : (s.controls.switches.get i).config.enabled = false) (hc : c.enabled = true) : s.configureInput i c =
      { s with controls.switches := s.controls.switches.set i { s.controls.switches.get i with
          config := c, accepted := false, count := 0, polls := 0 } } := by
  simp only [State.configureInput]
  rw [if_neg (by simp [h]), if_pos ⟨h, hc⟩]
  simp [State.setAccepted, State.setSwitch, vector_get_set]

/-- An input that is disabled loses its held record with the modifier changes of a release (R3, R13). -/
theorem State.configureInput_disabled {i : Fin 24} {c : InputConfig} {s : State}
    (h : (s.controls.switches.get i).config.enabled = true) (hc : c.enabled = false) : s.configureInput i c =
      { s with
        controls.switches := s.controls.switches.set i ⟨c, false, 0, 0, none⟩
        controls.assign := match (s.controls.switches.get i).held with
          | some h => if h.lockedOut = false ∧ h.entry.action = .assign then s.controls.assign.set i false else s.controls.assign
          | none => s.controls.assign
        controls.lock := match (s.controls.switches.get i).held with
          | some h => s.controls.lock && !decide (h.lockedOut = false ∧ h.entry.action = .lock ∧ h.kind = .latching)
          | none => s.controls.lock } := by
  simp only [State.configureInput, State.disableInput]
  rw [if_pos ⟨h, hc⟩]
  cases hh : (s.controls.switches.get i).held with
  | none => simp [State.dropHeld_none hh, State.setAccepted, State.setSwitch, vector_get_set, hh]
  | some r => simp [State.dropHeld_some hh, State.setAccepted, State.setSwitch, vector_get_set, Controls.withRelease, Bool.and_comm]

theorem inputConfigOwner_input {i : Fin 24} {e : Bool} {p : Polarity} {k : InputKind} {w : Bool} {u : State} :
    inputConfigOwner (.given ⟨i.val, e, p, k, w⟩) u = ok (u.configureInput i ⟨e, p, k, w⟩) := by
  simp only [inputConfigOwner, withArgs, inputOf_val rfl]

/-- Settles O27. -/
theorem scannerSettingsAreStored : Obligations.ScannerSettingsAreStored := by
  refine ⟨fun tag s => ⟨fun h => request_badArgument (owner := keymapSetOwner .malformed) h rfl,
    fun h => request_badArgument (owner := rockerSetOwner .malformed) h rfl,
    fun h => request_badArgument (owner := beeperSetOwner .malformed) h rfl,
    fun h => request_badArgument (owner := inputConfigOwner .malformed) h rfl,
    fun h layer input entry => ⟨fun i hi => ?_, fun hi => ?_⟩, fun h c d f => ⟨fun h1 h2 h3 h4 => ?_, fun hn => ?_⟩,
    fun h => ⟨request_ok (owner := beeperSetOwner (.given true)) h rfl,
      request_ok (owner := beeperSetOwner (.given false)) h rfl⟩⟩,
    fun tag s i e p kind w h => ⟨fun he => ?_, fun ho he => ?_, fun ho he => ?_, fun n hn => ?_⟩⟩
  · exact request_ok (owner := keymapSetOwner (.given ⟨layer, input, entry⟩)) h
      (by simp only [keymapSetOwner, withArgs, inputOf_val hi, State.brought_controls])
  · exact request_badArgument (owner := keymapSetOwner (.given ⟨layer, input, entry⟩)) h
      (by simp only [keymapSetOwner, withArgs, inputOf_large hi])
  · exact request_ok (owner := rockerSetOwner (.given ⟨c, d, f⟩)) h (if_pos (rockerLegal_iff.2 ⟨h1, h2, h3, h4⟩))
  · refine request_badArgument (owner := rockerSetOwner (.given ⟨c, d, f⟩)) h (if_neg fun hl => ?_)
    obtain ⟨h1, h2, h3, h4⟩ := rockerLegal_iff.1 hl
    dsimp only at h1 h2 h3 h4
    omega
  · exact request_ok h (inputConfigOwner_input.trans (congrArg ok (State.configureInput_same he)))
  · exact request_ok h (inputConfigOwner_input.trans (congrArg ok (State.configureInput_enabled ho he)))
  · exact request_ok h (inputConfigOwner_input.trans (congrArg ok (State.configureInput_disabled ho he)))
  · exact request_badArgument (owner := inputConfigOwner (.given ⟨n, e, p, kind, w⟩)) h
      (by simp only [inputConfigOwner, withArgs, inputOf_large hn])

/-! ## Converter -/

theorem enablesOf_all {inputs : List Nat} (h : ∀ n ∈ inputs, n < 7) :
    enablesOf inputs = some (.ofFn fun i => inputs.contains i.val) :=
  if_pos (by simpa using h)

theorem enablesOf_outside {inputs : List Nat} (h : ∃ n ∈ inputs, 7 ≤ n) : enablesOf inputs = none :=
  if_neg (by simpa using h)

/-- Legal enables are stored, and a change of a gyro enable is handed to the stabiliser (R25). -/
theorem adcEnableOwner_legal {inputs : List Nat} {u : State} (h : ∀ n ∈ inputs, n < 7) :
    adcEnableOwner (.given inputs) u =
      ok ({ u with conv.enables := .ofFn fun i => inputs.contains i.val }.handGyro u.conv) := by
  simp only [adcEnableOwner, withArgs, enablesOf_all h]

theorem State.handGyro_same {before : Converter} {s : State} (h0 : before.enables.get 0 = s.conv.enables.get 0)
    (h1 : before.enables.get 1 = s.conv.enables.get 1) : s.handGyro before = s := if_pos ⟨h0, h1⟩

theorem State.handGyro_changed {before : Converter} {s : State}
    (h : before.enables.get 0 ≠ s.conv.enables.get 0 ∨ before.enables.get 1 ≠ s.conv.enables.get 1) :
    s.handGyro before =
      s.stabUpdate { s.stab.cond with gyroEnabled := s.conv.enables.get 0 && s.conv.enables.get 1 } :=
  if_neg (by tauto)

/-- A change of a gyro enable by ADC_ENABLE: the stabiliser follows (R25, R67). -/
theorem State.handGyro_follows {inputs : List Nat} {u : State}
    (h : inputs.contains 0 ≠ u.conv.enables.get 0 ∨ inputs.contains 1 ≠ u.conv.enables.get 1) :
    StabFollows u.stab.setting { u.stab.cond with gyroEnabled := inputs.contains 0 && inputs.contains 1 }
      { u with conv.enables := .ofFn fun i => inputs.contains i.val }
      ({ u with conv.enables := .ofFn fun i => inputs.contains i.val }.handGyro u.conv) := by
  rw [State.handGyro_changed (by simpa [vector_get_ofFn, eq_comm] using h)]
  simp only [vector_get_ofFn]
  exact State.stabUpdate_follows_setting _ _

theorem Converter.calibrationInHand_iff {c : Converter} :
    c.calibrationInHand = true ↔ c.owed = true ∨ ∃ t, c.activity = .calibrating t := by
  unfold Converter.calibrationInHand
  cases h : c.activity <;> simp

/-- The request that the port passes is not yet taken (R195). -/
theorem Port.bring_inHand {p : Port} {kind tag : Byte} (h : p.takes kind tag = true) :
    ∃ e, (p.bring kind tag).inHand = some e ∧ e.state = .untaken := by
  rcases (Port.takes_iff p kind tag).1 h with ⟨before, e, rest, hq, hb, he, -⟩ | ⟨ht, hl⟩
  · have hi := Port.inHand_at p before rest e hq hb (by rw [he]; decide)
    exact ⟨e, by simp [Port.bring, hi], he⟩
  · rw [Port.bring_arriving ht, Port.arrive_room _ _ _ hl]
    exact ⟨_, Port.inHand_at _ p.queue [] _ rfl ht (fun h => nomatch h), rfl⟩

/-- No ADC_CALIBRATE waits where the port passes a request. -/
theorem Port.bring_answerAccepted {p : Port} {kind tag : Byte} (h : p.takes kind tag = true) :
    (p.bring kind tag).answerAccepted = p.bring kind tag := by
  obtain ⟨e, he, hs⟩ := Port.bring_inHand h
  rw [Port.answerAccepted, he]
  exact if_neg (by rw [hs]; decide)

/-- ADC_CALIBRATE on an IDLE converter begins the calibration at once (R33). -/
theorem adcCalibrateOwner_idle {tag : Byte} {s : State} (h : Passed .adcCalibrate tag s) (hp : s.supply.power ≠ .standby)
    (ho : s.conv.owed = false) (ha : s.conv.activity = .idle) :
    adcCalibrateOwner (s.brought .adcCalibrate tag) = ok { s.brought .adcCalibrate tag with
      conv.activity := .calibrating (s.clock + 2000), conv.parties.host := true } := by
  have hc : s.conv.calibrationInHand = false := by simp [Converter.calibrationInHand, ho, ha]
  simp only [adcCalibrateOwner, State.brought_supply, State.brought_conv, if_neg hp, hc, Bool.false_eq_true, if_false, ha,
    State.callCalibration, State.beginCalibration]
  have hport : (s.brought .adcCalibrate tag).port.answerAccepted = (s.brought .adcCalibrate tag).port :=
    Port.bring_answerAccepted h.1
  rw [hport, ← ho]
  rfl

/-- ADC_CALIBRATE behind a group in service is owed, and its reply is held (R33). -/
theorem adcCalibrateOwner_converting {v : Service} {u : State} (hp : u.supply.power ≠ .standby) (ho : u.conv.owed = false)
    (ha : u.conv.activity = .converting v) :
    adcCalibrateOwner u = { ok { u with conv.owed := true, conv.parties.host := true } with held := true } := by
  have hc : u.conv.calibrationInHand = false := by simp [Converter.calibrationInHand, ho, ha]
  simp only [adcCalibrateOwner, if_neg hp, hc, Bool.false_eq_true, if_false, ha, State.callCalibration]

/-! ## What follows from new copies of the stabiliser's conditions -/

/-- Where the state that follows is the state in force, the copies alone change (R67). -/
theorem StabFollows.stands {on : Bool} {c : Conditions} {s t : State} (h : StabFollows on c s t)
    (hs : (∃ r, s.stab.state = .fault r) ∨ (s.stab.state = .off ∧ on = false) ∨
      (s.stab.state = .standby ∧ on = true ∧ ¬c.allHold)) : t = { s with stab.setting := on, stab.cond := c } := by
  obtain ⟨v, rfl, hfault, hrest⟩ := h
  rcases hs with ⟨r, hs⟩ | ⟨hs, hon⟩ | ⟨hs, hon, hc⟩
  · exact hfault r hs
  · exact ((hrest (by simp [hs])).2 _ _ (.inr ⟨hon, rfl, rfl⟩)).1 hs
  · exact ((hrest (by simp [hs])).2 _ _ (.inl ⟨hon, hc, rfl, rfl⟩)).1 hs

/-- A stabiliser in STANDBY whose conditions all hold becomes ACTIVE (R67, R70). -/
theorem StabFollows.begins {on : Bool} {c : Conditions} {s t : State} (h : StabFollows on c s t) (hs : s.stab.state = .standby)
    (hon : on = true) (hc : c.allHold) : t = { s with
      stab.setting := on, stab.cond := c, stab.state := .active .normal
      port := s.port.post (.stabState (.active .normal) none) } := by
  obtain ⟨v, rfl, -, hrest⟩ := h
  exact ((hrest (by simp [hs])).1 hon hc).2 (by simp [hs])

/-- An ACTIVE stabiliser that loses a condition goes to STANDBY with its coils centred (R67, R68, R70). -/
theorem StabFollows.leaves {on : Bool} {c : Conditions} {s t : State} {sub : SubState} (h : StabFollows on c s t)
    (hs : s.stab.state = .active sub) (hon : on = true) (hc : ¬c.allHold) : t = { s with
      stab := leftActive { s.stab with setting := on, cond := c } .standby
      port := s.port.post (.stabState .standby (some (blockedBy c))) } := by
  obtain ⟨v, rfl, -, hrest⟩ := h
  exact ((hrest (by simp [hs])).2 _ _ (.inl ⟨hon, hc, rfl, rfl⟩)).2.1 sub hs

/-- Settles O28. -/
theorem converterRequestsAreDecided : Obligations.ConverterRequestsAreDecided := by
  refine ⟨fun tag s inputs h => ⟨request_badArgument (owner := adcEnableOwner .malformed) h rfl, fun ho => ?_, fun hi => ?_⟩,
    fun tag s h => ⟨fun hp => ?_, fun hp => ⟨fun hc => ?_, fun ho ha => ?_, fun v ho ha => ?_⟩⟩⟩
  · exact request_badArgument (owner := adcEnableOwner (.given inputs)) h
      (by simp only [adcEnableOwner, withArgs, enablesOf_outside ho])
  · have decided {u : State} (hu : ({ s.brought .adcEnable tag with
        conv.enables := .ofFn fun i => inputs.contains i.val } : State).handGyro s.conv = u) :
        exec (.adcEnable tag (.given inputs)) s = .next (answered .adcEnable tag .ok .none .none u) :=
      request_ok h ((adcEnableOwner_legal hi).trans (congrArg ok hu))
    have follows (hg : inputs.contains 0 ≠ s.conv.enables.get 0 ∨ inputs.contains 1 ≠ s.conv.enables.get 1) :=
      State.handGyro_follows (u := s.brought .adcEnable tag) hg
    refine ⟨fun h0 h1 => ?_, fun hs hg => ?_, fun hst hon hr hz hv hg h0 h1 => ?_, fun sub hst hon g0 g1 hn => ?_⟩
    · exact decided (State.handGyro_same (by simp only [vector_get_ofFn]; exact h0.symm)
        (by simp only [vector_get_ofFn]; exact h1.symm))
    · refine decided ((follows hg).stands ?_)
      rcases hs with hs | hs | ⟨hst, hon, hn⟩
      · exact .inl hs
      · exact .inr (.inl hs)
      · refine .inr (.inr ⟨hst, hon, ?_⟩)
        rintro ⟨hr, hz, hg, hv⟩
        rw [Bool.and_eq_true] at hg
        simp_all
    · have hf := follows (by simp only [h0, h1]; simpa using hg)
      rw [h0, h1] at hf
      exact decided (hf.begins hst hon ⟨hr, hz, rfl, hv⟩)
    · have hf := follows (by rw [g0, g1]; simpa using hn)
      have hoff : (inputs.contains 0 && inputs.contains 1) = false := by simpa [imp_iff_not_or] using hn
      rw [hoff] at hf
      exact decided (hf.leaves hst hon fun hc => nomatch hc.2.2.1)
  · exact request_refused (owner := adcCalibrateOwner) h (if_pos hp)
  · exact request_refused (owner := adcCalibrateOwner) h
      ((if_neg hp).trans (if_pos (Converter.calibrationInHand_iff.2 hc)))
  · exact request_ok h (adcCalibrateOwner_idle h hp ho ha)
  · exact request_of_held h (adcCalibrateOwner_converting hp ho ha) rfl

end Sys2Proof.Machine

/-! The requests to the lens drive (O29 to O34). -/

namespace Sys2Proof.Machine

/-! ## The checks of a host move -/

theorem gotoLegal_iff {a : GotoArgs} : gotoLegal a = true ↔ 1 ≤ a.speed ∧ a.speed ≤ 65535 := by simp [gotoLegal]

theorem driveLegal_iff {a : DriveArgs} : driveLegal a = true ↔ a.speed ≠ 0 ∧ 1 ≤ a.duration ∧ a.duration ≤ 1000 := by
  simp [driveLegal]

theorem presetOf_preset (n : Fin 8) : presetOf (n.val + 1) = some n := by simp [presetOf, finOf_self]

theorem presetOf_outside {n : Nat} (h : n = 0 ∨ 8 < n) : presetOf n = none := by
  unfold presetOf
  split
  · rfl
  · exact finOf_eq_none (by omega)

theorem presetOf_inside {n : Nat} (h : 1 ≤ n ∧ n ≤ 8) : ∃ m : Fin 8, presetOf n = some m :=
  ⟨⟨n - 1, by omega⟩, by rw [← presetOf_preset]; congr 1; dsimp only; omega⟩

section
variable {ax : Axis} {operator : Bool} {u : State}

theorem State.moveRefusal_standby (h : u.supply.power = .standby) : u.moveRefusal ax operator = some .standby := if_pos h

theorem State.moveRefusal_fault (hp : u.supply.power ≠ .standby) (hf : (u.axis ax).fault = true)
    (ho : (u.axis ax).owner ≠ .homing) : u.moveRefusal ax operator = some .fault := by
  unfold State.moveRefusal
  rw [if_neg hp]
  exact if_pos ((motionOf_fault _).2 ⟨hf, ho⟩)

/-- A move that passes the checks of the power state and of the fault is checked for homing, then for the operator, then for the
owner (R52). -/
theorem State.moveRefusal_sound (hp : u.supply.power ≠ .standby) (hf : (u.axis ax).fault = false ∨ (u.axis ax).owner = .homing) :
    u.moveRefusal ax operator =
      if (u.axis ax).homing ≠ .homed then some .unhomed
      else if operator then some .operator
      else match (u.axis ax).owner with
        | .homing | .operator | .preset => some .busyOwner
        | .remote | .none => none := by
  have hm : ¬motionOf (u.axis ax) = .fault := by
    rw [motionOf_fault]
    rintro ⟨h1, h2⟩
    simp_all
  unfold State.moveRefusal
  rw [if_neg hp]
  exact if_neg hm

theorem State.moveRefusal_unhomed (hp : u.supply.power ≠ .standby)
    (hf : (u.axis ax).fault = false ∨ (u.axis ax).owner = .homing) (hh : (u.axis ax).homing ≠ .homed) :
    u.moveRefusal ax operator = some .unhomed := (State.moveRefusal_sound hp hf).trans (if_pos hh)

theorem State.moveRefusal_operator (hp : u.supply.power ≠ .standby)
    (hf : (u.axis ax).fault = false ∨ (u.axis ax).owner = .homing) (hh : (u.axis ax).homing = .homed) :
    u.moveRefusal ax true = some .operator := (State.moveRefusal_sound hp hf).trans (if_neg (not_not.2 hh))

theorem State.moveRefusal_owner (hp : u.supply.power ≠ .standby)
    (hf : (u.axis ax).fault = false ∨ (u.axis ax).owner = .homing) (hh : (u.axis ax).homing = .homed) :
    u.moveRefusal ax false = match (u.axis ax).owner with
      | .homing | .operator | .preset => some .busyOwner
      | .remote | .none => none :=
  (State.moveRefusal_sound hp hf).trans ((if_neg (not_not.2 hh)).trans (if_neg Bool.false_ne_true))

theorem State.moveRefusal_none (hp : u.supply.power ≠ .standby) (hf : (u.axis ax).fault = false)
    (hh : (u.axis ax).homing = .homed) (ho : (u.axis ax).owner = .none ∨ (u.axis ax).owner = .remote) :
    u.moveRefusal ax false = none := by
  rw [State.moveRefusal_owner hp (.inl hf) hh]
  rcases ho with ho | ho <;> rw [ho]

variable {accept : State → Answer}

theorem moveRequest_refused {r : Reason} (h : u.moveRefusal ax operator = some r) :
    moveRequest ax operator u accept = refuse r u := by rw [moveRequest, h]

theorem moveRequest_accepted (h : u.moveRefusal ax operator = none) : moveRequest ax operator u accept = accept u := by
  rw [moveRequest, h]

end

/-- A move request of the host: its owner refuses an illegal argument and otherwise checks the axis; FOCUS_GOTO has the check of the
operator (R52, R61). -/
def IsHostMove (i : Instr) (k : Kind) (tag : Byte) (ax : Axis) (legal : Prop) : Prop :=
  ∃ owner : State → Answer, (∀ s, exec i s = request k tag owner s) ∧ ∀ u, (¬legal → owner u = badArgument u) ∧
    (legal → ∃ accept, owner u =
      moveRequest ax (decide (k = .focusGoto ∧ (u.lens.mode = .manual ∨ u.lens.override.isSome = true))) u accept)

theorem isHostMove_zoomGoto (tag : Byte) (a : GotoArgs) :
    IsHostMove (.zoomGoto tag (.given a)) .zoomGoto tag .zoom (1 ≤ a.speed ∧ a.speed ≤ 65535) :=
  ⟨_, fun _ => rfl, fun _ => ⟨fun h => if_neg (mt gotoLegal_iff.1 h), fun h => ⟨_, if_pos (gotoLegal_iff.2 h)⟩⟩⟩

theorem isHostMove_zoomDrive (tag : Byte) (a : DriveArgs) :
    IsHostMove (.zoomDrive tag (.given a)) .zoomDrive tag .zoom (a.speed ≠ 0 ∧ 1 ≤ a.duration ∧ a.duration ≤ 1000) :=
  ⟨_, fun _ => rfl, fun _ => ⟨fun h => if_neg (mt driveLegal_iff.1 h), fun h => ⟨_, if_pos (driveLegal_iff.2 h)⟩⟩⟩

theorem isHostMove_focusGoto (tag : Byte) (a : GotoArgs) :
    IsHostMove (.focusGoto tag (.given a)) .focusGoto tag .focus (1 ≤ a.speed ∧ a.speed ≤ 65535) := by
  refine ⟨_, fun _ => rfl, fun u => ⟨fun h => if_neg (mt gotoLegal_iff.1 h), fun h => ⟨acceptGoto .focus a, ?_⟩⟩⟩
  simp only [true_and]
  exact if_pos (gotoLegal_iff.2 h)

theorem isHostMove_presetRecall (tag : Byte) (n : Nat) :
    IsHostMove (.presetRecall tag (.given n)) .presetRecall tag .zoom (1 ≤ n ∧ n ≤ 8) := by
  refine ⟨_, fun _ => rfl, fun u => ⟨fun h => ?_, fun h => ?_⟩⟩
  · simp only [presetRecallOwner, withArgs, presetOf_outside (n := n) (by omega)]
  · obtain ⟨m, hm⟩ := presetOf_inside h
    exact ⟨_, by simp only [presetRecallOwner, withArgs, hm]; rfl⟩

theorem isHostMove_malformed {i : Instr} {k : Kind} {tag : Byte} (ax : Axis) {legal : Prop} (hl : ¬legal)
    (h : (i = .zoomGoto tag .malformed ∧ k = .zoomGoto) ∨ (i = .zoomDrive tag .malformed ∧ k = .zoomDrive) ∨
      (i = .presetRecall tag .malformed ∧ k = .presetRecall) ∨ (i = .focusGoto tag .malformed ∧ k = .focusGoto)) :
    IsHostMove i k tag ax legal := by
  rcases h with ⟨rfl, rfl⟩ | ⟨rfl, rfl⟩ | ⟨rfl, rfl⟩ | ⟨rfl, rfl⟩ <;>
    exact ⟨_, fun _ => rfl, fun _ => ⟨fun _ => rfl, fun h => absurd h hl⟩⟩

/-- Settles O30: the four moves and the malformed ones have one form, `IsHostMove`. -/
theorem hostMovesAreCheckedInOrder : Obligations.HostMovesAreCheckedInOrder := by
  intro tag s i k ax legal hi h
  have hm : IsHostMove i k tag ax legal := by
    rcases hi with ⟨a, rfl, rfl, rfl, hl⟩ | ⟨a, rfl, rfl, rfl, hl⟩ | ⟨n, rfl, rfl, rfl, hl⟩ | ⟨a, rfl, rfl, rfl, hl⟩ | ⟨hi, hl⟩
    · rw [propext hl]; exact isHostMove_zoomGoto tag a
    · rw [propext hl]; exact isHostMove_zoomDrive tag a
    · rw [propext hl]; exact isHostMove_presetRecall tag n
    · rw [propext hl]; exact isHostMove_focusGoto tag a
    · exact isHostMove_malformed ax hl hi
  obtain ⟨owner, hr, ho⟩ := hm
  obtain ⟨hbad, hgood⟩ := ho (s.brought k tag)
  rw [hr]
  refine ⟨fun hl => request_badArgument h (hbad hl), fun hl => ?_⟩
  obtain ⟨accept, ha⟩ := hgood hl
  have refused {r : Reason} (hm : (s.brought k tag).moveRefusal ax
      (decide (k = .focusGoto ∧ (s.lens.mode = .manual ∨ s.lens.override.isSome = true))) = some r) :
      request k tag owner s = .next (answered k tag .refused r .none (s.brought k tag)) :=
    request_refused h (ha.trans (moveRequest_refused hm))
  refine ⟨fun hp => refused (State.moveRefusal_standby hp), fun hp hf ho => refused (State.moveRefusal_fault hp hf ho),
    fun hp hf hh => refused (State.moveRefusal_unhomed hp hf hh), fun hk hp hf hh hop => refused ?_,
    fun hp hf hh hop hown => refused ?_⟩
  · rw [decide_eq_true (⟨hk, hop⟩ : k = .focusGoto ∧ _)]
    exact State.moveRefusal_operator hp hf hh
  · have hno : ¬(k = .focusGoto ∧ (s.lens.mode = .manual ∨ s.lens.override.isSome = true)) := by
      rintro ⟨hk, hm⟩
      obtain ⟨h1, h2⟩ := hop.resolve_left fun h => h hk
      simp [h1, h2] at hm
    rw [decide_eq_false hno, State.moveRefusal_owner (u := s.brought k tag) hp hf hh, State.brought_axis]
    rcases hown with ho | ho | ho <;> rw [ho]

/-! ## Accepted gotos and drives -/

theorem heldEnds_free {p : Port} {ax : Axis} {o : MotionOutcome} {a : AxisRec} (h : a.owner = .none ∨ a.owner = .homing) :
    heldEnds p ax o a = p := by
  rcases h with h | h <;> rw [heldEnds, h]

theorem heldEnds_hold {p : Port} {ax : Axis} {o : MotionOutcome} {a : AxisRec} {owner : Owner} (h : a.owner = owner)
    (ho : owner = .operator ∨ owner = .preset ∨ owner = .remote) :
    heldEnds p ax o a = p.post (.motionDone ax o owner a.position) := by
  rcases ho with rfl | rfl | rfl <;> rw [heldEnds, h]

theorem heldEnds_host {p : Port} {ax : Axis} {o : MotionOutcome} {a : AxisRec} (h : a.owner = .none ∨ a.owner = .remote) :
    heldEnds p ax o a = if a.owner = .remote then p.post (.motionDone ax o .remote a.position) else p := by
  rcases h with h | h
  · rw [heldEnds_free (.inl h), h, if_neg (by decide)]
  · rw [heldEnds_hold h (.inr (.inr rfl)), h, if_pos rfl]

section
variable {u : State} {target : Int} {speed : Nat}

/-- A goto of the host on the zoom: a REMOTE hold in force ends PREEMPTED, v_cmd stands (R52, R54, R58). -/
theorem State.hostGoto_zoom (ho : u.lens.zoom.owner = .none ∨ u.lens.zoom.owner = .remote) :
    (u.endHold .zoom .preempted).beginGoto .zoom .remote target speed = { u with
      lens.zoom := { u.lens.zoom with
        owner := .remote, move := some .goto, target := some target, gotoSpeed := some speed, driveSpeed := 0, pause := none }
      lens.driveTimer := none
      port := if u.lens.zoom.owner = .remote then u.port.post (.motionDone .zoom .preempted .remote u.lens.zoom.position)
        else u.port } := by
  rw [State.endHold_eq, heldEnds_host (a := u.axis .zoom) ho]
  rfl

/-- A goto of the host on the focus (R52, R61). -/
theorem State.hostGoto_focus (ho : u.lens.focus.owner = .none ∨ u.lens.focus.owner = .remote) :
    (u.endHold .focus .preempted).beginGoto .focus .remote target speed = { u with
      lens.focus := { u.lens.focus with
        owner := .remote, move := some .goto, target := some target, gotoSpeed := some speed, driveSpeed := 0, pause := none }
      port := if u.lens.focus.owner = .remote then u.port.post (.motionDone .focus .preempted .remote u.lens.focus.position)
        else u.port } := by
  rw [State.endHold_eq, heldEnds_host (a := u.axis .focus) ho]
  rfl

end

theorem okClamped_decide {P : Prop} [Decidable P] {b : Bool} {u : State} (h : b = true ↔ P) :
    okClamped b u = ⟨u, if P then .clamped else .ok, .none, .none, false⟩ := by
  rw [okClamped]
  congr 1
  exact if_congr h rfl rfl

theorem gotoClamped_iff {span : Int} {vmax : Nat} {a : GotoArgs} :
    gotoClamped span vmax a = true ↔ clampInt 0 span a.position ≠ a.position ∨ vmax < a.speed := by
  simp [gotoClamped, gotoTarget, gotoSpeedOf]

theorem acceptGoto_zoom {a : GotoArgs} {u : State} (ho : u.lens.zoom.owner = .none ∨ u.lens.zoom.owner = .remote) :
    acceptGoto .zoom a u = ⟨{ u with
      lens.zoom := { u.lens.zoom with
        owner := .remote, move := some .goto, target := some (clampInt 0 u.lens.zoom.span a.position)
        gotoSpeed := some (min a.speed u.lens.zoomVmax), driveSpeed := 0, pause := none }
      lens.driveTimer := none
      port := if u.lens.zoom.owner = .remote then u.port.post (.motionDone .zoom .preempted .remote u.lens.zoom.position)
        else u.port },
      if clampInt 0 u.lens.zoom.span a.position ≠ a.position ∨ u.lens.zoomVmax < a.speed then .clamped else .ok, .none, .none, false⟩ := by
  rw [← State.hostGoto_zoom ho]
  exact okClamped_decide gotoClamped_iff

theorem acceptGoto_focus {a : GotoArgs} {u : State} (ho : u.lens.focus.owner = .none ∨ u.lens.focus.owner = .remote) :
    acceptGoto .focus a u = ⟨{ u with
      lens.focus := { u.lens.focus with
        owner := .remote, move := some .goto, target := some (clampInt 0 u.lens.focus.span a.position)
        gotoSpeed := some (min a.speed 12000), driveSpeed := 0, pause := none }
      port := if u.lens.focus.owner = .remote then u.port.post (.motionDone .focus .preempted .remote u.lens.focus.position)
        else u.port },
      if clampInt 0 u.lens.focus.span a.position ≠ a.position ∨ 12000 < a.speed then .clamped else .ok, .none, .none, false⟩ := by
  rw [← State.hostGoto_focus ho]
  exact okClamped_decide gotoClamped_iff

theorem zoomGotoOwner_legal {a : GotoArgs} {u : State} (h : 1 ≤ a.speed ∧ a.speed ≤ 65535)
    (hm : u.moveRefusal .zoom false = none) : zoomGotoOwner (.given a) u = acceptGoto .zoom a u :=
  (if_pos (gotoLegal_iff.2 h)).trans (moveRequest_accepted hm)

theorem focusGotoOwner_legal {a : GotoArgs} {u : State} (h : 1 ≤ a.speed ∧ a.speed ≤ 65535) (hm : u.lens.mode = .auto)
    (hw : u.lens.override = none) (hr : u.moveRefusal .focus false = none) :
    focusGotoOwner (.given a) u = acceptGoto .focus a u := by
  refine (if_pos (gotoLegal_iff.2 h)).trans (moveRequest_accepted ?_)
  rw [hm, hw]
  exact hr

theorem presetRecallOwner_preset {n : Fin 8} {u : State} (hm : u.moveRefusal .zoom false = none) :
    presetRecallOwner (.given (n.val + 1)) u = ok (u.recall .remote n) := by
  simp only [presetRecallOwner, withArgs, presetOf_preset]
  exact moveRequest_accepted hm

/-- Settles O29. -/
theorem hostGotosClaimTheAxis : Obligations.HostGotosClaimTheAxis := by
  refine fun tag s a => ⟨fun h h1 h2 hp hf hh ho => ?_, fun h h1 h2 hp hf hh ho hm hw => ?_, fun n h hp hf hh ho => ?_⟩
  · have hr : (s.brought .zoomGoto tag).moveRefusal .zoom false = none := State.moveRefusal_none hp hf hh ho
    exact request_of_passed h ((zoomGotoOwner_legal ⟨h1, h2⟩ hr).trans (acceptGoto_zoom (u := s.brought .zoomGoto tag) ho)) rfl
  · have hr : (s.brought .focusGoto tag).moveRefusal .focus false = none := State.moveRefusal_none hp hf hh ho
    exact request_of_passed h ((focusGotoOwner_legal (u := s.brought .focusGoto tag) ⟨h1, h2⟩ hm hw hr).trans (acceptGoto_focus (u := s.brought .focusGoto tag) ho)) rfl
  · have hr : (s.brought .presetRecall tag).moveRefusal .zoom false = none := State.moveRefusal_none hp hf hh ho
    exact request_ok h ((presetRecallOwner_preset hr).trans (congrArg ok (State.hostGoto_zoom ho)))

theorem driveClamped_iff {vmax : Nat} {a : DriveArgs} :
    decide (driveSpeedOf vmax a ≠ a.speed) = true ↔ vmax < a.speed.natAbs := by
  rw [decide_eq_true_iff, driveSpeedOf, clampInt]
  omega

/-- An accepted ZOOM_DRIVE that is no extension: the hold in force ends PREEMPTED (R55). -/
theorem acceptDrive_fresh {a : DriveArgs} {u : State} (h : u.lens.zoom.owner = .remote → u.lens.zoom.move ≠ some .drive) :
    acceptDrive a u = ⟨{ u with
      lens.zoom := { u.lens.zoom with
        owner := .remote, move := some .drive, target := none, gotoSpeed := none, pause := none
        driveSpeed := clampInt (-(u.lens.zoomVmax : Int)) u.lens.zoomVmax a.speed }
      lens.driveTimer := some (u.clock + 1000 * a.duration)
      port := heldEnds u.port .zoom .preempted u.lens.zoom },
      if u.lens.zoomVmax < a.speed.natAbs then .clamped else .ok, .none, .none, false⟩ := by
  simp only [acceptDrive, if_neg (show ¬(u.lens.zoom.owner = .remote ∧ u.lens.zoom.move = some .drive) from fun hn => h hn.1 hn.2)]
  rw [okClamped_decide driveClamped_iff, State.endHold_eq]
  rfl

/-- An accepted ZOOM_DRIVE that extends a running one (R55). -/
theorem acceptDrive_extends {a : DriveArgs} {u : State} (ho : u.lens.zoom.owner = .remote) (hm : u.lens.zoom.move = some .drive) :
    acceptDrive a u = ⟨{ u with
      lens.zoom := { u.lens.zoom with driveSpeed := clampInt (-(u.lens.zoomVmax : Int)) u.lens.zoomVmax a.speed }
      lens.driveTimer := some (u.clock + 1000 * a.duration) },
      if u.lens.zoomVmax < a.speed.natAbs then .clamped else .ok, .none, .none, false⟩ := by
  simp only [acceptDrive, if_pos (show u.lens.zoom.owner = .remote ∧ u.lens.zoom.move = some .drive from ⟨ho, hm⟩)]
  rw [okClamped_decide driveClamped_iff, ← ho, ← hm]
  rfl

theorem zoomDriveOwner_legal {a : DriveArgs} {u : State} (h : a.speed ≠ 0 ∧ 1 ≤ a.duration ∧ a.duration ≤ 1000)
    (hm : u.moveRefusal .zoom false = none) : zoomDriveOwner (.given a) u = acceptDrive a u :=
  (if_pos (driveLegal_iff.2 h)).trans (moveRequest_accepted hm)

/-- Settles O31. -/
theorem zoomDrivesRunAndExtend : Obligations.ZoomDrivesRunAndExtend := by
  intro tag s a h h1 h2 h3 hp hf hh
  have owner (ho : s.lens.zoom.owner = .none ∨ s.lens.zoom.owner = .remote) :
      zoomDriveOwner (.given a) (s.brought .zoomDrive tag) = acceptDrive a (s.brought .zoomDrive tag) :=
    zoomDriveOwner_legal ⟨h1, h2, h3⟩ (State.moveRefusal_none hp hf hh ho)
  refine ⟨fun ho => ?_, fun ho hm => ?_, fun ho hm => ?_⟩
  · have e := acceptDrive_fresh (a := a) (u := s.brought .zoomDrive tag) (by simp [ho])
    rw [heldEnds_free (a := (s.brought .zoomDrive tag).lens.zoom) (.inl ho)] at e
    exact request_of_passed h ((owner (.inl ho)).trans e) rfl
  · have e := acceptDrive_fresh (a := a) (u := s.brought .zoomDrive tag) (by simp [hm])
    rw [heldEnds_hold (a := (s.brought .zoomDrive tag).lens.zoom) ho (.inr (.inr rfl))] at e
    exact request_of_passed h ((owner (.inr ho)).trans e) rfl
  · exact request_of_passed h ((owner (.inr ho)).trans (acceptDrive_extends ho hm)) rfl

/-! ## Homing and stopping -/

theorem AxisRec.phase_isSome {a : AxisRec} : a.phase.isSome = true ↔ ∃ p, a.homing = .homing p := by
  unfold AxisRec.phase
  cases h : a.homing <;> simp

theorem lensHomeOwner_run {ax : Axis} {u : State} (hp : u.supply.power = .run) (hh : ∀ p, (u.axis ax).homing ≠ .homing p) :
    lensHomeOwner (.given ax) u = ok (u.beginHoming ax) := by
  have hph : ¬(u.axis ax).phase.isSome = true := by
    rw [AxisRec.phase_isSome]
    exact fun ⟨p, h⟩ => hh p h
  simp only [lensHomeOwner, withArgs, hp, reduceCtorEq, if_false, if_neg hph]

theorem exec_lensHome_run {tag : Byte} {ax : Axis} {s u : State} (h : Passed .lensHome tag s) (hp : s.supply.power = .run)
    (hh : ∀ p, (s.axis ax).homing ≠ .homing p) (hu : (s.brought .lensHome tag).beginHoming ax = u) :
    exec (.lensHome tag (.given ax)) s = .next (answered .lensHome tag .ok .none .none u) :=
  request_ok h ((lensHomeOwner_run (u := s.brought .lensHome tag) hp hh).trans (congrArg ok hu))

/-- The notice of a hold's end, by the owner (R52). -/
theorem heldEnds_match (p : Port) (ax : Axis) (o : MotionOutcome) (a : AxisRec) : heldEnds p ax o a =
    match a.owner with
    | .none | .homing => p
    | owner => p.post (.motionDone ax o owner a.position) := by
  unfold heldEnds
  cases a.owner <;> rfl

/-- Settles O32: a run begins as `HomingBegun` says, and a stabiliser in FAULT takes the copy alone. -/
theorem lensHomeBeginsARun : Obligations.LensHomeBeginsARun := by
  intro tag s ax h
  refine ⟨request_badArgument (owner := lensHomeOwner .malformed) h rfl, fun hp => ?_, fun hp => ?_, fun hp p hh => ?_,
    fun hp hh => ?_, fun hp hh r hr => ?_, fun hp hh => ?_⟩
  · exact request_refused (owner := lensHomeOwner (.given ax)) h (if_pos hp)
  · exact request_refused (owner := lensHomeOwner (.given ax)) h (by simp [lensHomeOwner, withArgs, hp])
  · exact request_refused (owner := lensHomeOwner (.given ax)) h
      (by simp [lensHomeOwner, withArgs, hp, AxisRec.phase_isSome, hh])
  · obtain ⟨v, hv, hfocus, -⟩ := State.beginHoming_begun .focus (s.brought .lensHome tag)
    refine exec_lensHome_run h hp hh ((hfocus rfl).trans (hv.trans ?_))
    rw [heldEnds_match]
    rfl
  · obtain ⟨v, hv, -, hzoom⟩ := State.beginHoming_begun .zoom (s.brought .lensHome tag)
    have hs := (hzoom rfl).stands (.inl ⟨r, by rw [hv]; exact hr⟩)
    refine exec_lensHome_run h hp hh (hs.trans ?_)
    rw [hv, heldEnds_match]
    rfl
  · obtain ⟨v, hv, -, hzoom⟩ := State.beginHoming_begun .zoom (s.brought .lensHome tag)
    rw [hv] at hzoom
    exact ⟨_, hzoom rfl, exec_lensHome_run h hp hh rfl⟩

theorem State.lensStop_free {ax : Axis} {u : State} (h : (u.axis ax).owner = .none) : u.lensStop ax = u := by
  rw [State.lensStop, h]

theorem State.lensStop_homing {ax : Axis} {u : State} (h : (u.axis ax).owner = .homing) :
    u.lensStop ax = u.abandonHoming ax .stopped := by
  rw [State.lensStop, h]

theorem State.lensStop_hold {ax : Axis} {u : State} {o : Owner} (h : (u.axis ax).owner = o)
    (ho : o = .operator ∨ o = .preset ∨ o = .remote) : u.lensStop ax = { u with
      lens := (u.lens.setAxis { unheld (u.axis ax) with vcmd := 0 } ax).stopDrive ax
      port := u.port.post (.motionDone ax .stopped o (u.axis ax).position) } := by
  have he : u.lensStop ax =
      (u.endHold ax .stopped).setAxis ax { (u.endHold ax .stopped).axis ax with vcmd := 0 } := by
    rcases ho with rfl | rfl | rfl <;> rw [State.lensStop, h]
  rw [he, State.endHold_eq, heldEnds_hold h ho]
  cases ax <;> rfl

theorem exec_lensStop {tag : Byte} {ax : Axis} {s u : State} (h : Passed .lensStop tag s) (hp : s.supply.power ≠ .standby)
    (hu : ((s.brought .lensStop tag).lensStop ax).blockRocker ax = u) :
    exec (.lensStop tag (.given ax)) s = .next (answered .lensStop tag .ok .none .none u) :=
  request_ok (owner := lensStopOwner (.given ax)) h ((if_neg hp).trans (congrArg ok hu))

/-- The block of the rocker and the stabiliser's update are of different components. -/
theorem State.stabUpdate_blockRocker (c : Conditions) (ax : Axis) (u : State) :
    (u.stabUpdate c).blockRocker ax = (u.blockRocker ax).stabUpdate c := by
  rw [State.stabUpdate_eq, State.stabUpdate_eq]
  cases ax <;> rfl

/-- LENS_STOP of a zoom's homing run: the run is abandoned, the rocker blocked, and the stabiliser follows (R50, R56, R67). -/
theorem State.lensStop_homing_zoom {u : State} (h : u.lens.zoom.owner = .homing) :
    StabFollows u.stab.setting { u.stab.cond with zoomHomed := false } { u with
      lens.zoom := { unheld u.lens.zoom with
        vcmd := 0, homing := .abandoned .stopped, homingTimer := none
        span := u.lens.zoom.spanBefore.getD u.lens.zoom.span, spanBefore := none }
      lens.blocked := u.lens.blocked || decide (u.lens.demand ≠ 0)
      port := u.port.post (.homeDone .zoom (.abandoned .stopped)) } ((u.lensStop .zoom).blockRocker .zoom) := by
  rw [State.lensStop_homing (ax := .zoom) h]
  unfold State.abandonHoming State.stabZoom
  rw [State.stabUpdate_blockRocker]
  exact State.stabUpdate_follows_setting _ _

/-- Settles O33. -/
theorem lensStopEndsTheHold : Obligations.LensStopEndsTheHold := by
  intro tag s h
  refine ⟨request_badArgument (owner := lensStopOwner .malformed) h rfl,
    fun hp ax => request_refused (owner := lensStopOwner (.given ax)) h (if_pos hp), fun hp => ⟨fun ho => ?_, fun ho => ?_,
    fun o ho hk => ?_, fun o ho hk => ?_, fun ho => ?_, fun ho => ?_⟩⟩
  · exact exec_lensStop h hp (congrArg (State.blockRocker .focus) (State.lensStop_free (ax := .focus) ho))
  · exact exec_lensStop h hp (congrArg (State.blockRocker .zoom) (State.lensStop_free (ax := .zoom) ho))
  · exact exec_lensStop h hp (congrArg (State.blockRocker .focus) (State.lensStop_hold (ax := .focus) (u := s.brought .lensStop tag) ho hk))
  · exact exec_lensStop h hp (congrArg (State.blockRocker .zoom) (State.lensStop_hold (ax := .zoom) (u := s.brought .lensStop tag) ho hk))
  · exact exec_lensStop h hp (congrArg (State.blockRocker .focus) (State.lensStop_homing (ax := .focus) ho))
  · exact ⟨_, State.lensStop_homing_zoom (u := s.brought .lensStop tag) ho, exec_lensStop h hp rfl⟩

/-! ## The settings of the lens drive -/

theorem gapLegal_iff {g : Nat} : gapLegal g = true ↔ g ∈ [1, 4, 16] := by simp [gapLegal]

theorem lensConfigOwner_legal {vmax speed zg fg : Nat} {u : State} (hz : zg ∈ [1, 4, 16]) (hf : fg ∈ [1, 4, 16])
    (hp : u.supply.power ≠ .standby) : lensConfigOwner (.given ⟨vmax, speed, zg, fg⟩) u = ⟨{ u with
      lens.zoomVmax := min (max vmax 2000) 8000, lens.presetSpeed := min (max speed 100) (min (max vmax 2000) 8000)
      lens.zoomGap := zg, lens.focusGap := fg },
      if vmax < 2000 ∨ 8000 < vmax ∨ speed < 100 ∨ min (max vmax 2000) 8000 < speed then .clamped else .ok,
      .none, .none, false⟩ := by
  have hg : ¬(gapLegal zg = false ∨ gapLegal fg = false) := by simp [gapLegal_iff.2 hz, gapLegal_iff.2 hf]
  have hv : clampNat 2000 8000 vmax = min (max vmax 2000) 8000 := by unfold clampNat; split_ifs <;> omega
  have hs : clampNat 100 (min (max vmax 2000) 8000) speed = min (max speed 100) (min (max vmax 2000) 8000) := by
    unfold clampNat; split_ifs <;> omega
  simp only [lensConfigOwner, withArgs, if_neg hg, if_neg hp, hv, hs]
  refine okClamped_decide ?_
  rw [decide_eq_true_iff]
  omega

theorem presetSetOwner_preset {n : Fin 8} {p : Option Int} {u : State} : presetSetOwner (.given ⟨n.val + 1, p⟩) u =
    if u.supply.power = .standby then refuse .standby u
    else if u.lens.zoom.homing ≠ .homed ∨ u.lens.zoom.owner = .homing then refuse .unhomed u
    else okClamped (decide (clampInt 0 u.lens.zoom.span (p.getD u.lens.zoom.position) ≠ p.getD u.lens.zoom.position))
      { u with lens.presets := u.lens.presets.set n (clampInt 0 u.lens.zoom.span (p.getD u.lens.zoom.position)) } := by
  simp only [presetSetOwner, withArgs, presetOf_preset]

theorem exec_focusModeSet {tag : Byte} {m : FocusMode} {s u : State} (h : Passed .focusModeSet tag s)
    (hp : s.supply.power ≠ .standby) (hu : (s.brought .focusModeSet tag).setFocusMode m = u) :
    exec (.focusModeSet tag (.given m)) s = .next (answered .focusModeSet tag .ok .none .none u) :=
  request_ok (owner := focusModeSetOwner (.given m)) h ((if_neg hp).trans (congrArg ok hu))

/-- A change of the focus mode that ends no hold (R59). -/
theorem State.setFocusMode_free {m : FocusMode} {u : State} (hm : m ≠ u.lens.mode)
    (ho : m = .auto ∨ u.lens.focus.owner ≠ .remote) :
    u.setFocusMode m = { u with lens.mode := m, lens.override := none } := by
  have hn : ¬(m = .manual ∧ u.lens.focus.owner = .remote) := by
    rintro ⟨rfl, h⟩
    rcases ho with ho | ho
    · exact nomatch ho
    · exact ho h
  simp only [State.setFocusMode, if_neg hm, if_neg hn]

/-- A change to MANUAL ends a REMOTE hold PREEMPTED (R59). -/
theorem State.setFocusMode_remote {u : State} (hm : u.lens.mode = .auto) (ho : u.lens.focus.owner = .remote) :
    u.setFocusMode .manual = { u with
      lens.mode := .manual, lens.override := none
      lens.focus := { u.lens.focus with
        owner := .none, move := none, target := none, gotoSpeed := none, driveSpeed := 0, pause := none }
      port := u.port.post (.motionDone .focus .preempted .remote u.lens.focus.position) } := by
  simp only [State.setFocusMode, hm, reduceCtorEq, if_false, ho, and_self, if_true]
  rw [State.endHold_eq]
  simp only [State.axis, Lens.axis, heldEnds_hold ho (.inr (.inr rfl))]
  rfl

/-- Settles O34. -/
theorem lensSettingsAreClamped : Obligations.LensSettingsAreClamped := by
  refine fun tag s => ⟨fun h => request_badArgument (owner := lensConfigOwner .malformed) h rfl,
    fun h => ⟨request_badArgument (owner := presetSetOwner .malformed) h rfl, fun n p hn => ?_⟩,
    fun h => request_badArgument (owner := focusModeSetOwner .malformed) h rfl,
    fun h vmax speed zg fg => ⟨fun hg => ?_, fun hz hf => ⟨fun hp => ?_, fun hp => ?_⟩⟩,
    fun h n p => ⟨fun hp => ?_, fun hp hh => ?_, fun hp hh ho => ?_⟩,
    fun h m => ⟨fun hp => request_refused (owner := focusModeSetOwner (.given m)) h (if_pos hp), fun hp hm => ?_,
      fun hp hm ho => ?_, fun hp hm hmode ho => ?_⟩⟩
  · exact request_badArgument (owner := presetSetOwner (.given ⟨n, p⟩)) h
      (by simp only [presetSetOwner, withArgs, presetOf_outside hn])
  · refine request_badArgument (owner := lensConfigOwner (.given ⟨vmax, speed, zg, fg⟩)) h (if_pos ?_)
    simpa only [← gapLegal_iff, Bool.not_eq_true] using hg
  · refine request_refused (owner := lensConfigOwner (.given ⟨vmax, speed, zg, fg⟩)) h ((if_neg ?_).trans (if_pos hp))
    simp [gapLegal_iff.2 hz, gapLegal_iff.2 hf]
  · exact request_of_passed h (lensConfigOwner_legal (u := s.brought .lensConfig tag) hz hf hp) rfl
  · exact request_refused h (presetSetOwner_preset.trans (if_pos hp))
  · exact request_refused h (presetSetOwner_preset.trans ((if_neg hp).trans (if_pos hh)))
  · have hn : ¬(s.lens.zoom.homing ≠ .homed ∨ s.lens.zoom.owner = .homing) := by tauto
    exact request_of_passed h
      (presetSetOwner_preset.trans ((if_neg hp).trans ((if_neg hn).trans (okClamped_decide decide_eq_true_iff)))) rfl
  · exact exec_focusModeSet h hp (if_pos hm)
  · exact exec_focusModeSet h hp (State.setFocusMode_free hm ho)
  · subst hm
    exact exec_focusModeSet h hp (State.setFocusMode_remote hmode ho)

end Sys2Proof.Machine

/-! The requests to the stabiliser (O36). -/

namespace Sys2Proof.Machine

section
variable {s t : State} {c : Conditions}

/-- An ACTIVE stabiliser whose conditions hold keeps its sub-state (R67). -/
theorem StabFollows.stays {on : Bool} (h : StabFollows on c s t) {sub : SubState} (hs : s.stab.state = .active sub)
    (hon : on = true) (hc : c.allHold) : t = { s with stab.setting := on, stab.cond := c } := by
  obtain ⟨v, rfl, -, hrest⟩ := h
  exact ((hrest (by simp [hs])).1 hon hc).1 sub hs

/-- A stabiliser out of FAULT that is not in the state that follows enters it with STAB_STATE (R67, R70). -/
theorem StabFollows.enters {on : Bool} (h : StabFollows on c s t) {st : StabState} {b : Option Blocking}
    (hst : (on = true ∧ ¬c.allHold ∧ st = .standby ∧ b = some (blockedBy c)) ∨ (on = false ∧ st = .off ∧ b = none))
    (hs : s.stab.state = .off ∨ s.stab.state = .standby) (hne : s.stab.state ≠ st) : t = { s with
      stab.setting := on, stab.cond := c, stab.state := st, port := s.port.post (.stabState st b) } := by
  obtain ⟨v, rfl, -, hrest⟩ := h
  have hf : ∀ r, s.stab.state ≠ .fault r := fun r h => by rcases hs with hs | hs <;> simp [hs] at h
  exact ((hrest hf).2 st b hst).2.2 hne fun sub h => by rcases hs with hs | hs <;> simp [hs] at h

/-- An OFF stabiliser whose conditions hold becomes ACTIVE at the setting ON (R66, R67). -/
theorem StabFollows.activates (h : StabFollows true c s t) (hs : s.stab.state = .off) (hc : c.allHold) : t = { s with
      stab.setting := true, stab.cond := c, stab.state := .active .normal
      port := s.port.post (.stabState (.active .normal) none) } := by
  obtain ⟨v, rfl, -, hrest⟩ := h
  exact ((hrest (by simp [hs])).1 rfl hc).2 (by simp [hs])

/-- An ACTIVE stabiliser goes to OFF with its coils centred at the setting OFF (R66, R68). -/
theorem StabFollows.stops (h : StabFollows false c s t) {sub : SubState} (hs : s.stab.state = .active sub) : t = { s with
      stab := leftActive { s.stab with setting := false, cond := c } .off, port := s.port.post (.stabState .off none) } := by
  obtain ⟨v, rfl, -, hrest⟩ := h
  exact ((hrest (by simp [hs])).2 .off none (.inr ⟨rfl, rfl, rfl⟩)).2.1 sub hs

end

theorem StabSettingTaken.follows {on : Bool} {s t : State} (h : StabSettingTaken on s t) {st : StabState}
    (hs : s.stab.state = st) (hst : st = .off ∨ st = .standby ∨ ∃ sub, st = .active sub) : StabFollows on s.stab.cond s t := by
  refine h.1 fun r hr => ?_
  rw [hr] at hs
  rcases hst with rfl | rfl | ⟨sub, rfl⟩ <;> cases hs

/-- The setting in force, in the state that follows from it, changes nothing (R66). -/
theorem StabSettingTaken.unchanged {on : Bool} {s t : State} (h : StabSettingTaken on s t) (hset : on = s.stab.setting)
    (hall : on = true → s.stab.cond.allHold → ∃ sub, s.stab.state = .active sub)
    (hnot : on = true → ¬s.stab.cond.allHold → s.stab.state = .standby)
    (hoff : on = false → s.stab.state = .off ∨ ∃ r, s.stab.state = .fault r) : t = s := by
  cases on with
  | true =>
    by_cases hc : s.stab.cond.allHold
    · obtain ⟨sub, hs⟩ := hall rfl hc
      exact ((h.follows hs (.inr (.inr ⟨sub, rfl⟩))).stays hs rfl hc).trans (by rw [hset])
    · have hs := hnot rfl hc
      exact ((h.follows hs (.inr (.inl rfl))).stands (.inr (.inr ⟨hs, rfl, hc⟩))).trans (by rw [hset])
  | false =>
    rcases hoff rfl with hs | ⟨r, hs⟩
    · exact ((h.follows hs (.inl rfl)).stands (.inr (.inl ⟨hs, rfl⟩))).trans (by rw [hset])
    · exact ((h.2 r hs).1 rfl).trans (by rw [hset])

/-- The blocking set where the zoom is not homed (R67). -/
theorem blockedBy_zoom {c : Conditions} (h : c.zoomHomed = false) :
    ¬c.allHold ∧ blockedBy c = ⟨!c.run, true, !c.gyroEnabled, !c.gyroValid⟩ :=
  ⟨fun hc => Bool.false_ne_true (h.symm.trans hc.2.1), by rw [blockedBy, h]; rfl⟩

theorem exec_stabModeSet {tag : Byte} {on : Bool} {s u : State} (h : Passed .stabModeSet tag s)
    (hu : StabSettingTaken on (s.brought .stabModeSet tag) ((s.brought .stabModeSet tag).stabSetting on) →
      (s.brought .stabModeSet tag).stabSetting on = u) :
    exec (.stabModeSet tag (.given on)) s = .next (answered .stabModeSet tag .ok .none .none u) :=
  request_ok (owner := stabModeSetOwner (.given on)) h (congrArg ok (hu (State.stabSetting_taken on _)))

theorem gainsOf_vector {entries : List Nat} {g : Vector Nat 17} (hg : g.toList = entries) (hx : ∀ x ∈ entries, x ≤ 65535) :
    gainsOf entries = some g := by
  subst hg
  unfold gainsOf
  rw [dif_pos (Vector.length_toList), if_pos (List.all_eq_true.2 fun x h => decide_eq_true (hx x h))]
  rfl

theorem gainsOf_illegal {entries : List Nat} (h : entries.length ≠ 17 ∨ ∃ x ∈ entries, 65535 < x) : gainsOf entries = none := by
  unfold gainsOf
  split
  · next hl =>
    obtain ⟨x, hx, hlt⟩ := h.resolve_left (not_not.2 hl)
    exact if_neg fun ha => by
      have hle := of_decide_eq_true (List.all_eq_true.1 ha x hx)
      omega
  · rfl

/-- Settles O36: each clause is one of the branches of `StabSettingTaken`. -/
theorem stabSettingsChangeTheState : Obligations.StabSettingsChangeTheState := by
  refine fun tag s => ⟨fun h => ⟨request_badArgument (owner := stabModeSetOwner .malformed) h rfl,
    fun on => ⟨_, State.stabSetting_taken on _, exec_stabModeSet h fun _ => rfl⟩,
    fun on hset hall hnot hoff => exec_stabModeSet h fun ht => ht.unchanged hset hall hnot hoff,
    fun sub hs => exec_stabModeSet h fun ht => (ht.follows hs (.inr (.inr ⟨sub, rfl⟩))).stops hs,
    fun hs => exec_stabModeSet h fun ht => (ht.follows hs (.inr (.inl rfl))).enters (.inr ⟨rfl, rfl, rfl⟩) (.inr hs) (by simp [hs]),
    fun r hs => exec_stabModeSet h fun ht => (ht.2 r hs).1 rfl,
    fun hs hset => exec_stabModeSet h fun ht => ht.unchanged hset.symm (fun h => nomatch h) (fun h => nomatch h) fun _ => .inl hs,
    fun hs hr hz hg hv => exec_stabModeSet h fun ht => (ht.follows hs (.inl rfl)).activates hs ⟨hr, hz, hg, hv⟩,
    fun hs hz => exec_stabModeSet h fun ht => ?_, fun r hs hz => exec_stabModeSet h fun ht => ?_⟩,
    fun h => request_badArgument (owner := stabGainTableSetOwner .malformed) h rfl,
    fun h entries => ⟨fun g hg hx => ?_, fun hn => ?_⟩⟩
  · obtain ⟨hc, hb⟩ := blockedBy_zoom hz
    rw [← hb]
    exact (ht.follows hs (.inl rfl)).enters (.inl ⟨rfl, hc, rfl, rfl⟩) (.inl hs) (by simp [hs])
  · obtain ⟨hc, hb⟩ := blockedBy_zoom hz
    rw [← hb]
    exact (ht.2 r hs).2.2 rfl hc
  · exact request_ok (owner := stabGainTableSetOwner (.given entries)) h
      (by simp only [stabGainTableSetOwner, withArgs, gainsOf_vector hg hx])
  · exact request_badArgument (owner := stabGainTableSetOwner (.given entries)) h
      (by simp only [stabGainTableSetOwner, withArgs, gainsOf_illegal hn])

end Sys2Proof.Machine

/-! The requests to the record supervisor and the clip log (O38 to O42, O44). -/

namespace Sys2Proof.Machine

/-! ## Settings -/

theorem clipNumberLegal_of {n : Nat} (h1 : 1 ≤ n) (h2 : n ≤ 9999) : ¬clipNumberLegal n = false := by
  simp [clipNumberLegal, h1, h2]

theorem clipNumberLegal_outside {n : Nat} (h : n = 0 ∨ 9999 < n) : clipNumberLegal n = false := by
  simp [clipNumberLegal]
  omega

theorem recConfigOwner_standby {m : RecMode} {c : Slot} {b : Bitrate} {u : State} (h : u.recorder.state = .standby) :
    recConfigOwner (.given ⟨m, c, b⟩) u =
      ok { u with recorder.mode := m, recorder.current := c, recorder.bitrate := b }.testWarnings :=
  if_neg (not_not.2 h)

/-- Settles O38. -/
theorem recordSettingsWaitForStandby : Obligations.RecordSettingsWaitForStandby := by
  refine fun tag s => ⟨fun h => request_badArgument (owner := recConfigOwner .malformed) h rfl,
    fun h => request_badArgument (owner := clipNumberSetOwner .malformed) h rfl,
    fun h => request_badArgument (owner := tallySetOwner .malformed) h rfl,
    fun h m c b => ⟨fun hn => request_refused (owner := recConfigOwner (.given ⟨m, c, b⟩)) h (if_pos hn), fun hs => ?_⟩,
    fun h n => ⟨fun ho => request_badArgument (owner := clipNumberSetOwner (.given n)) h (if_pos (clipNumberLegal_outside ho)),
      fun h1 h2 hn => request_refused (owner := clipNumberSetOwner (.given n)) h
        ((if_neg (clipNumberLegal_of h1 h2)).trans (if_pos hn)),
      fun h1 h2 hs => request_ok (owner := clipNumberSetOwner (.given n)) h
        ((if_neg (clipNumberLegal_of h1 h2)).trans (if_neg (not_not.2 hs)))⟩,
    fun h on => request_ok (owner := tallySetOwner (.given on)) h rfl,
    fun h => ⟨fun hn => request_refused (owner := clipLogClearOwner) h (if_pos hn),
      fun hs => request_ok (owner := clipLogClearOwner) h (if_neg (not_not.2 hs))⟩⟩
  obtain ⟨w, hw, hwarned⟩ := State.testWarnings_warned { s.brought .recConfig tag with
    recorder.mode := m, recorder.current := c, recorder.bitrate := b }
  exact ⟨w, request_ok h ((recConfigOwner_standby (u := s.brought .recConfig tag) hs).trans (congrArg ok hw)), hwarned⟩

/-! ## Starting and stopping a clip -/

theorem recStartOwner_refused {u : State} {r : Reason} (h : u.recorder.startRefusal = some r) : recStartOwner u = refuse r u := by
  rw [recStartOwner, h]

/-- The checks of a start in record state STANDBY, in RUN (R113). -/
theorem Recorder.startRefusal_run {r : Recorder} (hs : r.state = .standby) (hp : r.power = .run) : r.startRefusal =
    if r.supplyState = .low ∨ r.supplyState = .cutoff then some .supply
    else if r.formStartSet.isEmpty then some .noMedia else none := by
  simp [Recorder.startRefusal, hs, hp]

theorem Recorder.startRefusal_supplied {r : Recorder} (hs : r.state = .standby) (hp : r.power = .run)
    (hv : r.supplyState = .normal ∨ r.supplyState = .warn) :
    r.startRefusal = if r.formStartSet.isEmpty then some .noMedia else none := by
  refine (Recorder.startRefusal_run hs hp).trans (if_neg ?_)
  rcases hv with hv | hv <;> simp [hv]

/-- Settles O39. -/
theorem recStartReservesAClip : Obligations.RecStartReservesAClip := by
  intro tag s h
  have refused {r : Reason} (hr : s.recorder.startRefusal = some r) :
      exec (.recStart tag) s = .next (answered .recStart tag .refused r .none (s.brought .recStart tag)) :=
    request_refused h (recStartOwner_refused (u := s.brought .recStart tag) hr)
  refine ⟨fun hs => refused ?_, fun hs => refused ?_, fun hs => ⟨fun hp => refused ?_, fun hp => refused ?_,
    fun hp => ⟨fun hv => refused ?_, fun hv => ⟨fun hn => refused ?_, fun set cur hset => ?_⟩⟩⟩⟩
  · rw [Recorder.startRefusal, hs]
  · rcases hs with hs | hs <;> rw [Recorder.startRefusal, hs]
  · simp [Recorder.startRefusal, hs, hp]
  · simp [Recorder.startRefusal, hs, hp]
  · exact (Recorder.startRefusal_run hs hp).trans (if_pos hv)
  · exact (Recorder.startRefusal_supplied hs hp hv).trans (if_pos (Recorder.formStartSet_none _ hn))
  · obtain ⟨hform, -, hne⟩ := Recorder.formStartSet_formed _ _ _ hset
    have hr : s.recorder.startRefusal = none :=
      (Recorder.startRefusal_supplied hs hp hv).trans (if_neg (by rw [hform, hne]; exact Bool.false_ne_true))
    have ho : recStartOwner (s.brought .recStart tag) =
        okWith (.started s.recorder.nextClip set) (startAccepted set cur (s.brought .recStart tag)) := by
      simp only [recStartOwner, State.brought_recorder, hr, hform,
        State.acceptStart_accepted set cur (s.brought .recStart tag) hset]
    exact request_of_passed h ho rfl

theorem Recorder.lowTested_mediaLow (r : Recorder) (low : Bool) (now : Nat) : (r.lowTested low now).mediaLow = low := by
  unfold Recorder.lowTested
  split
  · next h => exact h.symm
  · rfl

/-- The slot warnings do not depend on what the test of the time left writes (R110, R124). -/
theorem SlotWarned.lowTested {r : Recorder} {low : Bool} {now : Nat} {before after : Warnings} :
    SlotWarned (r.lowTested low now) before after ↔ SlotWarned r before after := by
  unfold Recorder.lowTested
  split <;> exact Iff.rfl

theorem lowWarned_clear (low : Bool) (w : Warned) : lowWarned false low w = if low then .placed else w := by
  cases low <;> rfl

/-- The slot warnings of a clip that begins (R110, R124): they are tested by the slots as the clip leaves them. -/
theorem State.beginClip_warned (n : Nat) (s : State) (hm : s.recorder.mediaLow = false) :
    SlotWarned (s.beginClip n).recorder { s.ovl.warnings with
      mediaLow := if (s.beginClip n).timeLeft ≤ 60 * rateOf s.recorder.bitrate then .placed else s.ovl.warnings.mediaLow }
      (s.beginClip n).ovl.warnings := by
  obtain ⟨v, hv, hvm, hvr, hvw⟩ : ∃ v : State, s.beginClip n = v.testSlots ∧ v.recorder.mediaLow = false ∧
      v.recorder.state = .recording ∧ v.ovl.warnings = s.ovl.warnings := by
    refine ⟨_, rfl, ?_, ?_, ?_⟩ <;> rw [State.beep_eq_beeped]
    · exact hm
    · rfl
    · rfl
  have hlow := congrArg Recorder.mediaLow (State.beginClip_eq s n hm).2.1
  generalize (s.beginClip n).timeLeft = left at hlow ⊢
  obtain ⟨w, -, hrec⟩ := State.testSlots_tested v
  obtain ⟨-, low, -, -, ht, hw⟩ := hrec hvr
  rw [hv, ht] at hlow ⊢
  rw [hvm, hvw, lowWarned_clear, (Recorder.lowTested_mediaLow _ _ _).symm.trans hlow] at hw
  refine SlotWarned.lowTested.2 ?_
  simpa only [decide_eq_true_eq] using hw

/-- REC_CONFIRM of a legal number, by the record state (R115). -/
theorem recConfirmOwner_legal {n : Nat} {u : State} (h1 : 1 ≤ n) (h2 : n ≤ 9999) : recConfirmOwner (.given n) u =
    match u.recorder.state with
    | .starting =>
      if u.recorder.clip = some n then okWith (.confirmed u.tc.stamp u.recorder.startSet) (u.beginClip n) else badArgument u
    | .standby => tooLate u
    | .recording | .stopping => if u.recorder.clip = some n then tooLate u else badArgument u :=
  if_neg (clipNumberLegal_of h1 h2)

/-- Settles O40: the beginning of the clip by `State.beginClip_eq`. -/
theorem recConfirmBeginsTheClip : Obligations.RecConfirmBeginsTheClip := by
  refine fun tag s n h => ⟨request_badArgument (owner := recConfirmOwner .malformed) h rfl,
    fun ho => request_badArgument (owner := recConfirmOwner (.given n)) h (if_pos (clipNumberLegal_outside ho)),
    fun h1 h2 => ?_⟩
  have owner := recConfirmOwner_legal (u := s.brought .recConfirm tag) h1 h2
  rw [State.brought_recorder] at owner
  refine ⟨fun hs => ?_, fun hs hc => ?_, fun hs hc => ?_, fun hs hc hm => ?_⟩
  · rw [hs] at owner
    exact request_of_passed h owner rfl
  · refine request_badArgument h (owner.trans ?_)
    cases hst : s.recorder.state
    case standby => exact absurd hst hs
    all_goals exact if_neg hc
  · refine request_of_passed (a := tooLate (s.brought .recConfirm tag)) h (owner.trans ?_) rfl
    rcases hs with hs | hs <;> rw [hs] <;> exact if_pos hc
  · rw [hs] at owner
    obtain ⟨hu, hr, hl⟩ := State.beginClip_eq (s.brought .recConfirm tag) n hm
    exact ⟨_, _, request_of_passed h (owner.trans (if_pos hc)) rfl, hu, State.timeLeft_is _, hr, hl, State.beginClip_warned n _ hm⟩

/-- Settles O41: a stop by `stopMade`, a cancelled start by `startFailed`. -/
theorem recStopEndsTheRecording : Obligations.RecStopEndsTheRecording := by
  refine fun tag s h => ⟨fun hs => request_refused (owner := recStopOwner) h ?_, fun hs => request_refused (owner := recStopOwner) h ?_,
    fun n hs hc => ?_, fun n hs hc => ?_⟩
  · simp only [recStopOwner, State.brought_recorder, hs]
  · simp only [recStopOwner, State.brought_recorder, hs]
  · have ho : recStopOwner (s.brought .recStop tag) =
        okWith (.stopped s.tc.stamp) (stopMade n .operator (s.brought .recStop tag)) := by
      simp only [recStopOwner, State.brought_recorder, hs, State.stopRecording_made n .operator (s.brought .recStop tag) hc]
      rfl
    exact request_of_passed h ho rfl
  · have ho : recStopOwner (s.brought .recStop tag) = ok (startFailed n .cancelled (s.brought .recStop tag)) := by
      simp only [recStopOwner, State.brought_recorder, hs, State.failStart_failed n .cancelled (s.brought .recStop tag) hc]
    exact request_ok h ho

/-! ## Closing a clip -/

theorem clipClosedOwner_legal {n : Nat} {oa ob : CloseOutcome} {u : State} (h1 : 1 ≤ n) (h2 : n ≤ 9999) :
    clipClosedOwner (.given ⟨n, oa, ob⟩) u =
      if u.recorder.state = .stopping ∧ u.recorder.clip = some n then
        ok (((u.closeSlot .a oa).closeSlot .b ob).endClip .closed)
      else match u.log.records with
        | r :: _ => if r.number = n ∧ r.state ≠ .opened then tooLate u else badArgument u
        | [] => badArgument u :=
  if_neg (clipNumberLegal_of h1 h2)

/-- The state of a slot after a close with an outcome (R120). -/
def closedSlot (x : SlotRec) (o : CloseOutcome) : SlotRec :=
  if x.state = .active then
    { x with
      state := if o = .writeError then .error .writeError
        else if x.remaining = 0 then .full else if x.protect then .writeProtected else .ready }
  else x

/-- The close of both slots and of the record: the slot warnings apart, what CLIP_CLOSED leaves (R120, R136). -/
def State.clipClosed (oa ob : CloseOutcome) (s : State) : State :=
  { s with
    recorder := { s.recorder with
      state := .standby, closeTimer := none, clip := none, endLabel := none
      slotA := closedSlot s.recorder.slotA oa, slotB := closedSlot s.recorder.slotB ob }
    log := ((s.closeSlot .a oa).closeSlot .b ob).log.close .closed s.recorder.endLabel
    tc.recState := .standby, supply.recState := .standby }

theorem State.endClip_closed (oa ob : CloseOutcome) (s : State) :
    ((s.closeSlot .a oa).closeSlot .b ob).endClip .closed = (s.clipClosed oa ob).testWarnings := by
  rw [State.endClip, State.testSlots_of_not_recording _ (by simp [State.setRecState])]
  rw [State.clipClosed]
  congr 1
  rw [State.closeSlot_eq, State.closeSlot_eq]
  rfl

/-- The outcome that the host reports for a slot. -/
def reportedOutcome (oa ob : CloseOutcome) : Slot → CloseOutcome
  | .a => oa
  | .b => ob

/-- A segment after the close of a slot (R120, R135). -/
def Segment.closeAt (s : State) (sl : Slot) (o : CloseOutcome) (g : Segment) : Segment :=
  if g.slot = sl ∧ g.outcome = .inProgress ∧ (s.recorder.slot sl).state = .active then
    { g with outcome := if o = .writeError then .writeError else .ok }
  else g

/-- The close of a slot ends its segment of the OPEN record (R120, R135). -/
theorem State.closeSlot_log (s : State) (sl : Slot) (o : CloseOutcome) : (s.closeSlot sl o).log =
    s.log.mapOpen fun r => { r with segments := r.segments.map (Segment.closeAt s sl o) } := by
  rw [State.closeSlot_eq]
  by_cases h : (s.recorder.slot sl).state = .active
  · have hseg : Segment.closeAt s sl o = fun g => if g.slot = sl ∧ g.outcome = .inProgress then
        { g with outcome := if o = .writeError then .writeError else .ok } else g := by
      funext g
      exact if_congr (by simp [h]) rfl rfl
    simp only [h, if_true, hseg]
    rfl
  · have hid : Segment.closeAt s sl o = id := by funext g; simp [Segment.closeAt, h]
    simp [h, hid, ClipLog.mapOpen]

/-- The two closes at a segment: the one of its own slot acts. -/
theorem Segment.closeAt_both (s : State) (oa ob : CloseOutcome) (g : Segment) :
    Segment.closeAt (s.closeSlot .a oa) .b ob (Segment.closeAt s .a oa g) =
      if g.outcome = .inProgress ∧ (s.recorder.slot g.slot).state = .active then
        { g with outcome := if reportedOutcome oa ob g.slot = .writeError then .writeError else .ok }
      else g := by
  have hb : (s.closeSlot .a oa).recorder.slot .b = s.recorder.slot .b := by rw [State.closeSlot_eq]; rfl
  obtain ⟨sl, label, o⟩ := g
  cases sl with
  | a =>
    rw [Segment.closeAt, if_neg]
    · exact if_congr (by simp) rfl rfl
    · unfold Segment.closeAt
      split <;> simp
  | b =>
    have ha : Segment.closeAt s .a oa ⟨.b, label, o⟩ = ⟨.b, label, o⟩ := if_neg (by simp)
    rw [ha, Segment.closeAt, hb]
    exact if_congr (by simp) rfl rfl

/-- The segments of the OPEN record at a close: those of the ACTIVE slots take their outcomes (R120, R135). -/
theorem State.clipClosed_log (oa ob : CloseOutcome) (s : State) : (s.clipClosed oa ob).log =
    { s.log with records := s.log.records.map fun r =>
        if r.state = .opened then
          { r with
            state := .closed, endLabel := s.recorder.endLabel
            segments := r.segments.map fun g =>
              if g.outcome = .inProgress ∧ (s.recorder.slot g.slot).state = .active then
                { g with outcome := if reportedOutcome oa ob g.slot = .writeError then .writeError else .ok }
              else g }
        else r } := by
  simp only [State.clipClosed, ClipLog.close, State.closeSlot_log]
  rw [ClipLog.mapOpen_mapOpen _ _ _ (by intro r; rfl), ClipLog.mapOpen_mapOpen _ _ _ (by intro r; rfl)]
  simp only [List.map_map, Function.comp_def, Segment.closeAt_both]
  rfl

/-- Settles O42. -/
theorem clipClosedClosesTheClip : Obligations.ClipClosedClosesTheClip := by
  refine fun tag s n oa ob h => ⟨request_badArgument (owner := clipClosedOwner .malformed) h rfl,
    fun ho => request_badArgument (owner := clipClosedOwner (.given ⟨n, oa, ob⟩)) h (if_pos (clipNumberLegal_outside ho)),
    fun h1 h2 hn => ⟨fun r rest hr hnum hst => ?_, fun hr => ?_⟩, fun h1 h2 hs hc => ?_⟩
  · have owner := (clipClosedOwner_legal (oa := oa) (ob := ob) (u := s.brought .clipClosed tag) h1 h2).trans (if_neg (by tauto))
    rw [State.brought_log, hr] at owner
    exact request_of_passed h (owner.trans (if_pos ⟨hnum, hst⟩)) rfl
  · have owner := (clipClosedOwner_legal (oa := oa) (ob := ob) (u := s.brought .clipClosed tag) h1 h2).trans (if_neg (by tauto))
    rw [State.brought_log] at owner
    rcases hr with hr | ⟨r, rest, hr, hno⟩
    · rw [hr] at owner
      exact request_badArgument h owner
    · rw [hr] at owner
      exact request_badArgument h (owner.trans (if_neg (by tauto)))
  · obtain ⟨w, hw, hwarned⟩ := State.testWarnings_warned ((s.brought .clipClosed tag).clipClosed oa ob)
    have owner := (clipClosedOwner_legal (oa := oa) (ob := ob) (u := s.brought .clipClosed tag) h1 h2).trans (if_pos ⟨hs, hc⟩)
    rw [State.endClip_closed, hw] at owner
    refine ⟨_, request_ok h owner, rfl, rfl, hwarned, fun sl => ?_, (State.clipClosed_log oa ob _).trans ?_⟩
    · cases sl <;> rfl
    · congr! 5 with r g

/-! ## Marks -/

theorem State.markDecision_elsewhere {u : State} (h : u.recorder.state ≠ .recording) : u.markDecision = .error .notRecording := by
  unfold State.markDecision
  cases hs : u.recorder.state <;> simp_all

theorem State.markDecision_recording {u : State} {r : ClipRec} (h : u.recorder.state = .recording) (ho : u.log.openRec = some r) :
    u.markDecision = if r.marks.length < 8 then .ok r else .error .marksFull := by
  rw [State.markDecision, h, ho]

/-- Settles O44. -/
theorem clipMarksAreAppended : Obligations.ClipMarksAreAppended := by
  refine ⟨fun tag s a h ha => request_badArgument (owner := clipMarkOwner a) h (withNone_of_filled ha _), fun tag s r h he =>
    ⟨fun hs => ?_, fun hs ho => ⟨fun hl => ?_, fun hl => ?_⟩⟩⟩
  · refine request_refused (owner := clipMarkOwner (.given ())) h ((withNone_of_empty h he _).trans ?_)
    rw [State.markDecision_elsewhere (u := s.brought .clipMark tag) hs]
  · refine request_refused (owner := clipMarkOwner (.given ())) h ((withNone_of_empty h he _).trans ?_)
    rw [State.markDecision_recording (u := s.brought .clipMark tag) hs ho, if_neg (by omega)]
  · have ho : clipMarkOwner (.given ()) (s.brought .clipMark tag) =
        okWith (.marked r.number (r.marks.length + 1) s.tc.stamp) (s.brought .clipMark tag).appendMark := by
      refine (withNone_of_empty h he _).trans ?_
      rw [State.markDecision_recording (u := s.brought .clipMark tag) hs ho, if_pos hl]
      rfl
    exact request_of_passed h ho rfl

end Sys2Proof.Machine

/-! The reports of the host on cards (O43). -/

namespace Sys2Proof.Machine

theorem capacityLegal_of {kB : Nat} (h : kB ≤ 4294967295) : ¬capacityLegal kB = false := by simp [capacityLegal, h]

theorem capacityLegal_large {kB : Nat} (h : 4294967295 < kB) : capacityLegal kB = false := by
  simp [capacityLegal]
  omega

/-- A slot report outside RECORDING writes the slot warnings alone beside the slot (R110). -/
theorem SlotsTested.elsewhere {s t : State} (h : SlotsTested s t) (hr : s.recorder.state ≠ .recording) :
    ∃ w, t = { s with ovl.warnings := w } ∧ SlotWarned s.recorder s.ovl.warnings w := by
  obtain ⟨w, hw, -⟩ := h
  exact ⟨w, hw hr⟩

/-- In a recorder that holds no start, a slot that stops being usable takes nothing along (R116). -/
theorem State.reformStart_elsewhere {reason : FailReason} {u : State} (h : u.recorder.state ≠ .starting) :
    u.reformStart reason = u := (State.reformStart_reformed reason u).1 h

/-! ## CARD_REPORT -/

theorem SlotRec.reported_eq (x : SlotRec) (v : Verdict) (kB : Nat) : x.reported v kB = { x with
    mountTimer := none, remaining := if v = .ok then kB else 0
    state := if v = .bad then .error .bad else if x.protect then .writeProtected else .ready } := by
  cases v <;> rfl

theorem cardReportOwner_legal {sl : Slot} {v : Verdict} {kB : Nat} {u : State} (h : kB ≤ 4294967295) :
    cardReportOwner (.given ⟨sl, v, kB⟩) u =
      if (u.recorder.slot sl).state = .mounting then ok (u.setSlot sl ((u.recorder.slot sl).reported v kB)).testSlots
      else if (u.recorder.slot sl).lapsed then tooLate u else refuse .noCard u :=
  if_neg (capacityLegal_of h)

theorem cardReportOwner_mounting {sl : Slot} {v : Verdict} {kB : Nat} {u : State} (h : kB ≤ 4294967295)
    (hs : (u.recorder.slot sl).state = .mounting) : cardReportOwner (.given ⟨sl, v, kB⟩) u =
      ok (u.setSlot sl { u.recorder.slot sl with
        mountTimer := none, remaining := if v = .ok then kB else 0
        state := if v = .bad then .error .bad
          else if (u.recorder.slot sl).protect then .writeProtected else .ready }).testSlots := by
  rw [cardReportOwner_legal h, if_pos hs, SlotRec.reported_eq]

/-! ## MEDIA_UPDATE -/

theorem mediaUpdateOwner_legal {sl : Slot} {kB : Nat} {u : State} (h : kB ≤ 4294967295) :
    mediaUpdateOwner (.given ⟨sl, kB⟩) u = match (u.recorder.slot sl).state with
      | .ready => ok ((u.setSlot sl { u.recorder.slot sl with remaining := kB }).reformStart .noMedia).testSlots
      | .active => ok (u.setSlot sl { u.recorder.slot sl with remaining := kB }).testSlots
      | .full => ok (u.setSlot sl (if 0 < kB then ({ u.recorder.slot sl with remaining := kB } : SlotRec).readied
          else { u.recorder.slot sl with remaining := kB })).testSlots
      | .empty => refuse .noCard u
      | .mounting => refuse .inProgress u
      | .writeProtected => refuse .locked u
      | .error _ => refuse .fault u :=
  if_neg (capacityLegal_of h)

/-- A slot after a MEDIA_UPDATE: a FULL one with room becomes READY or PROTECTED (R108). -/
def updatedSlot (x : SlotRec) (kB : Nat) : SlotRec :=
  { x with
    remaining := kB
    state := if x.state = .full ∧ 0 < kB then (if x.protect then .writeProtected else .ready) else x.state }

theorem updatedSlot_other {x : SlotRec} {kB : Nat} (h : x.state ≠ .full) : updatedSlot x kB = { x with remaining := kB } := by
  rw [updatedSlot, if_neg fun hc => h hc.1]

theorem updatedSlot_full {x : SlotRec} {kB : Nat} (h : x.state = .full) : updatedSlot x kB =
    if 0 < kB then ({ x with remaining := kB } : SlotRec).readied else { x with remaining := kB } := by
  rw [updatedSlot]
  split_ifs <;> simp_all [SlotRec.readied]

theorem mediaUpdateOwner_ready {sl : Slot} {kB : Nat} {u : State} (h : kB ≤ 4294967295)
    (hs : (u.recorder.slot sl).state = .ready) : mediaUpdateOwner (.given ⟨sl, kB⟩) u =
      ok ((u.setSlot sl { u.recorder.slot sl with remaining := kB }).reformStart .noMedia).testSlots := by
  rw [mediaUpdateOwner_legal h, hs]

theorem mediaUpdateOwner_updated {sl : Slot} {kB : Nat} {u : State} (h : kB ≤ 4294967295)
    (hs : (u.recorder.slot sl).state = .active ∨ (u.recorder.slot sl).state = .full) :
    mediaUpdateOwner (.given ⟨sl, kB⟩) u = ok (u.setSlot sl (updatedSlot (u.recorder.slot sl) kB)).testSlots := by
  rw [mediaUpdateOwner_legal h]
  rcases hs with hs | hs
  · simp only [updatedSlot_other (show (u.recorder.slot sl).state ≠ .full by simp [hs]), hs]
  · simp only [updatedSlot_full hs, hs]

/-- In record state STANDBY a READY slot is updated as a FULL one is (R108). -/
theorem mediaUpdateOwner_standby {sl : Slot} {kB : Nat} {u : State} (h : kB ≤ 4294967295)
    (hs : (u.recorder.slot sl).state = .ready ∨ (u.recorder.slot sl).state = .full) (hr : u.recorder.state = .standby) :
    mediaUpdateOwner (.given ⟨sl, kB⟩) u = ok (u.setSlot sl (updatedSlot (u.recorder.slot sl) kB)).testSlots := by
  rcases hs with hs | hs
  · rw [mediaUpdateOwner_ready h hs, State.reformStart_elsewhere, updatedSlot_other (by simp [hs])]
    rw [State.setSlot, Recorder.setSlot_state, hr]
    decide
  · exact mediaUpdateOwner_updated h (.inr hs)

/-! ## MEDIA_FAULT -/

theorem mediaFaultOwner_given {sl : Slot} {u : State} : mediaFaultOwner (.given sl) u = match (u.recorder.slot sl).state with
    | .ready => ok ((u.setSlot sl { u.recorder.slot sl with state := .error .mediaFault }).reformStart .noMedia).testSlots
    | .active => ok ((u.setSlot sl { u.recorder.slot sl with state := .error .mediaFault }).loseActive sl .writeError
        .mediaFault).testSlots
    | .empty => refuse .noCard u
    | .mounting => refuse .inProgress u
    | .error _ => refuse .fault u
    | .full | .writeProtected => refuse .none u := rfl

theorem mediaFaultOwner_ready {sl : Slot} {u : State} (hs : (u.recorder.slot sl).state = .ready) : mediaFaultOwner (.given sl) u =
    ok ((u.setSlot sl { u.recorder.slot sl with state := .error .mediaFault }).reformStart .noMedia).testSlots := by
  rw [mediaFaultOwner_given, hs]

theorem mediaFaultOwner_active {sl : Slot} {u : State} (hs : (u.recorder.slot sl).state = .active) :
    mediaFaultOwner (.given sl) u =
      ok ((u.setSlot sl { u.recorder.slot sl with state := .error .mediaFault }).loseActive sl .writeError .mediaFault).testSlots := by
  rw [mediaFaultOwner_given, hs]

/-- A fault of the only ACTIVE slot stops the recording (R109, R125). -/
theorem State.loseActive_stops {sl : Slot} {n : Nat} {o : SegOutcome} {reason : EndReason} {x : SlotRec} {u : State}
    (hx : x.state ≠ .active) (ho : (u.recorder.slot (otherSlot sl)).state ≠ .active) (hr : u.recorder.state = .recording)
    (hc : u.recorder.clip = some n) : (u.setSlot sl x).loseActive sl o reason =
      stopMade n reason { u with
        recorder := u.recorder.setSlot x sl
        log := { u.log with records := u.log.records.map fun c => if c.state = .opened then
          { c with segments := c.segments.map fun g =>
              if g.slot = sl ∧ g.outcome = .inProgress then { g with outcome := o } else g } else c } } := by
  obtain ⟨v, rfl, -, hstop⟩ := State.loseActive_lost sl o reason (u.setSlot sl x)
  cases sl
  · exact hstop n hr hc hx ho
  · exact hstop n hr hc ho hx

/-- Settles O43: each accepted report sets the slot and tests the slots. -/
theorem cardReportsSetTheSlot : Obligations.CardReportsSetTheSlot := by
  refine ⟨fun tag s => ⟨fun h => request_badArgument (owner := cardReportOwner .malformed) h rfl,
    fun h => request_badArgument (owner := mediaUpdateOwner .malformed) h rfl,
    fun h => request_badArgument (owner := mediaFaultOwner .malformed) h rfl,
    fun sl kB hk => ⟨fun h v => request_badArgument (owner := cardReportOwner (.given ⟨sl, v, kB⟩)) h
        (if_pos (capacityLegal_large hk)),
      fun h => request_badArgument (owner := mediaUpdateOwner (.given ⟨sl, kB⟩)) h (if_pos (capacityLegal_large hk))⟩⟩,
    fun tag s sl kB hk => ⟨fun h v => ⟨fun hs hl => ?_, fun hs hl => ?_, fun hs hr => ?_, fun hs => ?_⟩, fun h => ?_, fun h => ?_⟩⟩
  · exact request_of_passed h ((cardReportOwner_legal (u := s.brought .cardReport tag) hk).trans
      ((if_neg hs).trans (if_pos hl))) rfl
  · refine request_refused h ((cardReportOwner_legal (u := s.brought .cardReport tag) hk).trans
      ((if_neg hs).trans (if_neg ?_)))
    rw [State.brought_recorder, hl]
    exact Bool.false_ne_true
  · have ho := cardReportOwner_mounting (v := v) (u := s.brought .cardReport tag) hk hs
    obtain ⟨w, ht, hw⟩ := (State.testSlots_tested _).elsewhere (s := (s.brought .cardReport tag).setSlot sl { s.recorder.slot sl with
        mountTimer := none, remaining := if v = .ok then kB else 0
        state := if v = .bad then .error .bad else if (s.recorder.slot sl).protect then .writeProtected else .ready })
      (by rw [State.setSlot, Recorder.setSlot_state]; exact hr)
    exact ⟨_, w, rfl, request_ok h (ho.trans (congrArg ok ht)), hw⟩
  · exact ⟨_, State.testSlots_tested _, request_ok h (cardReportOwner_mounting (u := s.brought .cardReport tag) hk hs)⟩
  · have owner := mediaUpdateOwner_legal (sl := sl) (u := s.brought .mediaUpdate tag) hk
    refine ⟨fun hs => ?_, fun hs => ?_, fun hs => ?_, fun r hs => ?_, fun hs hr => ?_, fun hs => ?_, fun hs => ?_⟩
    · exact request_refused h (owner.trans (by rw [State.brought_recorder, hs]))
    · exact request_refused h (owner.trans (by rw [State.brought_recorder, hs]))
    · exact request_refused h (owner.trans (by rw [State.brought_recorder, hs]))
    · exact request_refused h (owner.trans (by rw [State.brought_recorder, hs]))
    · obtain ⟨w, ht, hw⟩ := (State.testSlots_tested _).elsewhere
        (s := (s.brought .mediaUpdate tag).setSlot sl (updatedSlot (s.recorder.slot sl) kB))
        (by rw [State.setSlot, Recorder.setSlot_state]; exact hr ▸ (by decide))
      exact ⟨_, w, rfl, request_ok h ((mediaUpdateOwner_standby (u := s.brought .mediaUpdate tag) hk hs hr).trans (congrArg ok ht)), hw⟩
    · exact ⟨_, _, State.reformStart_reformed _ _, State.testSlots_tested _,
        request_ok h (mediaUpdateOwner_ready (u := s.brought .mediaUpdate tag) hk hs)⟩
    · exact ⟨_, State.testSlots_tested _, request_ok h (mediaUpdateOwner_updated (u := s.brought .mediaUpdate tag) hk hs)⟩
  · have owner := mediaFaultOwner_given (sl := sl) (u := s.brought .mediaFault tag)
    refine ⟨fun hs => ?_, fun hs => ?_, fun hs => ?_, fun e hs => ?_, fun hs hr => ?_, fun n hs ho hr hc => ?_, fun hs => ?_,
      fun hs => ?_⟩
    · exact request_refused h (owner.trans (by rw [State.brought_recorder, hs]))
    · exact request_refused h (owner.trans (by rw [State.brought_recorder, hs]))
    · refine request_refused h (owner.trans ?_)
      rcases hs with hs | hs <;> rw [State.brought_recorder, hs]
    · exact request_refused h (owner.trans (by rw [State.brought_recorder, hs]))
    · have ho := mediaFaultOwner_ready (u := s.brought .mediaFault tag) hs
      have hstate : (((s.brought .mediaFault tag).setSlot sl
          { s.recorder.slot sl with state := .error .mediaFault }).recorder).state = .standby :=
        (Recorder.setSlot_state _ _ _).trans hr
      rw [State.reformStart_elsewhere (by rw [State.brought_recorder, hstate]; decide)] at ho
      obtain ⟨w, ht, hw⟩ := (State.testSlots_tested _).elsewhere
        (s := (s.brought .mediaFault tag).setSlot sl { s.recorder.slot sl with state := .error .mediaFault })
        (by rw [hstate]; decide)
      exact ⟨_, w, rfl, request_ok h (ho.trans (congrArg ok ht)), hw⟩
    · have hown := mediaFaultOwner_active (u := s.brought .mediaFault tag) hs
      rw [State.loseActive_stops (u := s.brought .mediaFault tag) (by simp) ho hr hc] at hown
      obtain ⟨w, ht, hw⟩ := (State.testSlots_tested (stopMade n .mediaFault _)).elsewhere (by simp [stopMade])
      exact ⟨_, w, rfl, request_ok h (hown.trans (congrArg ok ht)), hw⟩
    · exact ⟨_, _, State.reformStart_reformed _ _, State.testSlots_tested _,
        request_ok h (mediaFaultOwner_ready (u := s.brought .mediaFault tag) hs)⟩
    · exact ⟨_, _, State.loseActive_lost _ _ _ _, State.testSlots_tested _,
        request_ok h (mediaFaultOwner_active (u := s.brought .mediaFault tag) hs)⟩

end Sys2Proof.Machine

/-! The requests to the audio level unit (O45). -/

namespace Sys2Proof.Machine

/-! ## AUDIO_CONFIG -/

theorem audioLegal_of {a : AudioConfigArgs} (h1 : a.ch1.agcMax ≤ 63) (h2 : a.ch2.agcMax ≤ 63) : ¬audioLegal a = false := by
  simp [audioLegal, h1, h2]

theorem audioLegal_large {a : AudioConfigArgs} (h : 63 < a.ch1.agcMax ∨ 63 < a.ch2.agcMax) : audioLegal a = false := by
  simp [audioLegal]
  omega

/-- The gains of a part that keeps R146 and R155, in the form in which the laws of AUDIO_CONFIG need them. -/
theorem GainInv.applied {s : State} (h : GainInv s) :
    s.audio.ch1.applied = appliedGain s.audio.ch1 ∧ s.audio.ch2.applied = appliedGain s.audio.ch2 ∧
      (s.audio.link = true → s.audio.ch2.setGain = s.audio.ch1.setGain) := by
  obtain ⟨h1, h2, hl⟩ := h
  exact ⟨((ChannelRec.wf_iff _).1 h1).1, ((ChannelRec.wf_iff _).1 h2).1, fun hk => (hl hk).2.1⟩

/-- With the link OFF before and after, each channel takes its own configuration (R157). -/
theorem Audio.configure_apart {t : Audio} {a : AudioConfigArgs} {now : Nat} (h1 : t.ch1.applied = appliedGain t.ch1)
    (h2 : t.ch2.applied = appliedGain t.ch2) (hk : t.link = false) (hl : a.link = false) :
    t.configure a now = { t with
      ch1 := configuredChannel t.ch1 a.ch1 now, ch2 := configuredChannel t.ch2 a.ch2 now } := by
  simp [Audio.configure, Audio.follow, ChannelRec.configure2, Audio.setLink, hl, hk, ChannelRec.configure_eq _ _ _ h1,
    ChannelRec.configure_eq _ _ _ h2]

theorem exec_audioConfig {tag : Byte} {a : AudioConfigArgs} {s : State} {t : Audio} (h : Passed .audioConfig tag s)
    (h1 : a.ch1.agcMax ≤ 63) (h2 : a.ch2.agcMax ≤ 63) (hp : s.audio.power ≠ .standby) (ht : s.audio.configure a s.clock = t) :
    exec (.audioConfig tag (.given a)) s =
      .next (answered .audioConfig tag .ok .none .none { s.brought .audioConfig tag with audio := t }) := by
  refine request_ok (owner := audioConfigOwner (.given a)) h ((if_neg (audioLegal_of h1 h2)).trans ((if_neg hp).trans ?_))
  rw [← ht]
  rfl

/-! ## AUDIO_GAIN_SET -/

theorem audioGainSetOwner_channel {ch : Channel} {n gain : Nat} {u : State} (h : channelOf n = some ch) (hg : gain ≤ 255) :
    audioGainSetOwner (.given ⟨n, gain⟩) u =
      if u.audio.power = .standby then refuse .standby u
      else if ch = .ch2 ∧ u.audio.link = true then refuse .locked u
      else if (u.audio.channel ch).source ≠ .host then refuse .operator u
      else okClamped (63 < gain) (u.setChannel ch ((u.audio.channel ch).setGainTo (min 63 gain))) := by
  simp only [audioGainSetOwner, withArgs, h]
  exact if_neg (by omega)

theorem channelOf_ch2 {ch : Channel} {n : Nat} (h : channelOf n = some ch) : ch = .ch2 ↔ n = 2 := by
  unfold channelOf at h
  split at h <;> cases h <;> simp

theorem channelOf_ch1 {ch : Channel} {n : Nat} (h : channelOf n = some ch) : ch = .ch1 ↔ n = 1 := by
  unfold channelOf at h
  split at h <;> cases h <;> simp

theorem channelOf_other {n : Nat} (h1 : n ≠ 1) (h2 : n ≠ 2) : channelOf n = none := by
  unfold channelOf
  split
  · exact absurd rfl h1
  · exact absurd rfl h2
  · rfl

/-- An accepted gain (R158): clamped to 63, with the channel that follows. -/
theorem audioGainSetOwner_host {ch : Channel} {n gain : Nat} {u : State} (h : channelOf n = some ch) (hg : gain ≤ 255)
    (hp : u.audio.power ≠ .standby) (hl : ¬(ch = .ch2 ∧ u.audio.link = true)) (hs : (u.audio.channel ch).source = .host) :
    audioGainSetOwner (.given ⟨n, gain⟩) u = ⟨u.setChannel ch ((u.audio.channel ch).setGainTo (min 63 gain)),
      if 63 < gain then .clamped else .ok, .none, .none, false⟩ := by
  rw [audioGainSetOwner_channel h hg, if_neg hp, if_neg hl, if_neg (not_not.2 hs)]
  exact okClamped_decide decide_eq_true_iff

/-- Settles O45. -/
theorem audioRequestsAreDecided : Obligations.AudioRequestsAreDecided := by
  refine fun tag s => ⟨fun h => request_badArgument (owner := audioConfigOwner .malformed) h rfl,
    fun h => request_badArgument (owner := audioGainSetOwner .malformed) h rfl,
    fun a h => ⟨fun hl => request_badArgument (owner := audioConfigOwner (.given a)) h (if_pos (audioLegal_large hl)),
      fun h1 h2 => ⟨fun hp => ?_, fun hp hg hk hl => ?_, fun hp hg hl => ?_, fun hp hg hk hl => ?_⟩⟩,
    fun ch n gain h hc hg => ⟨fun hp => ?_, fun hp hn hk => ?_, fun hp hn hs => ?_, fun hp hs hk => ?_, fun hp hn hs hk => ?_⟩,
    fun n gain h h1 h2 => ?_⟩
  · exact request_refused (owner := audioConfigOwner (.given a)) h ((if_neg (audioLegal_of h1 h2)).trans (if_pos hp))
  · obtain ⟨ha1, ha2, -⟩ := hg.applied
    exact exec_audioConfig h h1 h2 hp (Audio.configure_apart ha1 ha2 hk hl)
  · obtain ⟨ha1, ha2, -⟩ := hg.applied
    refine ⟨_, exec_audioConfig h h1 h2 hp (Audio.configure_on _ _ _ ha1 ha2 hl), rfl, rfl, rfl, rfl, rfl, rfl, rfl, rfl, rfl, rfl,
      rfl, rfl, rfl, rfl, rfl, rfl, fun hk hm hn => ?_, fun hn => ?_⟩
    · exact ⟨if_pos ⟨hk, hm, hn⟩, if_pos ⟨hk, hm, hn⟩⟩
    · have hno : ¬(s.audio.link = false ∧ s.audio.ch2.limiter = true ∧ a.ch2.limiter = false) := by
        rintro ⟨hk, hm, hl⟩
        simp [hk, hm, hl] at hn
      exact ⟨if_neg hno, if_neg hno⟩
  · obtain ⟨ha1, -, hset⟩ := hg.applied
    refine ⟨_, exec_audioConfig h h1 h2 hp (Audio.configure_off _ _ _ ha1 hk hl), rfl, (hset hk).symm, rfl, rfl, rfl, rfl, rfl,
      fun hc => if_pos hc, fun hauto hlim => if_neg ?_, rfl, rfl, rfl, rfl, rfl, rfl, rfl, rfl, rfl, rfl⟩
    rintro (⟨hc2, hc1⟩ | ⟨hn, hm⟩)
    · exact hc1 (hauto hc2)
    · exact Bool.false_ne_true ((hlim hn).symm.trans hm)
  · exact request_refused h ((audioGainSetOwner_channel hc hg).trans (if_pos hp))
  · exact request_refused h ((audioGainSetOwner_channel hc hg).trans
      ((if_neg hp).trans (if_pos ⟨(channelOf_ch2 hc).2 hn, hk⟩)))
  · have hno : ¬(ch = .ch2 ∧ s.audio.link = true) := by
      rintro ⟨hch, hk⟩
      have := (channelOf_ch2 hc).1 hch
      simp [this, hk] at hn
    exact request_refused h ((audioGainSetOwner_channel hc hg).trans ((if_neg hp).trans ((if_neg hno).trans (if_pos hs))))
  · have ho := audioGainSetOwner_host (u := s.brought .audioGainSet tag) hc hg hp (by simp [hk]) hs
    have hf (t : Audio) (ht : t.link = false) : t.follow = t := if_neg (by rw [ht]; exact Bool.false_ne_true)
    rw [State.setChannel, hf _ (by cases ch <;> exact hk)] at ho
    exact request_of_passed h ho rfl
  · obtain rfl := (channelOf_ch1 hc).2 hn
    have ho := audioGainSetOwner_host (u := s.brought .audioGainSet tag) hc hg hp (by simp) hs
    have hf (c : ChannelRec) (hc : c.source = .host) : (s.audio.setChannel c .ch1).follow = { s.audio with
        ch1 := c
        ch2 := { s.audio.ch2 with source := .host, setGain := c.setGain, reduction := c.reduction }.apply } := by
      rw [← hc]
      exact if_pos hk
    rw [State.setChannel, State.brought_audio, hf ((s.audio.channel .ch1).setGainTo (min 63 gain)) hs] at ho
    exact request_of_passed h ho rfl
  · exact request_badArgument (owner := audioGainSetOwner (.given ⟨n, gain⟩)) h
      (by simp only [audioGainSetOwner, withArgs, channelOf_other h1 h2])

end Sys2Proof.Machine

/-! The requests to the overlay generator (O46 to O48). -/

namespace Sys2Proof.Machine

/-! ## The host layer -/

theorem inRun_iff {column n : Nat} {c : Fin 40} : inRun column n c = true ↔ column ≤ c.val ∧ c.val < column + n := by simp [inRun]

theorem Overlay.write_becomes (o : Overlay) (page : Fin 4) (row : Fin 16) (column : Fin 40) (style : Style) (text : List Byte) :
    LayerBecomes o (o.write page row column style text) page fun r c =>
      if r = row ∧ column ≤ c then
        (match text[c.val - column.val]? with | some code => ⟨code, style⟩ | none => o.hostCell page r c)
      else o.hostCell page r c := by
  refine (Overlay.setCells_becomes o page _).congr fun r c => ?_
  by_cases hr : r = row ∧ column ≤ c
  · obtain ⟨hr, hc⟩ := hr
    have hc' : column.val ≤ c.val := hc
    rw [if_pos (⟨hr, hc⟩ : r = row ∧ column ≤ c)]
    by_cases hl : c.val - column.val < text.length
    · rw [if_pos ⟨hr, inRun_iff.2 ⟨hc', by omega⟩⟩, List.getElem?_eq_getElem hl, List.getD_eq_getElem _ _ hl]
    · rw [if_neg fun h => hl (by have := (inRun_iff.1 h.2).2; omega), List.getElem?_eq_none (by omega)]
  · rw [if_neg hr, if_neg fun h => hr ⟨h.1, (inRun_iff.1 h.2).1⟩]

theorem Overlay.fill_becomes (o : Overlay) (page : Fin 4) (row : Fin 16) (column : Fin 40) (count : Nat) (cell : Cell) :
    LayerBecomes o (o.fill page row column count cell) page fun r c =>
      if r = row ∧ column ≤ c ∧ c.val < column.val + count then cell else o.hostCell page r c :=
  (Overlay.setCells_becomes o page _).congr fun _ _ => if_congr (and_congr_right fun _ => inRun_iff) rfl rfl

/-- The cells of a scrolled region (R171): blank where the source lies outside it, or where no line is given. -/
theorem scrolledCell_up {a : ScrollArgs} {old : Fin 16 → Fin 40 → Cell} {r : Fin 16} {c : Fin 40} (hl : 0 < a.lines)
    (hd : a.direction = .up) (ht : a.top ≤ r.val) :
    (∀ r' : Fin 16, r'.val = r.val + a.lines → r'.val ≤ a.bottom → scrolledCell a old r c = old r' c) ∧
      (a.bottom < r.val + a.lines → scrolledCell a old r c = ⟨0x20, a.blank⟩) := by
  unfold scrolledCell
  simp only [hd]
  refine ⟨fun r' hr hb => ?_, fun hb => ?_⟩
  · rw [if_neg (by omega), if_pos (by omega), ← hr, finOf_self]
  · split_ifs
    · rfl
    · omega
    · rfl

theorem scrolledCell_down {a : ScrollArgs} {old : Fin 16 → Fin 40 → Cell} {r : Fin 16} {c : Fin 40} (hl : 0 < a.lines)
    (hd : a.direction = .down) (hb : r.val ≤ a.bottom) :
    (∀ r' : Fin 16, r'.val + a.lines = r.val → a.top ≤ r'.val → scrolledCell a old r c = old r' c) ∧
      (r.val < a.top + a.lines → scrolledCell a old r c = ⟨0x20, a.blank⟩) := by
  unfold scrolledCell
  simp only [hd]
  refine ⟨fun r' hr ht => ?_, fun ht => ?_⟩
  · rw [if_neg (by omega), if_pos (by omega), finOf_eq_some r' (by omega)]
  · split_ifs
    · rfl
    · omega
    · rfl

theorem ovlWriteOwner_inside {page : Fin 4} {row : Fin 16} {column : Fin 40} {style : Style} {text : List Byte} {u : State}
    (h : text.length ≤ 40) : ovlWriteOwner (.given ⟨page, row, column, style, text⟩) u =
      ⟨{ u with ovl := u.ovl.write page row column style text },
        if 40 < column.val + text.length then .clamped else .ok, .none, .none, false⟩ := by
  simp only [ovlWriteOwner, withArgs, finOf_self, if_neg (not_lt.2 h)]
  exact okClamped_decide decide_eq_true_iff

theorem ovlFillOwner_inside {page : Fin 4} {row : Fin 16} {column : Fin 40} {code : Byte} {style : Style} {count : Nat} {u : State}
    (h : count ≤ 255) : ovlFillOwner (.given ⟨page, row, column, code, style, count⟩) u =
      ⟨{ u with ovl := u.ovl.fill page row column count ⟨code, style⟩ },
        if 40 < column.val + count then .clamped else .ok, .none, .none, false⟩ := by
  simp only [ovlFillOwner, withArgs, finOf_self, if_neg (not_lt.2 h)]
  exact okClamped_decide decide_eq_true_iff

/-- A place off the page names no cell (R161). -/
theorem finOf_place {p r c : Nat} (h : 3 < p ∨ 15 < r ∨ 39 < c) : finOf 4 p = none ∨ finOf 16 r = none ∨ finOf 40 c = none := by
  rcases h with h | h | h
  · exact .inl (finOf_eq_none h)
  · exact .inr (.inl (finOf_eq_none h))
  · exact .inr (.inr (finOf_eq_none h))

theorem ovlWriteOwner_outside {a : WriteArgs} {u : State} (h : 3 < a.page ∨ 15 < a.row ∨ 39 < a.column ∨ 40 < a.text.length) :
    ovlWriteOwner (.given a) u = badArgument u := by
  simp only [ovlWriteOwner, withArgs]
  split
  · next hp hr hc =>
    refine if_pos ?_
    have hp := finOf_val hp
    have hr := finOf_val hr
    have hc := finOf_val hc
    omega
  · rfl

theorem ovlFillOwner_outside {a : FillArgs} {u : State} (h : 3 < a.page ∨ 15 < a.row ∨ 39 < a.column ∨ 255 < a.count) :
    ovlFillOwner (.given a) u = badArgument u := by
  simp only [ovlFillOwner, withArgs]
  split
  · next hp hr hc =>
    refine if_pos ?_
    have hp := finOf_val hp
    have hr := finOf_val hr
    have hc := finOf_val hc
    omega
  · rfl

theorem scrollLegal_iff {a : ScrollArgs} : scrollLegal a = true ↔
    a.top ≤ a.bottom ∧ a.bottom ≤ 15 ∧ a.left ≤ a.right ∧ a.right ≤ 39 ∧ a.lines ≤ 255 := by
  simp [scrollLegal]

theorem ovlScrollOwner_inside {page : Fin 4} {a : ScrollArgs} {u : State} (hp : a.page = page.val) (hl : scrollLegal a = true) :
    ovlScrollOwner (.given a) u = ok { u with ovl := u.ovl.scroll page a } := by
  simp only [ovlScrollOwner, withArgs, finOf_eq_some page hp, hl, if_true]

theorem ovlScrollOwner_outside {a : ScrollArgs} {u : State}
    (h : 3 < a.page ∨ 15 < a.bottom ∨ 39 < a.right ∨ a.bottom < a.top ∨ a.right < a.left ∨ 255 < a.lines) :
    ovlScrollOwner (.given a) u = badArgument u := by
  simp only [ovlScrollOwner, withArgs]
  split
  · next hp =>
    have hp := finOf_val hp
    refine if_neg fun hl => ?_
    have hl := scrollLegal_iff.1 hl
    omega
  · rfl

/-- Settles O46. -/
theorem textRequestsChangeTheHostLayer : Obligations.TextRequestsChangeTheHostLayer := by
  refine fun tag s page => ⟨fun h => request_badArgument (owner := ovlWriteOwner .malformed) h rfl,
    fun h => request_badArgument (owner := ovlFillOwner .malformed) h rfl,
    fun h => request_badArgument (owner := ovlScrollOwner .malformed) h rfl,
    fun h => request_badArgument (owner := ovlClearOwner .malformed) h rfl,
    fun row column style text h hl => ⟨_, request_of_passed h (ovlWriteOwner_inside (u := s.brought .ovlWrite tag) hl) rfl,
      Overlay.write_becomes s.ovl page row column style text⟩,
    fun row column code style count h hl => ⟨_, request_of_passed h (ovlFillOwner_inside (u := s.brought .ovlFill tag) hl) rfl,
      Overlay.fill_becomes s.ovl page row column count ⟨code, style⟩⟩,
    fun top bottom left right lines d blank h ht hl hn => ?_, fun h => ?_,
    fun a h ho => request_badArgument h (ovlWriteOwner_outside ho), fun a h ho => request_badArgument h (ovlFillOwner_outside ho),
    fun a h ho => request_badArgument h (ovlScrollOwner_outside ho), fun n h hn => ?_⟩
  · have hlegal : scrollLegal ⟨page, top, bottom, left, right, lines, d, blank⟩ = true :=
      scrollLegal_iff.2 ⟨ht, Nat.le_of_lt_succ bottom.isLt, hl, Nat.le_of_lt_succ right.isLt, hn⟩
    refine ⟨_, _, request_ok h (ovlScrollOwner_inside (u := s.brought .ovlScroll tag) rfl hlegal),
      Overlay.setCells_becomes s.ovl page _, fun r c => ⟨fun ho => if_neg ho, fun h1 h2 h3 h4 => ?_⟩⟩
    rw [if_pos (show top.val ≤ r.val ∧ r.val ≤ bottom.val ∧ left.val ≤ c.val ∧ c.val ≤ right.val from ⟨h1, h2, h3, h4⟩)]
    have up := scrolledCell_up (a := ⟨page, top, bottom, left, right, lines, d, blank⟩) (old := s.ovl.hostCell page) (r := r) (c := c)
    have down := scrolledCell_down (a := ⟨page, top, bottom, left, right, lines, d, blank⟩) (old := s.ovl.hostCell page) (r := r) (c := c)
    exact ⟨fun hblank => if_pos hblank, fun h0 hd => up h0 hd h1, fun h0 hd => down h0 hd h2⟩
  · exact ⟨_, request_ok (owner := ovlClearOwner (.given page)) h (by simp only [ovlClearOwner, withArgs, finOf_self]; rfl),
      Overlay.setCells_becomes s.ovl page _⟩
  · exact request_badArgument (owner := ovlClearOwner (.given n)) h
      (by simp only [ovlClearOwner, withArgs, finOf_eq_none hn])

end Sys2Proof.Machine

/-! The requests to the overlay generator: cursors, live fields, pages and the menu (O47, O48). -/

namespace Sys2Proof.Machine

/-! ## Rows that join the dirty-row sets -/

/-- Rows of some pages join their dirty-row sets and nothing else of the overlay changes (R176). -/
def RowsJoin (o o' : Overlay) (rows : Fin 4 → Fin 16 → Prop) : Prop :=
  o' = { o with pages := o'.pages } ∧
    ∀ p, (o'.pages.get p).cells = (o.pages.get p).cells ∧ (o'.pages.get p).cursor = (o.pages.get p).cursor ∧
      ∀ r, (o'.pages.get p).dirty.get r = true ↔ (o.pages.get p).dirty.get r = true ∨ rows p r

section
variable {o o' o'' : Overlay} {f g : Fin 4 → Fin 16 → Prop}

theorem RowsJoin.refl (o : Overlay) : RowsJoin o o fun _ _ => False := ⟨rfl, fun _ => ⟨rfl, rfl, fun _ => (or_false _).symm ▸ Iff.rfl⟩⟩

theorem RowsJoin.trans (h : RowsJoin o o' f) (h' : RowsJoin o' o'' g) : RowsJoin o o'' fun p r => f p r ∨ g p r := by
  obtain ⟨e, hp⟩ := h
  obtain ⟨e', hp'⟩ := h'
  refine ⟨by rw [e', e], fun p => ?_⟩
  obtain ⟨hc, hcur, hd⟩ := hp p
  obtain ⟨hc', hcur', hd'⟩ := hp' p
  exact ⟨hc'.trans hc, hcur'.trans hcur, fun r => by rw [hd', hd, or_assoc]⟩

theorem RowsJoin.congr (h : RowsJoin o o' f) (hfg : ∀ p r, f p r ↔ g p r) : RowsJoin o o' g := by
  have e : f = g := by
    funext p r
    exact propext (hfg p r)
  exact e ▸ h

theorem RowsJoin.displayedCell (h : RowsJoin o o' f) (p : Fin 4) (r : Fin 16) (c : Fin 40) :
    o'.displayedCell p r c = o.displayedCell p r c := by
  obtain ⟨e, hp⟩ := h
  refine Overlay.displayedCell_congr _ _ _ _ _ (by rw [e]) ?_
  rw [Overlay.hostCell, (hp p).1]
  rfl

theorem RowsJoin.displayedRow (h : RowsJoin o o' f) (p : Fin 4) (r : Fin 16) : o'.displayedRow p r = o.displayedRow p r := by
  unfold Overlay.displayedRow
  congr 1
  funext c
  exact h.displayedCell p r c

end

theorem RowsJoin.markRow (o : Overlay) (q : Fin 4) (x : Fin 16) : RowsJoin o (o.markRow q x) fun p r => p = q ∧ r = x := by
  obtain ⟨e, hother, hc, hcur, hd⟩ := Overlay.markRow_marks o q x
  refine ⟨e, fun p => ?_⟩
  by_cases hp : p = q
  · subst hp
    exact ⟨hc, hcur, fun r => by rw [hd]; simp⟩
  · rw [hother p hp]
    exact ⟨rfl, rfl, fun r => by simp [hp]⟩

theorem RowsJoin.markRowChanged (before o : Overlay) (q : Fin 4) (x : Fin 16) :
    RowsJoin o (Overlay.markRowChanged before q x o) fun p r =>
      p = q ∧ r = x ∧ before.displayedRow p r ≠ o.displayedRow p r := by
  unfold Overlay.markRowChanged
  split
  · next h =>
    refine (RowsJoin.markRow o q x).congr fun p r => ⟨?_, fun h => ⟨h.1, h.2.1⟩⟩
    rintro ⟨rfl, rfl⟩
    exact ⟨rfl, rfl, h⟩
  · next h =>
    refine (RowsJoin.refl o).congr fun p r => ⟨False.elim, ?_⟩
    rintro ⟨rfl, rfl, hne⟩
    exact h hne

/-! ## A live field's entry -/

/-- A position that a field covers neither before nor after its change keeps its displayed cell (R164). -/
theorem Overlay.displayedCell_setEntry {o : Overlay} {k : FieldKind} {e : LiveField} {p : Fin 4} {r : Fin 16} {c : Fin 40}
    (hold : covers k (o.fields.entry k) p r c = false) (hnew : covers k e p r c = false) :
    ({ o with fields := o.fields.setEntry e k } : Overlay).displayedCell p r c = o.displayedCell p r c := by
  have hcov : ∀ k', covers k' ((o.fields.setEntry e k).entry k') p r c = covers k' (o.fields.entry k') p r c := by
    intro k'
    rw [Fields.entry_setEntry]
    split
    · next hk => rw [hk, hnew, hold]
    · rfl
  unfold Overlay.displayedCell
  simp only [hcov]
  split
  · next k' hk =>
    have hne : k' ≠ k := by
      rintro rfl
      have hcovers : covers k' (o.fields.entry k') p r c = true := List.find?_some (p := fun k => covers k (o.fields.entry k) p r c) hk
      exact Bool.false_ne_true (hold.symm.trans hcovers)
    rw [Fields.entry_setEntry, if_neg hne]
    rfl
  · rfl

/-- The rows whose displayed cells a field's change can touch (R176). -/
theorem Overlay.displayedCell_setEntry_ne {o : Overlay} {k : FieldKind} {e : LiveField} {p : Fin 4} {r : Fin 16} {c : Fin 40}
    (h : ({ o with fields := o.fields.setEntry e k } : Overlay).displayedCell p r c ≠ o.displayedCell p r c) :
    ((o.fields.entry k).page = p ∧ (o.fields.entry k).row = r) ∨ (e.enable = true ∧ e.page = p ∧ e.row = r) := by
  by_contra hn
  refine h (Overlay.displayedCell_setEntry ?_ ?_)
  · refine Bool.eq_false_iff.2 fun hc => hn (.inl ?_)
    obtain ⟨-, hp, hr, -⟩ := (covers_iff _ _ _ _ _).1 hc
    exact ⟨hp, hr⟩
  · refine Bool.eq_false_iff.2 fun hc => hn (.inr ?_)
    obtain ⟨he, hp, hr, -⟩ := (covers_iff _ _ _ _ _).1 hc
    exact ⟨he, hp, hr⟩

/-- A set entry marks the rows whose displayed cells change, and the row of a field that is disabled (R163, R176). -/
theorem Overlay.setField_rows (o : Overlay) (k : FieldKind) (e : LiveField) :
    RowsJoin { o with fields := o.fields.setEntry e k } (o.setField k e) fun p r =>
      (∃ c, (o.setField k e).displayedCell p r c ≠ o.displayedCell p r c) ∨
        ((o.fields.entry k).enable = true ∧ e.enable = false ∧ (o.fields.entry k).page = p ∧ (o.fields.entry k).row = r) := by
  generalize hv : ({ o with fields := o.fields.setEntry e k } : Overlay) = v
  have touched {p r} (h : ∃ c, v.displayedCell p r c ≠ o.displayedCell p r c) :
      ((o.fields.entry k).page = p ∧ (o.fields.entry k).row = r) ∨ (e.enable = true ∧ e.page = p ∧ e.row = r) := by
    obtain ⟨c, hc⟩ := h
    subst hv
    exact Overlay.displayedCell_setEntry_ne hc
  by_cases hd : (o.fields.entry k).enable = true ∧ e.enable = false
  · have hset : o.setField k e = v.markRow (o.fields.entry k).page (o.fields.entry k).row := by
      subst hv
      exact if_pos hd
    have hrows := RowsJoin.markRow v (o.fields.entry k).page (o.fields.entry k).row
    rw [hset]
    refine hrows.congr fun p r => ⟨?_, ?_⟩
    · rintro ⟨rfl, rfl⟩
      exact .inr ⟨hd.1, hd.2, rfl, rfl⟩
    · rintro (hc | ⟨-, -, rfl, rfl⟩)
      · simp only [hrows.displayedCell] at hc
        rcases touched hc with ⟨rfl, rfl⟩ | ⟨he, -⟩
        · exact ⟨rfl, rfl⟩
        · exact absurd (he.symm.trans hd.2) (by decide)
      · exact ⟨rfl, rfl⟩
  · have hset : o.setField k e = Overlay.markRowChanged o e.page e.row
        (Overlay.markRowChanged o (o.fields.entry k).page (o.fields.entry k).row v) := by
      subst hv
      exact if_neg hd
    have hone := RowsJoin.markRowChanged o v (o.fields.entry k).page (o.fields.entry k).row
    have hrows := hone.trans (RowsJoin.markRowChanged o _ e.page e.row)
    rw [hset]
    refine hrows.congr fun p r => ?_
    simp only [hrows.displayedCell, hone.displayedRow, Overlay.displayedRow_ne_iff]
    refine ⟨?_, ?_⟩
    · rintro (⟨-, -, h⟩ | ⟨-, -, h⟩) <;> exact .inl h
    · rintro (hc | ⟨h1, h2, -⟩)
      · rcases touched hc with ⟨rfl, rfl⟩ | ⟨-, rfl, rfl⟩
        · exact .inl ⟨rfl, rfl, hc⟩
        · exact .inr ⟨rfl, rfl, hc⟩
      · exact absurd ⟨h1, h2⟩ hd

theorem overlaps_iff {k k' : FieldKind} {e e' : LiveField} : overlaps k e k' e' = true ↔ e.page = e'.page ∧ e.row = e'.row ∧
    e.column.val < e'.column.val + fieldWidth k' ∧ e'.column.val < e.column.val + fieldWidth k := by simp [overlaps]

theorem Fields.clash_iff {t : Fields} {k : FieldKind} {e : LiveField} : t.clash k e = true ↔
    ∃ k', k' ≠ k ∧ (t.entry k').enable = true ∧ overlaps k e k' (t.entry k') = true := by
  unfold Fields.clash
  rw [List.any_eq_true]
  exact ⟨fun ⟨k', _, h⟩ => ⟨k', of_decide_eq_true h⟩, fun ⟨k', h⟩ => ⟨k', mem_allFields k', decide_eq_true h⟩⟩

theorem ovlFieldSetOwner_inside {k : FieldKind} {enable : Bool} {page : Fin 4} {row : Fin 16} {column : Fin 40} {u : State} :
    ovlFieldSetOwner (.given ⟨k, enable, page, row, column⟩) u =
      if enable = true ∧ 39 < column.val + fieldWidth k - 1 then badArgument u
      else if enable = true ∧ u.ovl.fields.clash k { u.ovl.fields.entry k with
          enable := enable, page := page, row := row, column := column } = true then badArgument u
      else ok { u with ovl := u.ovl.setField k { u.ovl.fields.entry k with
          enable := enable, page := page, row := row, column := column } } := by
  simp only [ovlFieldSetOwner, withArgs, finOf_self]

theorem ovlFieldSetOwner_outside {a : FieldArgs} {u : State} (h : 3 < a.page ∨ 15 < a.row ∨ 39 < a.column) :
    ovlFieldSetOwner (.given a) u = badArgument u := by
  simp only [ovlFieldSetOwner, withArgs]
  split
  · next hp hr hc =>
    have hp := finOf_val hp
    have hr := finOf_val hr
    have hc := finOf_val hc
    omega
  · rfl

/-! ## The cursor -/

theorem ovlCursorOwner_inside {page : Fin 4} {row : Fin 16} {column : Fin 40} {visible : Bool} {u : State} :
    ovlCursorOwner (.given ⟨page, row, column, visible⟩) u = ok { u with ovl := u.ovl.setCursor page ⟨row, column, visible⟩ } := by
  simp only [ovlCursorOwner, withArgs, finOf_self]

theorem ovlCursorOwner_outside {a : CursorArgs} {u : State} (h : 3 < a.page ∨ 15 < a.row ∨ 39 < a.column) :
    ovlCursorOwner (.given a) u = badArgument u := by
  simp only [ovlCursorOwner, withArgs]
  split
  · next hp hr hc =>
    have hp := finOf_val hp
    have hr := finOf_val hr
    have hc := finOf_val hc
    omega
  · rfl

theorem MarksRows.congr {o o' : Overlay} {p : Fin 4} {f g : Fin 16 → Bool} (h : MarksRows o o' p f) (hfg : ∀ r, f r = g r) :
    MarksRows o o' p g := (funext hfg : f = g) ▸ h

/-- A moved or changed cursor marks the row it leaves and the row it comes to (R173). -/
theorem Overlay.setCursor_marks {o : Overlay} {page : Fin 4} {cur : Cursor} (h : cur ≠ (o.pages.get page).cursor) :
    MarksRows { o with pages := o.pages.set page { o.pages.get page with cursor := cur } } (o.setCursor page cur) page
      fun r => decide (r = cur.row ∨ r = (o.pages.get page).cursor.row) := by
  have hset : o.setCursor page cur = ({ o with
      pages := o.pages.set page { o.pages.get page with cursor := cur } }.markRow page (o.pages.get page).cursor.row).markRow
      page cur.row := if_neg h
  rw [hset]
  refine ((Overlay.markRow_marks _ _ _).trans (Overlay.markRow_marks _ _ _)).congr fun r => ?_
  simp [Bool.or_comm]

/-- Settles O47. -/
theorem cursorsAndFieldsAreSet : Obligations.CursorsAndFieldsAreSet := by
  refine fun tag s page row column => ⟨fun h => request_badArgument (owner := ovlCursorOwner .malformed) h rfl,
    fun h => request_badArgument (owner := ovlFieldSetOwner .malformed) h rfl,
    fun visible h => ⟨fun hc => ?_, fun hc => ?_⟩, fun a h ho => request_badArgument h (ovlCursorOwner_outside ho),
    fun k enable h => ⟨fun he hw => ?_, fun k' he hk hen hp hr h1 h2 => ?_, fun hfree => ?_⟩,
    fun a h ho => request_badArgument h (ovlFieldSetOwner_outside ho)⟩
  · refine request_ok h (ovlCursorOwner_inside.trans (congrArg ok ?_))
    have hset : s.ovl.setCursor page ⟨row, column, visible⟩ = s.ovl := if_pos hc
    rw [State.brought_ovl, hset]
    rfl
  · exact ⟨_, request_ok h ovlCursorOwner_inside, Overlay.setCursor_marks hc⟩
  · exact request_badArgument h (ovlFieldSetOwner_inside.trans (if_pos ⟨he, by omega⟩))
  · refine request_badArgument h (ovlFieldSetOwner_inside.trans (ite_eq_left_iff.2 fun _ => if_pos ⟨he, ?_⟩))
    exact Fields.clash_iff.2 ⟨k', hk, hen, overlaps_iff.2 ⟨hp.symm, hr.symm, h1, h2⟩⟩
  · have hwide : ¬(enable = true ∧ 39 < column.val + fieldWidth k - 1) := by
      rintro ⟨he, hw⟩
      have := (hfree he).1
      omega
    have hclash : ¬(enable = true ∧ s.ovl.fields.clash k { s.ovl.fields.entry k with
        enable := enable, page := page, row := row, column := column } = true) := by
      rintro ⟨he, hc⟩
      obtain ⟨k', hk, hen, ho⟩ := Fields.clash_iff.1 hc
      obtain ⟨hp, hr, h1, h2⟩ := overlaps_iff.1 ho
      have := (hfree he).2 k' hk hen hp.symm hr.symm
      dsimp only at h1 h2
      omega
    obtain ⟨heq, hpages⟩ := s.ovl.setField_rows k { s.ovl.fields.entry k with
      enable := enable, page := page, row := row, column := column }
    refine ⟨_, request_ok h (ovlFieldSetOwner_inside.trans ((if_neg hwide).trans (if_neg hclash))), ?_, fun k' => ?_, fun p => ?_,
      fun p r => ?_⟩
    · rw [State.brought_ovl, heq]
    · rw [State.brought_ovl, heq]
      exact Fields.entry_setEntry _ _ _ _
    · exact ⟨(hpages p).1, (hpages p).2.1⟩
    · exact (hpages p).2.2 r

/-! ## Pages and the menu -/

/-- A change of the displayed page (R174, R176, R177). -/
theorem Overlay.display_marks {o : Overlay} {page : Fin 4} (h : page ≠ o.displayed) :
    MarksRows { o with displayed := page, batch := o.batch.map fun b => { b with waiting := [] } } (o.display page) page
      fun _ => true := by
  have hset : o.display page = ({ o.dropWaiting with displayed := page } : Overlay).markPage page := if_neg h
  rw [hset]
  exact Overlay.markPage_marks _ _

theorem Overlay.display_same {o : Overlay} {page : Fin 4} (h : page = o.displayed) : o.display page = o := if_pos h

/-- Setting the menu mode and the saved page beside a change of page (R175). -/
theorem MarksRows.withMenu {o o' : Overlay} {p : Fin 4} {f : Fin 16 → Bool} (h : MarksRows o o' p f) (m : Bool) (sv : Option (Fin 4)) :
    MarksRows { o with menu := m, saved := sv } { o' with menu := m, saved := sv } p f := by
  obtain ⟨e, hrest⟩ := h
  exact ⟨by rw [e], hrest⟩

/-- The displayed page after a change to one that may be the present one (R175 to R177). -/
theorem Overlay.display_marks_if (o : Overlay) (page : Fin 4) :
    MarksRows { o with
        displayed := page, batch := if page = o.displayed then o.batch else o.batch.map fun b => { b with waiting := [] } }
      (o.display page) page fun _ => decide (page ≠ o.displayed) := by
  by_cases h : page = o.displayed
  · rw [Overlay.display_same h, if_pos h]
    subst h
    exact (MarksRows.refl _ _).congr fun _ => by simp
  · rw [if_neg h]
    exact (Overlay.display_marks h).congr fun _ => by simp [h]

theorem ovlPageSelectOwner_page {page : Fin 4} {u : State} : ovlPageSelectOwner (.given page) u =
    if u.ovl.menu then refuse .menu u else ok { u with ovl := u.ovl.display page } := by
  simp only [ovlPageSelectOwner, withArgs, finOf_self]

/-- Settles O48. -/
theorem pagesAndMenuAreSelected : Obligations.PagesAndMenuAreSelected := by
  refine fun tag s => ⟨fun h => request_badArgument (owner := ovlPageSelectOwner .malformed) h rfl,
    fun h => request_badArgument (owner := ovlMenuSetOwner .malformed) h rfl,
    fun page h => ⟨fun hm => request_refused h (ovlPageSelectOwner_page.trans (if_pos hm)), fun hm hp => ?_, fun hm hp => ?_⟩,
    fun n h hn => request_badArgument (owner := ovlPageSelectOwner (.given n)) h
      (by simp only [ovlPageSelectOwner, withArgs, finOf_eq_none hn]),
    fun h => ⟨?_, fun hm => ?_, fun page hm hd hs => ?_⟩⟩
  · refine request_ok h (ovlPageSelectOwner_page.trans ((if_neg (by simp [hm])).trans (congrArg ok ?_)))
    rw [State.brought_ovl, Overlay.display_same hp]
    rfl
  · exact ⟨_, request_ok h (ovlPageSelectOwner_page.trans (if_neg (by simp [hm]))), Overlay.display_marks hp⟩
  · refine request_ok (owner := ovlMenuSetOwner (.given s.ovl.menu)) h (congrArg ok ?_)
    have hset : s.ovl.setMenu s.ovl.menu = s.ovl := if_pos rfl
    rw [State.brought_ovl, hset]
    rfl
  · refine ⟨_, request_ok (owner := ovlMenuSetOwner (.given true)) h rfl, ?_⟩
    have hset : s.ovl.setMenu true = { s.ovl.display 3 with menu := true, saved := some s.ovl.displayed } := by
      simp [Overlay.setMenu, hm]
    rw [State.brought_ovl, hset]
    have hmarks := (s.ovl.display_marks_if 3).withMenu true (some s.ovl.displayed)
    simp only [@eq_comm _ (3 : Fin 4), ne_eq] at hmarks
    exact hmarks
  · refine ⟨_, request_ok (owner := ovlMenuSetOwner (.given false)) h rfl, ?_⟩
    have hset : s.ovl.setMenu false = { s.ovl.display page with menu := false, saved := none } := by
      simp [Overlay.setMenu, hm, hs]
    rw [State.brought_ovl, hset]
    have hmarks := (s.ovl.display_marks_if page).withMenu false none
    rw [hd] at hmarks
    exact hmarks

end Sys2Proof.Machine

/-! The requests to the supply monitor (O49). -/

namespace Sys2Proof.Machine

/-! ## What the stabiliser's copies leave alone -/

/-- An update of the stabiliser's copies writes the stabiliser and posts STAB_STATE at most. -/
theorem StabFollows.frame {on : Bool} {c : Conditions} {s t : State} (h : StabFollows on c s t) :
    t = { s with stab := t.stab, port := t.port } ∧ t.stab.cond = c ∧ (¬c.allHold → t.stab.isActive = false) := by
  obtain ⟨v, rfl, hfault, hrest⟩ := h
  by_cases hf : ∃ r, s.stab.state = .fault r
  · obtain ⟨r, hr⟩ := hf
    rw [hfault r hr]
    exact ⟨rfl, rfl, fun _ => by simp [Stabiliser.isActive, hr]⟩
  · push Not at hf
    obtain ⟨hall, hnot⟩ := hrest hf
    have other (st : StabState) (b : Option Blocking) (hst : st = .standby ∨ st = .off)
        (hb : (on = true ∧ ¬c.allHold ∧ st = .standby ∧ b = some (blockedBy c)) ∨ (on = false ∧ st = .off ∧ b = none)) :
        t = { s with stab := t.stab, port := t.port } ∧ t.stab.cond = c ∧ (¬c.allHold → t.stab.isActive = false) := by
      obtain ⟨h1, h2, h3⟩ := hnot st b hb
      have hst' : st ≠ .active .normal ∧ st ≠ .active .pan := by rcases hst with rfl | rfl <;> simp
      by_cases hs : s.stab.state = st
      · rw [h1 hs]
        exact ⟨rfl, rfl, fun _ => by rcases hst with rfl | rfl <;> simp [Stabiliser.isActive, hs]⟩
      · by_cases ha : ∃ sub, s.stab.state = .active sub
        · obtain ⟨sub, ha⟩ := ha
          rw [h2 sub ha]
          exact ⟨rfl, rfl, fun _ => by rcases hst with rfl | rfl <;> rfl⟩
        · push Not at ha
          rw [h3 hs ha]
          exact ⟨rfl, rfl, fun _ => by rcases hst with rfl | rfl <;> rfl⟩
    cases hon : on with
    | false => exact other .off none (.inr rfl) (.inr ⟨hon, rfl, rfl⟩)
    | true =>
      by_cases hc : c.allHold
      · by_cases ha : ∃ sub, s.stab.state = .active sub
        · obtain ⟨sub, ha⟩ := ha
          rw [(hall hon hc).1 sub ha]
          exact ⟨rfl, rfl, fun hn => absurd hc hn⟩
        · push Not at ha
          rw [(hall hon hc).2 ha]
          exact ⟨rfl, rfl, fun hn => absurd hc hn⟩
      · exact other .standby _ (.inl rfl) (.inl ⟨hon, hc, rfl, rfl⟩)

/-- The halt of both axes writes the lens drive, the stabiliser's copy and the notices (R64). -/
theorem LensHalted.frame {r : AbandonReason} {s t : State} (h : LensHalted r s t) : t = { s with
    lens := { s.lens with
      zoom := haltedAxis s.lens.zoom r, focus := haltedAxis s.lens.focus r
      driveTimer := if s.lens.zoom.owner = .homing then s.lens.driveTimer else none, override := none, floating := true }
    stab := t.stab, port := t.port } := by
  obtain ⟨a, b, rfl, hfree, hhoming, rfl⟩ := h
  by_cases ho : s.lens.zoom.owner = .homing
  · obtain ⟨hb, -⟩ := (hhoming ho).frame
    rw [hb]
  · rw [hfree ho]

/-! ## STANDBY_ENTER -/

/-- What an entry into STANDBY leaves, block by block (R186). -/
theorem StandbyEntered.frame {s t : State} (h : StandbyEntered s t) : ∃ (k : Controls) (st : Stabiliser) (p : Port), t = { s with
    controls := k, stab := st, port := p, supply.power := .standby, recorder.power := .standby
    lens := { s.lens with
      zoom := haltedAxis s.lens.zoom .standby, focus := haltedAxis s.lens.focus .standby
      driveTimer := if s.lens.zoom.owner = .homing then s.lens.driveTimer else none, override := none, floating := true
      demand := if s.controls.rocker.demand = 0 then s.lens.demand else 0
      blocked := if s.controls.rocker.demand = 0 then s.lens.blocked else false }
    audio := { s.audio with power := .standby, ch1 := restedChannel s.audio.ch1, ch2 := restedChannel s.audio.ch2 }
    log.over1 := if s.audio.ch1.isOver then false else s.log.over1
    log.over2 := if s.audio.ch2.isOver then false else s.log.over2
    ovl.power := .standby, ovl.batch := s.ovl.batch.map fun b => { b with waiting := [] } } ∧
    st.isActive = false ∧ st.cond.run = false ∧ st.cond.gyroValid = false := by
  obtain ⟨a, b, c, rfl, hhalt, hstab, rfl⟩ := h
  obtain ⟨hc, hcond, hact⟩ := hstab.frame
  have hb := hhalt.frame
  refine ⟨c.controls, c.stab, c.port, ?_, hact (fun hall => nomatch hall.1), by rw [hcond], by rw [hcond]⟩
  rw [hc, hb]

theorem standbyEnterOwner_given {tag : Byte} {s : State} (h : Passed .standbyEnter tag s) (he : emptyPayload s = true) :
    standbyEnterOwner (.given ()) (s.brought .standbyEnter tag) = match s.supply.power with
      | .run => if s.supply.recState = .standby then ok ((s.brought .standbyEnter tag).setPower .standby)
          else refuse .recording (s.brought .standbyEnter tag)
      | .standby => if s.supply.exit.isSome then refuse .inProgress (s.brought .standbyEnter tag) else ok (s.brought .standbyEnter tag)
      | .init | .shutdown => refuse .none (s.brought .standbyEnter tag) := withNone_of_empty h he _

/-! ## STANDBY_EXIT -/

theorem standbyExitOwner_given {tag : Byte} {s : State} (h : Passed .standbyExit tag s) (he : emptyPayload s = true) :
    standbyExitOwner (.given ()) (s.brought .standbyExit tag) = match s.supply.power with
      | .standby => if s.supply.exit.isSome then refuse .inProgress (s.brought .standbyExit tag)
          else ok ((s.brought .standbyExit tag).beginExit .host)
      | .run => ok (s.brought .standbyExit tag)
      | .init | .shutdown => refuse .none (s.brought .standbyExit tag) := withNone_of_empty h he _

theorem exec_standbyExit_begins {tag : Byte} {s u : State} (h : Passed .standbyExit tag s) (he : emptyPayload s = true)
    (hp : s.supply.power = .standby) (hx : s.supply.exit = none) (hu : (s.brought .standbyExit tag).beginExit .host = u) :
    exec (.standbyExit tag (.given ())) s = .next (answered .standbyExit tag .ok .none .none u) := by
  refine request_ok (owner := standbyExitOwner (.given ())) h ((standbyExitOwner_given h he).trans ?_)
  rw [hp, hx, hu]
  rfl

/-! ## SHUTDOWN -/

/-- The record supervisor at the begin of a shutdown (R126): a start fails, a recording stops, anything else stands. -/
theorem State.recPower_shutdown (u : State) :
    (u.recPower .shutdown).recorder.power = .shutdown ∧
    (u.recorder.state = .standby ∨ u.recorder.state = .stopping →
      (u.recPower .shutdown).recorder.state = u.recorder.state ∧ (u.recPower .shutdown).supply = u.supply) ∧
    (u.recorder.state = .starting → (u.recPower .shutdown).recorder.state = .standby ∧
      (u.recPower .shutdown).supply = { u.supply with recState := .standby }) ∧
    (u.recorder.state = .recording → (u.recPower .shutdown).recorder.state = .stopping ∧
      (u.recPower .shutdown).recorder.endLabel = some u.tc.stamp ∧
      (u.recPower .shutdown).supply = { u.supply with recState := .stopping }) := by
  unfold State.recPower
  cases hs : u.recorder.state <;>
    simp [State.failStart, State.stopRecording, State.beep_eq_beeped, State.setRecState, State.tally, Recorder.setTally, State.post,
      State.warn, State.setWarned, State.condition, hs]

theorem State.timecodePower_stamp (old new : PowerState) (u : State) : (u.timecodePower old new).tc.stamp = u.tc.stamp := by
  unfold State.timecodePower State.reportDifference State.reportReference
  (repeat' split) <;> rfl

/-- What the begin of a shutdown leaves of the supply monitor and of the record supervisor (R188, R126). -/
theorem State.beginShutdown_blocks {r : ShutdownReason} {u : State} (h : u.supply.power = .run ∨ u.supply.power = .standby) :
    ∃ c : State, c.recorder = u.recorder ∧ c.tc.stamp = u.tc.stamp ∧
      c.supply = { u.supply with power := .shutdown, exit := none, shutdown := some ⟨r, .waiting⟩ } ∧
      (u.beginShutdown r).recorder = (c.recPower .shutdown).recorder ∧ (u.beginShutdown r).supply = (c.recPower .shutdown).supply := by
  refine ⟨((({ u with supply.power := .shutdown, supply.exit := none, supply.shutdown := some ⟨r, .waiting⟩ } : State).scannerPower
    u.supply.power .shutdown).stabPower .shutdown).timecodePower u.supply.power .shutdown, by simp, ?_, by simp, ?_, ?_⟩
  · rw [State.timecodePower_stamp]
    simp
  all_goals
    unfold State.beginShutdown State.setPower
    rcases h with h | h <;> simp [h, State.lensPower, State.audioPower]

/-- What an accepted SHUTDOWN leaves (R188). -/
theorem State.beginShutdown_leaves {r : ShutdownReason} {u : State} (h : u.supply.power = .run ∨ u.supply.power = .standby) :
    (u.recorder.state = u.supply.recState → (u.beginShutdown r).supply = { u.supply with
      power := .shutdown, exit := none, shutdown := some ⟨r, .waiting⟩, recState := (u.beginShutdown r).recorder.state }) ∧
    (u.beginShutdown r).recorder.power = .shutdown ∧
    (u.recorder.state = .standby ∨ u.recorder.state = .stopping → (u.beginShutdown r).recorder.state = u.recorder.state) ∧
    (u.recorder.state = .starting → (u.beginShutdown r).recorder.state = .standby) ∧
    (u.recorder.state = .recording → (u.beginShutdown r).recorder.state = .stopping ∧
      (u.beginShutdown r).recorder.endLabel = some u.tc.stamp) := by
  obtain ⟨c, hrec, hstamp, hsupply, hr, hs⟩ := State.beginShutdown_blocks (r := r) h
  obtain ⟨hpower, hstands, hstart, hstop⟩ := c.recPower_shutdown
  rw [hr, hs]
  rw [hrec] at hstands hstart hstop
  rw [hsupply] at hstands hstart hstop
  rw [hstamp] at hstop
  refine ⟨fun heq => ?_, hpower, fun h => (hstands h).1, fun h => (hstart h).1, fun h => ⟨(hstop h).1, (hstop h).2.1⟩⟩
  cases hst : u.recorder.state with
  | standby =>
    obtain ⟨h1, h2⟩ := hstands (.inl hst)
    rw [h1, h2, heq]
  | stopping =>
    obtain ⟨h1, h2⟩ := hstands (.inr hst)
    rw [h1, h2, heq]
  | starting =>
    obtain ⟨h1, h2⟩ := hstart hst
    rw [h1, h2]
  | recording =>
    obtain ⟨h1, -, h2⟩ := hstop hst
    rw [h1, h2]

theorem shutdownOwner_given {tag : Byte} {s : State} (h : Passed .shutdown tag s) (he : emptyPayload s = true) :
    shutdownOwner (.given ()) (s.brought .shutdown tag) = match s.supply.power with
      | .run | .standby => ok ((s.brought .shutdown tag).beginShutdown .host)
      | .init | .shutdown => refuse .none (s.brought .shutdown tag) := withNone_of_empty h he _

theorem exec_shutdown_begins {tag : Byte} {s : State} (h : Passed .shutdown tag s) (he : emptyPayload s = true)
    (hp : s.supply.power = .run ∨ s.supply.power = .standby) : exec (.shutdown tag (.given ())) s =
      .next (answered .shutdown tag .ok .none .none ((s.brought .shutdown tag).beginShutdown .host)) := by
  refine request_ok (owner := shutdownOwner (.given ())) h ((shutdownOwner_given h he).trans ?_)
  rcases hp with hp | hp <;> rw [hp]

theorem thresholdsLegal_iff {a : SupplyArgs} :
    thresholdsLegal a = true ↔ 9000 ≤ a.cutoff ∧ a.cutoff < a.low ∧ a.low < a.warn ∧ a.warn ≤ 16000 := by simp [thresholdsLegal]

/-- Settles O49. -/
theorem powerRequestsAreDecided : Obligations.PowerRequestsAreDecided := by
  refine fun tag s => ⟨fun h => request_badArgument (owner := supplySetOwner .malformed) h rfl,
    fun w l c h => ⟨fun h1 h2 h3 h4 => ?_, fun hn => ?_⟩, fun i k a hi h ha => ?_, fun h he => ?_, fun h he => ?_, fun h he => ?_,
    fun h he => request_ok (owner := resetPartOwner (.given ())) h (withNone_of_empty h he _)⟩
  · refine request_ok (owner := supplySetOwner (.given ⟨w, l, c⟩)) h (if_neg ?_)
    rw [thresholdsLegal_iff.2 ⟨h1, h2, h3, h4⟩]
    decide
  · refine request_badArgument (owner := supplySetOwner (.given ⟨w, l, c⟩)) h (if_pos (Bool.eq_false_iff.2 fun hl => ?_))
    obtain ⟨h1, h2, h3, h4⟩ := thresholdsLegal_iff.1 hl
    dsimp only at h1 h2 h3 h4
    omega
  · rcases hi with ⟨rfl, rfl⟩ | ⟨rfl, rfl⟩ | ⟨rfl, rfl⟩ | ⟨rfl, rfl⟩
    · exact request_badArgument (owner := standbyEnterOwner a) h (withNone_of_filled ha _)
    · exact request_badArgument (owner := standbyExitOwner a) h (withNone_of_filled ha _)
    · exact request_badArgument (owner := shutdownOwner a) h (withNone_of_filled ha _)
    · exact request_badArgument (owner := resetPartOwner a) h (withNone_of_filled ha _)
  · have owner := standbyEnterOwner_given h he
    refine ⟨fun hp hr => ?_, fun hp hr => ?_, fun hp hx => ?_, fun hp hx => ?_, fun hp => ?_⟩ <;> rw [hp] at owner
    · have hentered := State.setPower_standby (s.brought .standbyEnter tag)
      obtain ⟨k, st, p, hu, hact, hrun, hgyro⟩ := hentered.frame
      refine ⟨_, hentered, request_ok h (owner.trans (if_pos hr)), ?_⟩
      rw [hu]
      refine ⟨rfl, rfl, rfl, rfl, rfl, rfl, rfl, rfl, rfl, rfl, rfl, rfl, rfl, rfl, rfl, rfl, rfl, fun hd => ?_, rfl, hact, hrun, hgyro, rfl,
        rfl, rfl, rfl, rfl, rfl, rfl, rfl⟩
      show (if s.controls.rocker.demand = 0 then s.lens.demand else 0) = 0
      rw [hd, ite_eq_right_iff]
      exact id
    · exact request_refused h (owner.trans (if_neg hr))
    · exact request_ok h (owner.trans (if_neg (by rw [hx]; decide)))
    · exact request_refused h (owner.trans (if_pos (Option.isSome_iff_ne_none.2 hx)))
    · exact request_refused h owner
  · have owner := standbyExitOwner_given h he
    refine ⟨fun hp hx ha _ => ?_, fun v hp hx ha => ?_, fun t hp hx ha => ?_, fun hp hx => ?_, fun hp => ?_, fun hp => ?_⟩
    · refine exec_standbyExit_begins h he hp hx ?_
      simp only [State.beginExit, State.callCalibration, State.brought_conv, ha, State.beginCalibration]
      rw [show (s.brought .standbyExit tag).port.answerAccepted = (s.brought .standbyExit tag).port from
        Port.bring_answerAccepted h.1]
      rfl
    · refine exec_standbyExit_begins h he hp hx ?_
      simp only [State.beginExit, State.callCalibration, State.brought_conv, ha]
    · refine exec_standbyExit_begins h he hp hx ?_
      simp only [State.beginExit, State.callCalibration, State.brought_conv, ha]
    · rw [hp] at owner
      exact request_refused h (owner.trans (if_pos (Option.isSome_iff_ne_none.2 hx)))
    · rw [hp] at owner
      exact request_ok h owner
    · rw [hp] at owner
      exact request_refused h owner
  · refine ⟨fun hp => ?_, fun hp => ?_⟩
    · obtain ⟨h1, h2, h3, h4, h5⟩ := State.beginShutdown_leaves (r := .host) (u := s.brought .shutdown tag) hp
      exact ⟨_, State.beginShutdown_begun _ _ hp, exec_shutdown_begins h he hp, h1, h2, h3, h4, h5, by simp, by simp, by simp,
        by simp⟩
    · have owner := shutdownOwner_given h he
      rw [hp] at owner
      exact request_refused h owner

end Sys2Proof.Machine

/-! The timers with one effect (O51). -/

namespace Sys2Proof.Machine

theorem exec_stallPauseEnd {s : State} {ax : Axis} {t : Nat} (h : (s.axis ax).pause = some t) :
    exec (.stallPauseEnd ax) s = .next (settle
      { s with clock := max s.clock t, lens := s.lens.setAxis { s.axis ax with pause := none } ax }) := by
  show execStallPauseEnd ax s = _
  rw [execStallPauseEnd, h]
  rfl

theorem exec_stallSuspectExpiry {s : State} {ax : Axis} {t : Nat} (h : (s.axis ax).suspect = some t) :
    exec (.stallSuspectExpiry ax) s = .next (settle
      { s with clock := max s.clock (t + 500000), lens := s.lens.setAxis { s.axis ax with suspect := none } ax }) := by
  show execStallSuspectExpiry ax s = _
  rw [execStallSuspectExpiry, h]
  rfl

theorem exec_speedTimeout {s : State} {ax : Axis} {t : Nat} (h : (s.axis ax).lastEdge = some t) :
    exec (.speedTimeout ax) s = .next (settle
      { s with clock := max s.clock (t + 50000), lens := s.lens.setAxis { s.axis ax with measured := 0, capture := none } ax }) := by
  show execSpeedTimeout ax s = _
  rw [execSpeedTimeout, h]
  rfl

theorem exec_settlingExpiry {s : State} {ch : Channel} {t : Nat} (h : (s.audio.channel ch).settling = some t) :
    exec (.settlingExpiry ch) s = .next (settle { s with
      clock := max s.clock t
      audio := s.audio.setChannel { s.audio.channel ch with
        settling := none, applied := (s.audio.channel ch).setGain - (s.audio.channel ch).reduction } ch
      port := s.port.post (.audioSettled ch (s.audio.channel ch).input) }) := by
  show execSettlingExpiry ch s = _
  rw [execSettlingExpiry, h]
  rfl

/-- Half a period of a blinking tally (R127). -/
theorem exec_tallyBlinkToggle {s : State} {t : Nat} (h : s.recorder.blinkTimer = some t)
    (hb : s.recorder.tally = .blink2 ∨ s.recorder.tally = .blink4) :
    exec .tallyBlinkToggle s = .next (settle { s with
      clock := max s.clock t
      recorder.lampOn := !s.recorder.lampOn
      recorder.blinkTimer := some (t + if s.recorder.tally = .blink2 then 250000 else 125000) }) := by
  show execTallyBlinkToggle s = _
  rw [execTallyBlinkToggle, h]
  rcases hb with hb | hb <;> rw [hb] <;> rfl

/-- SHUTDOWN_LENS_STOP in a waiting shutdown whose recording has ended (R188). -/
theorem exec_shutdownLensStop {s : State} {r : ShutdownReason} (h : s.supply.shutdown = some ⟨r, .waiting⟩) (hr : s.supply.recState = .standby) :
    exec .shutdownLensStop s = .next (settle
      { s.haltLens .shutdown with supply.shutdown := some ⟨r, .lensStopped (s.clock + 100000)⟩ }) := by
  show execShutdownLensStop s = _
  rw [execShutdownLensStop, h]
  exact congrArg finish (if_pos hr)

theorem exec_shutdownLensStop_idle {s : State}
    (h : s.supply.shutdown = none ∨ ∃ r, s.supply.shutdown = some ⟨r, .waiting⟩ ∧ s.supply.recState ≠ .standby) :
    exec .shutdownLensStop s = .next (settle s) := by
  show execShutdownLensStop s = _
  obtain h | ⟨r, h, hr⟩ := h <;> rw [execShutdownLensStop, h]
  · rfl
  · exact congrArg finish (if_neg hr)

/-- A halt leaves either axis halted (R64). -/
theorem LensHalted.axis {r : AbandonReason} {s t : State} (h : LensHalted r s t) (ax : Axis) :
    t.axis ax = haltedAxis (s.axis ax) r := by
  rw [h.frame]
  cases ax <;> rfl

/-- Settles O51: each event is read at the state of its timer; the lens stop is the halt of both axes. -/
theorem timersRunOutWithTheirEffect : Obligations.TimersRunOutWithTheirEffect := by
  unfold Obligations.TimersRunOutWithTheirEffect
  intro s
  refine ⟨fun h => ?_, fun p t h => ?_, fun k h => ?_, fun k t h => ?_, fun h => ?_, fun t h => ?_, fun h => ?_, fun t h => ?_,
    fun h => ?_, fun t h hb => exec_tallyBlinkToggle h hb, fun ax h => ?_, fun ax t h => exec_stallPauseEnd h, fun ax h => ?_,
    fun ax t h => exec_stallSuspectExpiry h, fun ax h => ?_, fun ax t h => exec_speedTimeout h, fun ch h => ?_,
    fun ch t h => exec_settlingExpiry h, exec_shutdownLensStop_idle, fun r h hr => ?_, fun h => ?_, fun r t h => ?_⟩
  · show execBeepPatternEnd s = _
    rw [execBeepPatternEnd, h]
    rfl
  · show execBeepPatternEnd s = _
    rw [execBeepPatternEnd, h]
    rfl
  · show execWarningExpiry k s = _
    rw [execWarningExpiry]
    rcases h with h | h <;> rw [h] <;> rfl
  · show execWarningExpiry k s = _
    rw [execWarningExpiry, h]
    rfl
  · show execToggleInhibitExpiry s = _
    rw [execToggleInhibitExpiry, h]
    rfl
  · show execToggleInhibitExpiry s = _
    rw [execToggleInhibitExpiry, h]
    rfl
  · show execOverrideWindowExpiry s = _
    rw [execOverrideWindowExpiry, h]
    rfl
  · show execOverrideWindowExpiry s = _
    rw [execOverrideWindowExpiry, h]
    rfl
  · show execTallyBlinkToggle s = _
    rw [execTallyBlinkToggle, h]
    rfl
  · show execStallPauseEnd ax s = _
    rw [execStallPauseEnd, h]
    rfl
  · show execStallSuspectExpiry ax s = _
    rw [execStallSuspectExpiry, h]
    rfl
  · show execSpeedTimeout ax s = _
    rw [execSpeedTimeout, h]
    rfl
  · show execSettlingExpiry ch s = _
    rw [execSettlingExpiry, h]
    rfl
  · have hh := State.haltLens_halted .shutdown s
    refine ⟨_, exec_shutdownLensStop h hr, ?_, ?_, ?_, ?_, ?_, ?_⟩
    · convert hh using 1
      rw [hh.frame]
    · rw [hh.frame]
    · rw [hh.frame]
    · rw [hh.frame]
    · rw [hh.frame]
    · intro ax
      show ((s.haltLens .shutdown).axis ax).owner = _ ∧ ((s.haltLens .shutdown).axis ax).vcmd = _ ∧ ((s.haltLens .shutdown).axis ax).duty = _ ∧
        ((s.haltLens .shutdown).axis ax).position = _ ∧ (_ → ((s.haltLens .shutdown).axis ax).homing = _)
      rw [hh.axis]
      exact ⟨rfl, rfl, rfl, rfl, fun ho => if_pos ho⟩
  · show execPwrHoldRelease s = _
    rw [execPwrHoldRelease]
    obtain h | ⟨r, h⟩ := h <;> rw [h] <;> rfl
  · show execPwrHoldRelease s = _
    rw [execPwrHoldRelease, h]
    rfl

end Sys2Proof.Machine

/-! The two resets of the part (O50). -/

namespace Sys2Proof.Machine

/-! ## What the end of a step keeps of a reset -/

theorem settle_ovl (s : State) : (settle s).ovl = { s.ovl with pages := (settle s).ovl.pages, fields := (settle s).ovl.fields } :=
  (publish_keeps s).1

theorem settle_hostCell (s : State) (page : Fin 4) (row : Fin 16) (column : Fin 40) :
    (settle s).ovl.hostCell page row column = s.ovl.hostCell page row column := by
  obtain ⟨-, -, hcells, -⟩ := publish_pages s page
  exact congrArg (fun cells => (cells.get row).get column) hcells

theorem settle_cursor (s : State) (page : Fin 4) : ((settle s).ovl.pages.get page).cursor = (s.ovl.pages.get page).cursor :=
  (publish_keeps s).2.1 page

theorem settle_warnings (s : State) : (settle s).ovl.warnings = s.ovl.warnings := by rw [settle_ovl]

theorem settle_displayed (s : State) : (settle s).ovl.displayed = s.ovl.displayed := by rw [settle_ovl]

theorem OverlayReset.settled {s : State} (h : OverlayReset s.ovl) : OverlayReset (settle s).ovl := by
  obtain ⟨hmenu, hsaved, hbatch, hdirty⟩ := h
  refine ⟨by rw [settle_ovl]; exact hmenu, by rw [settle_ovl]; exact hsaved, by rw [settle_ovl]; exact hbatch, fun page row => ?_⟩
  exact (publish_dirty s page row).2 (.inl (hdirty page row))

theorem Port.powerOn_reset : PortReset Port.powerOn := ⟨rfl, rfl, rfl, rfl, rfl, rfl, rfl⟩

/-! ## The blocks after a power-on reset -/

theorem Controls.powerOn_reset : ScannerReset Controls.powerOn := by
  refine ⟨rfl, rfl, vector_get_replicate _, rfl, rfl, rfl, rfl, rfl, rfl, rfl, rfl, fun i => ?_⟩
  simp only [Controls.powerOn, Vector.get_ofFn, and_self]

theorem Converter.noResults_get (i : Fin 7) : Converter.noResults.get i = ⟨i, 0, .invalid⟩ := Vector.get_ofFn _ _

theorem Converter.powerOn_reset : ConverterReset Converter.powerOn 0 := ⟨rfl, rfl, rfl, rfl, rfl, Converter.noResults_get⟩

theorem Lens.powerOn_reset : LensReset Lens.powerOn := by
  refine ⟨rfl, rfl, rfl, rfl, rfl, rfl, rfl, fun ax => ?_⟩
  cases ax <;> exact ⟨rfl, rfl, rfl, rfl, rfl, rfl, rfl, rfl, rfl, rfl, rfl, rfl, rfl⟩

theorem Stabiliser.powerOn_reset : StabReset Stabiliser.powerOn := by
  refine ⟨rfl, rfl, rfl, rfl, rfl, rfl, rfl, rfl, fun x hx => ?_⟩
  have hx : x = GyroAxis.powerOn := hx.elim id id
  subst hx
  exact ⟨rfl, rfl, rfl, rfl, rfl, rfl, rfl, rfl⟩

theorem Recorder.powerOn_reset (p : Pins) : RecorderReset p (Recorder.powerOn p) := by
  refine ⟨rfl, rfl, rfl, rfl, rfl, rfl, rfl, rfl, rfl, rfl, rfl, rfl, fun sl => ?_⟩
  cases sl <;> exact ⟨rfl, rfl, rfl, rfl, rfl⟩

theorem ChannelRec.powerOn_reset : ChannelReset ChannelRec.powerOn := ⟨rfl, rfl, rfl, rfl, rfl, rfl, rfl, rfl, rfl, rfl, rfl⟩

theorem Overlay.powerOn_reset (p : Pins) : OverlayReset (Overlay.powerOn p) := by
  refine ⟨rfl, rfl, rfl, fun page row => ?_⟩
  simp only [Overlay.powerOn, Page.powerOn, vector_get_replicate]

theorem Supply.powerOn_reset : SupplyReset Supply.powerOn := ⟨rfl, rfl, rfl, rfl, rfl, rfl, rfl, rfl, rfl, rfl, rfl, rfl, rfl⟩

/-! ## The keymap of R11 -/

theorem Keymap.default_is : DefaultKeymap Keymap.default := by
  have hplain (i : Fin 24) : Keymap.default.plain.get i = bareEntry (Keymap.defaultPlain i) := Vector.get_ofFn _ _
  have hassign (i : Fin 24) : Keymap.default.assign.get i = bareEntry (Keymap.defaultAssign i) := Vector.get_ofFn _ _
  have hmenu (i : Fin 24) : Keymap.default.menu.get i = bareEntry (Keymap.defaultMenu i) := Vector.get_ofFn _ _
  simp only [DefaultKeymap, hplain, hassign, hmenu]
  refine ⟨by decide, by decide, by decide, by decide⟩

/-! ## The blocks after a warm reset -/

theorem Controls.warm_reset (c : Controls) : ScannerReset c.warm := by
  refine ⟨rfl, rfl, vector_get_replicate _, rfl, rfl, rfl, rfl, rfl, rfl, rfl, rfl, fun i => ?_⟩
  simp only [Controls.warm, vmap, Vector.get_ofFn, and_self]

theorem Controls.warm_keeps (c : Controls) : c.warm.keymap = c.keymap ∧ c.warm.rocker.params = c.rocker.params ∧
    c.warm.beepEnable = c.beepEnable ∧ ∀ i, (c.warm.switches.get i).config = (c.switches.get i).config := by
  simp only [Controls.warm, vmap, Vector.get_ofFn, implies_true, and_self]

theorem Converter.warm_reset (c : Converter) (now : Nat) : ConverterReset (c.warm now) now :=
  ⟨rfl, rfl, rfl, rfl, rfl, Converter.noResults_get⟩

theorem Converter.warm_keeps (c : Converter) (now : Nat) :
    (c.warm now).enables = c.enables ∧ (c.warm now).offset = c.offset := by
  simp only [Converter.warm, and_self]

theorem AxisRec.warm_keeps (a : AxisRec) : a.warm.position = a.position ∧ a.warm.span = a.span := by
  simp only [AxisRec.warm, AxisRec.powerOn, and_self]

theorem Lens.warm_keeps (l : Lens) : l.warm.presets = l.presets ∧ l.warm.zoomVmax = l.zoomVmax ∧
    l.warm.presetSpeed = l.presetSpeed ∧ l.warm.zoomGap = l.zoomGap ∧ l.warm.focusGap = l.focusGap ∧ l.warm.mode = l.mode := by
  simp only [Lens.warm, and_self]

theorem Lens.warm_reset (l : Lens) : LensReset l.warm := by
  refine ⟨rfl, rfl, rfl, rfl, rfl, rfl, rfl, fun ax => ?_⟩
  cases ax <;> exact ⟨rfl, rfl, rfl, rfl, rfl, rfl, rfl, rfl, rfl, rfl, rfl, rfl, rfl⟩

theorem Stabiliser.warm_reset (t : Stabiliser) (gyro : Bool) : StabReset (t.warm gyro) := by
  refine ⟨rfl, rfl, rfl, rfl, rfl, rfl, rfl, rfl, fun x hx => ?_⟩
  rcases hx with rfl | rfl <;> exact ⟨rfl, rfl, rfl, rfl, rfl, rfl, rfl, rfl⟩

theorem Stabiliser.warm_keeps (t : Stabiliser) (gyro : Bool) : (t.warm gyro).setting = t.setting ∧ (t.warm gyro).gains = t.gains ∧
    (t.warm gyro).yaw.z = t.yaw.z ∧ (t.warm gyro).pitch.z = t.pitch.z ∧
    (t.warm gyro).state = (if t.setting then .standby else .off) ∧ (t.warm gyro).cond.gyroEnabled = gyro := by
  simp only [Stabiliser.warm, GyroAxis.warm, and_self]

theorem Recorder.warm_keeps (r : Recorder) (p : Pins) (now : Nat) : (r.warm p now).mode = r.mode ∧
    (r.warm p now).current = r.current ∧ (r.warm p now).bitrate = r.bitrate ∧ (r.warm p now).nextClip = r.nextClip ∧
    (r.warm p now).frontEnable = r.frontEnable := by
  simp only [Recorder.warm, and_self]

theorem Recorder.warm_reset (r : Recorder) (p : Pins) (now : Nat) : RecorderReset p (r.warm p now) := by
  refine ⟨rfl, rfl, rfl, rfl, rfl, rfl, rfl, rfl, rfl, rfl, rfl, rfl, fun sl => ?_⟩
  cases sl <;> exact ⟨rfl, rfl, rfl, rfl, rfl⟩

theorem ChannelRec.warm_reset (c : ChannelRec) (now : Nat) : ChannelReset (c.warm now) :=
  ⟨rfl, rfl, rfl, rfl, rfl, rfl, rfl, rfl, rfl, rfl, rfl⟩

/-- A channel keeps its settings; one with the 48 V input settles, and its gain rests at 0 meanwhile (R156, R161). -/
theorem ChannelRec.warm_keeps (c : ChannelRec) (now : Nat) : (c.warm now).input = c.input ∧ (c.warm now).source = c.source ∧
    (c.warm now).limiter = c.limiter ∧ (c.warm now).agcMax = c.agcMax ∧ (c.warm now).setGain = c.setGain ∧
    (c.warm now).settling = (if c.input = .mic48 then some (now + 500000) else none) ∧
    (c.warm now).applied = (if c.input = .mic48 then 0 else c.setGain) ∧ ChannelReset (c.warm now) := by
  refine ⟨rfl, rfl, rfl, rfl, rfl, rfl, ?_, ChannelRec.warm_reset c now⟩
  by_cases h : c.input = .mic48 <;> simp [ChannelRec.warm, ChannelRec.apply, appliedGain, ChannelRec.powerOn, h]

theorem Audio.warm_keeps (t : Audio) (now : Nat) :
    (t.warm now).link = t.link ∧ (t.warm now).missed = 0 ∧ (t.warm now).replacements = 0 := by
  simp only [Audio.warm, Audio.powerOn, and_self]

theorem Supply.warmed_keeps (p : Supply) : p.warmed.pwrHold = p.pwrHold ∧ p.warmed.thresholds = p.thresholds ∧
    p.warmed.resetKind = .warm := by
  simp only [Supply.warmed, and_self]

theorem Overlay.warm_page (o : Overlay) (page : Fin 4) : o.warm.pages.get page = { o.pages.get page with dirty := .replicate 16 true } :=
  Vector.get_ofFn _ _

theorem Overlay.warm_reset (o : Overlay) : OverlayReset o.warm := by
  refine ⟨rfl, rfl, rfl, fun page row => ?_⟩
  rw [Overlay.warm_page, vector_get_replicate]

theorem Supply.warmed_reset (p : Supply) : SupplyReset p.warmed := ⟨rfl, rfl, rfl, rfl, rfl, rfl, rfl, rfl, rfl, rfl, rfl, rfl, rfl⟩

/-- A warm reset closes an OPEN record UNCONFIRMED with the end label of its stop, or the present one (R130, R144). -/
theorem State.resetLog_eq (s : State) : s.resetLog = ⟨s.log.records.map (fun r => if r.state = .opened then
    { r with
      state := .unconfirmed
      endLabel := some (if s.recorder.state = .stopping then s.recorder.endLabel.getD s.tc.stamp else s.tc.stamp) }
    else r), false, false⟩ := by
  have hl : s.resetEndLabel = if s.recorder.state = .stopping then s.recorder.endLabel.getD s.tc.stamp else s.tc.stamp := by
    unfold State.resetEndLabel
    cases s.recorder.state <;> rfl
  rw [← hl]
  rfl

/-- After a warm reset the warning set holds FSYNC_LOST at most (R100). -/
theorem warnings_afterWarm (lost : Bool) (k : WarnKind) :
    (Warnings.empty.setEntry (if lost then .placed else .absent) .fsyncLost).entry k =
      if k = .fsyncLost ∧ lost = true then .placed else .absent := by
  cases k <;> cases lost <;> rfl

theorem settle_entry_place (s : State) (k : FieldKind) :
    ((settle s).ovl.fields.entry k).enable = (s.ovl.fields.entry k).enable ∧
    ((settle s).ovl.fields.entry k).page = (s.ovl.fields.entry k).page ∧
    ((settle s).ovl.fields.entry k).row = (s.ovl.fields.entry k).row ∧
    ((settle s).ovl.fields.entry k).column = (s.ovl.fields.entry k).column := by
  rw [settle_entry]
  exact ⟨rfl, rfl, rfl, rfl⟩

/-- A warm reset, block by block (R190); the warning set is all that FSYNC_LOST touches (R100, note b). -/
theorem State.warmReset_eq (s : State) : s.warmReset =
    { pins := s.pins, controls := s.controls.warm, conv := s.conv.warm s.clock, lens := s.lens.warm
      stab := s.stab.warm (s.conv.enables.get 0 && s.conv.enables.get 1), tc := s.tc.warm
      recorder := s.recorder.warm s.pins s.clock, log := s.resetLog, audio := s.audio.warm s.clock
      ovl := { s.ovl.warm with
        warnings := Warnings.empty.setEntry (if !s.tc.present then .placed else .absent) .fsyncLost }
      supply := s.supply.warmed, port := .powerOn, clock := s.clock, pending := s.pending } := by
  simp only [State.warmReset, State.condition, State.setWarned, State.warmBlocks, Overlay.warm]

/-- What a power-on reset leaves (R190). -/
theorem exec_powerOnReset_eq (s : State) : exec .powerOnReset s = .next (settle { State.powerOn s.pins with pending := s.pending }) := rfl

theorem exec_warmReset_eq (s : State) : exec .warmReset s = .next (settle s.warmReset) := rfl

/-- Settles O50: each block's value after either reset has the rows of its table; the end of the step keeps them. -/
theorem resetsLeaveTheirTables : Obligations.ResetsLeaveTheirTables := by
  refine ⟨fun s => ?_, fun s => ?_⟩
  · refine ⟨_, exec_powerOnReset_eq s, ?_⟩
    obtain ⟨u, hu⟩ : ∃ u : State, u = { State.powerOn s.pins with pending := s.pending } := ⟨_, rfl⟩
    have ho : u.ovl = Overlay.powerOn s.pins := by rw [hu]; rfl
    rw [← hu]
    have hover : OverlayReset (settle u).ovl := OverlayReset.settled (by rw [ho]; exact Overlay.powerOn_reset _)
    have hport : (settle u).port = .powerOn := by
      show u.port.kick = _
      rw [hu]
      rfl
    have hdisp : (settle u).ovl.displayed = 0 := by rw [settle_displayed, ho]; rfl
    have hcell (page row column) : (settle u).ovl.hostCell page row column = ⟨0x20, .normal⟩ := by
      rw [settle_hostCell, ho]
      simp only [Overlay.hostCell, Overlay.powerOn, Page.powerOn, vector_get_replicate, Cell.blank]
    have hcursor (page : Fin 4) : ((settle u).ovl.pages.get page).cursor = ⟨0, 0, false⟩ := by
      rw [settle_cursor, ho]
      simp only [Overlay.powerOn, Page.powerOn, vector_get_replicate]
    have hwarn (k) : (settle u).ovl.warnings.entry k = .absent := by
      rw [settle_warnings, ho]
      cases k <;> rfl
    have hplace (k) : ((settle u).ovl.fields.entry k).enable = false ∧ ((settle u).ovl.fields.entry k).page = 0 ∧
        ((settle u).ovl.fields.entry k).row = 0 ∧ ((settle u).ovl.fields.entry k).column = 0 := by
      obtain ⟨he, hp, hr, hc⟩ := settle_entry_place u k
      rw [he, hp, hr, hc, ho]
      cases k <;> exact ⟨rfl, rfl, rfl, rfl⟩
    have hconfig (i) : ((settle u).controls.switches.get i).config =
        ⟨true, .activeLow, if i.val = 4 ∨ i.val = 5 then .latching else .momentary, decide (i.val = 0 ∨ i.val = 1)⟩ := by
      have hw : u.controls.switches.get i = ⟨.powerOn i, false, 0, 0, none⟩ := by
        rw [hu]
        exact Vector.get_ofFn _ _
      exact congrArg Switch.config hw
    have hch (ch) : (settle u).audio.channel ch = .powerOn := by
      show u.audio.channel ch = _
      rw [hu]
      cases ch <;> rfl
    simp only [hch]
    subst hu
    exact ⟨rfl, rfl, rfl, Controls.powerOn_reset, Converter.powerOn_reset, Lens.powerOn_reset, Stabiliser.powerOn_reset,
      Recorder.powerOn_reset _, hover, Supply.powerOn_reset, hport ▸ Port.powerOn_reset, rfl, rfl, rfl, vector_get_replicate _, rfl,
      hconfig, Keymap.default_is, rfl, rfl, rfl, rfl, rfl, rfl, vector_get_replicate _, rfl, rfl, rfl, rfl, rfl, rfl, rfl, rfl, rfl,
      rfl, Vector.get_ofFn _, rfl, rfl, rfl, rfl, rfl, rfl, rfl,
      fun _ => ⟨rfl, rfl, rfl, rfl, rfl, rfl, rfl, ChannelRec.powerOn_reset⟩, rfl, rfl, rfl, hdisp, hcell, hcursor, hplace, hwarn⟩
  · refine ⟨_, exec_warmReset_eq s, ?_⟩
    rw [State.warmReset_eq]
    obtain ⟨u, hu⟩ : ∃ u : State, u =
      { pins := s.pins, controls := s.controls.warm, conv := s.conv.warm s.clock, lens := s.lens.warm
        stab := s.stab.warm (s.conv.enables.get 0 && s.conv.enables.get 1), tc := s.tc.warm
        recorder := s.recorder.warm s.pins s.clock, log := s.resetLog, audio := s.audio.warm s.clock
        ovl := { s.ovl.warm with
          warnings := Warnings.empty.setEntry (if !s.tc.present then .placed else .absent) .fsyncLost }
        supply := s.supply.warmed, port := .powerOn, clock := s.clock, pending := s.pending } := ⟨_, rfl⟩
    have ho : u.ovl = { s.ovl.warm with
        warnings := Warnings.empty.setEntry (if !s.tc.present then .placed else .absent) .fsyncLost } := by rw [hu]
    rw [← hu]
    have hover : OverlayReset (settle u).ovl := OverlayReset.settled (by rw [ho]; exact Overlay.warm_reset s.ovl)
    have hport : (settle u).port = .powerOn := by
      show u.port.kick = _
      rw [hu]
      rfl
    have hdisp : (settle u).ovl.displayed = if s.ovl.menu then s.ovl.saved.getD s.ovl.displayed else s.ovl.displayed := by
      rw [settle_displayed, ho]
      rfl
    have hpage (page : Fin 4) : u.ovl.pages.get page = { s.ovl.pages.get page with dirty := .replicate 16 true } := by
      rw [ho]
      exact Overlay.warm_page s.ovl page
    have hcell (page row column) : (settle u).ovl.hostCell page row column = s.ovl.hostCell page row column := by
      rw [settle_hostCell, Overlay.hostCell, hpage]
      rfl
    have hcursor (page : Fin 4) : ((settle u).ovl.pages.get page).cursor = (s.ovl.pages.get page).cursor := by
      rw [settle_cursor, hpage]
    have hplace (k) := settle_entry_place u k
    have hfields : u.ovl.fields = s.ovl.fields := by rw [ho]; rfl
    simp only [hfields] at hplace
    have hwarn (k) : (settle u).ovl.warnings.entry k = if k = .fsyncLost ∧ s.tc.present = false then .placed else .absent := by
      rw [settle_warnings, ho]
      refine (warnings_afterWarm _ k).trans (if_congr ?_ rfl rfl)
      rw [Bool.not_eq_true']
    have hch (ch) : (settle u).audio.channel ch = (s.audio.channel ch).warm s.clock := by
      show u.audio.channel ch = _
      rw [hu]
      cases ch <;> rfl
    have hax (ax) : (settle u).axis ax = (s.axis ax).warm := by
      show u.axis ax = _
      rw [hu]
      cases ax <;> rfl
    have hblocks : (settle u).pending = s.pending ∧ (settle u).pins = s.pins ∧ (settle u).clock = s.clock ∧
        (settle u).controls = s.controls.warm ∧ (settle u).conv = s.conv.warm s.clock ∧ (settle u).lens = s.lens.warm ∧
        (settle u).stab = s.stab.warm (s.conv.enables.get 0 && s.conv.enables.get 1) ∧ (settle u).tc = s.tc.warm ∧
        (settle u).recorder = s.recorder.warm s.pins s.clock ∧ (settle u).log = s.resetLog ∧
        (settle u).audio = s.audio.warm s.clock ∧ (settle u).supply = s.supply.warmed := by
      simp only [settle, publish, hu, and_self]
    obtain ⟨hpending, hpins, hclock, hcontrols, hconv, hlens, hstab, htc, hrec, hlog, haudio, hsupply⟩ := hblocks
    simp only [hch, hax]
    simp only [hpending, hpins, hclock, hcontrols, hconv, hlens, hstab, htc, hrec, hlog, haudio, hsupply, hport, true_and]
    obtain ⟨hs1, hs2, hs3⟩ := Supply.warmed_keeps s.supply
    obtain ⟨hv1, hv2⟩ := Converter.warm_keeps s.conv s.clock
    obtain ⟨hk1, hk2, hk3, hk4⟩ := Controls.warm_keeps s.controls
    obtain ⟨hl1, hl2, hl3, hl4, hl5, hl6⟩ := Lens.warm_keeps s.lens
    obtain ⟨hg1, hg2, hg3, hg4, hg5, hg6⟩ := Stabiliser.warm_keeps s.stab (s.conv.enables.get 0 && s.conv.enables.get 1)
    obtain ⟨hr1, hr2, hr3, hr4, hr5⟩ := Recorder.warm_keeps s.recorder s.pins s.clock
    obtain ⟨ha1, ha2, ha3⟩ := Audio.warm_keeps s.audio s.clock
    exact ⟨Controls.warm_reset _, Converter.warm_reset _ _, Lens.warm_reset _, Stabiliser.warm_reset _ _,
      Recorder.warm_reset _ _ _, hover, Supply.warmed_reset _, Port.powerOn_reset, hs1, hs2, hs3, hv1, hv2, hk4, hk1, hk2, hk3,
      fun _ => AxisRec.warm_keeps _, hl1, hl2, hl3, hl4, hl5, hl6, hg1, hg2, hg3, hg4, hg5, hg6, rfl, hr1, hr2, hr3, hr4, hr5,
      State.resetLog_eq s, fun _ => ChannelRec.warm_keeps _ _, ha1, ha2, ha3, hdisp, hcell, hcursor, hplace, hwarn⟩

end Sys2Proof.Machine

/-! Encoder edges and the events of a homing run (O58). -/

namespace Sys2Proof.Machine

/-! ## Encoder edges -/

/-- The direction of an edge, from the levels before it (R38). -/
theorem positiveEdge_toggle (l : Levels) (line : EncoderLine) : positiveEdge (l.toggle line) line =
    match line with | .a => decide (l.a = l.b) | .b => decide (l.a ≠ l.b) := by
  obtain ⟨a, b⟩ := l
  cases line <;> cases a <;> cases b <;> rfl

theorem countPosition_eq {p q : Int} {up : Bool} (h : q = if up then p + 1 else p - 1) (h1 : -2147483648 ≤ q) (h2 : q ≤ 2147483647) :
    countPosition p up = q := by
  subst h
  exact if_pos ⟨h1, h2⟩

/-- The speed capture writes the measured speed and the capture (R40). -/
theorem AxisRec.captureEdge_frame (a : AxisRec) (now : Nat) (up : Bool) : a.captureEdge now up =
    { a with measured := (a.captureEdge now up).measured, capture := (a.captureEdge now up).capture } := by
  unfold AxisRec.captureEdge
  split
  · rfl
  · split_ifs <;> rfl

/-- A capture begins at an edge without one in hand, and at an edge the other way (R40). -/
theorem AxisRec.captureEdge_begins {a : AxisRec} {now : Nat} {up : Bool}
    (h : a.capture = none ∨ ∃ c, a.capture = some c ∧ c.positive ≠ up) :
    (a.captureEdge now up).measured = a.measured ∧ (a.captureEdge now up).capture =
      some ⟨if a.measured.natAbs < 500 then 1 else if a.measured.natAbs < 4000 then 4 else 16, 0, now, up⟩ := by
  obtain h | ⟨c, h, hc⟩ := h
  · simp only [AxisRec.captureEdge, h]
    exact ⟨trivial, rfl⟩
  · simp only [AxisRec.captureEdge, h, if_pos hc]
    exact ⟨trivial, rfl⟩

/-- An edge within a capture is counted (R40). -/
theorem AxisRec.captureEdge_counts {a : AxisRec} {c : Capture} {now : Nat} {up : Bool} (h : a.capture = some c) (hc : c.positive = up)
    (hn : c.count + 1 < c.n) :
    (a.captureEdge now up).measured = a.measured ∧ (a.captureEdge now up).capture = some { c with count := c.count + 1 } := by
  simp [AxisRec.captureEdge, h, hc, hn]

/-- The last edge of a capture gives the speed, and the next capture begins at it (R40). -/
theorem AxisRec.captureEdge_measures {a : AxisRec} {c : Capture} {now : Nat} {up : Bool} (h : a.capture = some c) (hc : c.positive = up)
    (hn : c.n ≤ c.count + 1) (ht : c.start < now) :
    (a.captureEdge now up).measured =
      (if up then ((c.n * 1000000 / (now - c.start) : Nat) : Int) else -((c.n * 1000000 / (now - c.start) : Nat) : Int)) ∧
    (a.captureEdge now up).capture = some
      ⟨if c.n * 1000000 / (now - c.start) < 500 then 1 else if c.n * 1000000 / (now - c.start) < 4000 then 4 else 16, 0, now, up⟩ := by
  have hs : speedOf c.n (now - c.start) = c.n * 1000000 / (now - c.start) := if_neg (by omega)
  have hcount : ¬c.count + 1 < c.n := by omega
  generalize c.n * 1000000 / (now - c.start) = v at hs ⊢
  simp only [AxisRec.captureEdge, h, hc, hcount, if_false, hs, ne_eq, not_true, Capture.begin, captureEdges]
  cases up <;> simp

theorem exec_motorEncoderEdge {ax : Axis} {line : EncoderLine} {time now : Nat} {s : State} {a : AxisRec} {l : Levels} {up : Bool}
    {position : Int} (ha : s.axis ax = a) (hl : s.pins.motor ax = l) (hn : now = max s.clock time)
    (hup : up = match line with | .a => decide (l.a = l.b) | .b => decide (l.a ≠ l.b))
    (hp : position = if up then a.position + 1 else a.position - 1) (h1 : -2147483648 ≤ position) (h2 : position ≤ 2147483647) :
    exec (.motorEncoderEdge ax line time) s = .next (settle { s with
      clock := now
      pins := s.pins.setMotor (l.toggle line) ax
      lens := s.lens.setAxis (({ a with position := position, lastEdge := some now } : AxisRec).captureEdge now up) ax }) := by
  rw [← positiveEdge_toggle] at hup
  subst hup ha hl hn
  rw [← countPosition_eq hp h1 h2]
  rfl

/-! ## The end of a seek phase -/

theorem AxisRec.phase_of_homing {a : AxisRec} {p : HomingPhase} (h : a.homing = .homing p) : a.phase = some p := by
  unfold AxisRec.phase
  rw [h]

theorem exec_seekEnd_other {ax : Axis} {s : State} {a : AxisRec} (ha : s.axis ax = a)
    (h : (∀ p, a.homing ≠ .homing p) ∨ a.homing = .homing .park) : exec (.seekEnd ax) s = .next (settle s) := by
  show execSeekEnd ax s = _
  rw [execSeekEnd, ha]
  cases hh : a.homing with
  | homing p =>
    obtain h | h := h
    · exact absurd hh (h p)
    · rw [AxisRec.phase_of_homing h]
      rfl
  | unhomed | homed | abandoned => simp only [AxisRec.phase, hh]; rfl

theorem exec_seekEnd_near {ax : Axis} {s : State} {a : AxisRec} (ha : s.axis ax = a) (h : a.homing = .homing .seekNear) :
    exec (.seekEnd ax) s = .next (settle ((s.atTime a.seekEnd).seekNearEnd ax)) := by
  show execSeekEnd ax s = _
  rw [execSeekEnd, ha, AxisRec.phase_of_homing h]
  rfl

theorem exec_seekEnd_far {ax : Axis} {s : State} {a : AxisRec} (ha : s.axis ax = a) (h : a.homing = .homing .seekFar) :
    exec (.seekEnd ax) s = .next (settle ((s.atTime a.seekEnd).seekFarEnd ax)) := by
  show execSeekEnd ax s = _
  rw [execSeekEnd, ha, AxisRec.phase_of_homing h]
  rfl

/-- The end of SEEK_FAR at a span that is not accepted abandons the run (R49, R50). -/
theorem State.seekFarEnd_abandons {ax : Axis} {s : State} (h : spanAccepted ax (s.axis ax).position = false) :
    s.seekFarEnd ax = (s.setAxis ax (s.axis ax).stand).abandonHoming ax .span :=
  if_neg (Bool.eq_false_iff.1 h)

theorem exec_homingTimeout {ax : Axis} {s : State} {t : Nat} (h : (s.axis ax).homingTimer = some t) :
    exec (.homingTimeout ax) s = .next (settle ((s.atTime t).abandonHoming ax .timeout)) := by
  show execHomingTimeout ax s = _
  rw [execHomingTimeout, h]
  rfl

theorem exec_driveTimerExpiry_idle {s : State} (h : s.lens.driveTimer = none ∨ s.lens.zoom.move ≠ some .drive) :
    exec .driveTimerExpiry s = .next (settle s) := by
  show execDriveTimerExpiry s = _
  rw [execDriveTimerExpiry]
  cases ht : s.lens.driveTimer with
  | none => rfl
  | some t => exact congrArg finish (if_neg (h.resolve_left (by simp [ht])))

theorem exec_driveTimerExpiry {s : State} {t : Nat} (h : s.lens.driveTimer = some t) (hm : s.lens.zoom.move = some .drive)
    (ho : s.lens.zoom.owner = .remote) : exec .driveTimerExpiry s = .next (settle { s with
      clock := max s.clock t
      lens.zoom := { s.lens.zoom with
        owner := .none, move := none, target := none, gotoSpeed := none, driveSpeed := 0, pause := none, vcmd := 0 }
      lens.driveTimer := none
      port := s.port.post (.motionDone .zoom .elapsed .remote s.lens.zoom.position) }) := by
  have hp : heldEnds s.port .zoom .elapsed s.lens.zoom = s.port.post (.motionDone .zoom .elapsed .remote s.lens.zoom.position) := by
    rw [heldEnds, ho]
  show execDriveTimerExpiry s = _
  rw [execDriveTimerExpiry, h, ← hp]
  refine congrArg finish ((if_pos hm).trans ?_)
  rw [State.driveElapsed, State.endHold_eq]
  rfl

/-- Settles O58: an edge by its direction and the state of the capture; a seek phase by its kind and the span measured. -/
theorem edgesAndHomingEventsAreTaken : Obligations.EdgesAndHomingEventsAreTaken := by
  unfold Obligations.EdgesAndHomingEventsAreTaken
  intro ax s a ha
  refine ⟨fun line time now l up position hl hn hup hp h1 h2 => ?_, exec_seekEnd_other ha, fun now hn => ?_, fun h => ?_,
    fun t v ht hv => ?_, exec_driveTimerExpiry_idle, fun t => exec_driveTimerExpiry⟩
  · refine ⟨_, exec_motorEncoderEdge ha hl hn hup hp h1 h2, ?_⟩
    obtain ⟨b, hb⟩ : ∃ b : AxisRec, b = { a with position := position, lastEdge := some now } := ⟨_, rfl⟩
    rw [← hb]
    have hc : b.capture = a.capture := by rw [hb]
    have hm : b.measured = a.measured := by rw [hb]
    simp only [State.axis, Lens.setAxis_axis]
    refine ⟨?_, fun h => ?_, fun c h hcp hcn => ?_, fun c h hcp hcn hcs => AxisRec.captureEdge_measures (hc.trans h) hcp hcn hcs⟩
    · rw [AxisRec.captureEdge_frame b now up, hb]
      cases line <;> rfl
    · rw [← hm]
      exact AxisRec.captureEdge_begins (by rwa [hc])
    · rw [← hm]
      exact AxisRec.captureEdge_counts (hc.trans h) hcp hcn
  · have hclock : now = max s.clock a.seekEnd := hn
    refine ⟨fun h => ?_, fun h hspan => ?_, fun h hspan hax => ?_, fun h hspan hax => ?_⟩
    · rw [exec_seekEnd_near ha h]
      subst ha hclock
      rfl
    · rw [exec_seekEnd_far ha h]
      subst ha hclock
      refine congrArg finish ((if_pos hspan).trans ?_)
      cases ax <;> rfl
    · rw [exec_seekEnd_far ha h]
      subst ha hclock hax
      exact congrArg finish (State.seekFarEnd_abandons (s := s.atTime (s.axis .focus).seekEnd) hspan)
    · subst ha hclock hax
      refine ⟨_, ?_, exec_seekEnd_far rfl h⟩
      rw [State.seekFarEnd_abandons (s := s.atTime (s.axis .zoom).seekEnd) hspan]
      exact (State.abandonHoming_abandons .zoom .span
        ((s.atTime (s.axis .zoom).seekEnd).setAxis .zoom (s.axis .zoom).stand) _ rfl).2 rfl
  · show execHomingTimeout ax s = _
    rw [execHomingTimeout, ha, h]
    rfl
  · subst ha
    obtain ⟨hf, hz⟩ := State.abandonHoming_abandons ax .timeout (s.atTime t) v hv
    refine ⟨fun hax => ?_, fun hax => ?_⟩
    · subst hax
      rw [exec_homingTimeout ht, hf rfl]
    · subst hax
      exact ⟨_, hz rfl, exec_homingTimeout ht⟩

end Sys2Proof.Machine

/-! Frame events, row batches and the viewfinder (O59). -/

namespace Sys2Proof.Machine

/-! ## The batch of a frame event -/

theorem Overlay.mem_dirtyRows (o : Overlay) (r : Fin 16) : r ∈ o.dirtyRows ↔ (o.pages.get o.displayed).dirty.get r = true := by
  simp [Overlay.dirtyRows]

theorem Overlay.dirtyRows_pairwise (o : Overlay) : o.dirtyRows.Pairwise (· < ·) := (List.pairwise_lt_finRange 16).filter _

/-- A list in rising order is its first four and larger ones after them. -/
theorem pairwise_take_four {l : List (Fin 16)} {first : Fin 16} {rest : List (Fin 16)} (hl : l.Pairwise (· < ·))
    (h : l.take 4 = first :: rest) : rest.length ≤ 3 ∧ (first :: rest).Pairwise (· < ·) ∧ (∀ r ∈ first :: rest, r ∈ l) ∧
      ∀ r ∈ l, r ∉ first :: rest → rest.length = 3 ∧ ∀ x ∈ first :: rest, x < r := by
  have hlen : (first :: rest).length = min 4 l.length := by rw [← h, List.length_take]
  rw [List.length_cons] at hlen
  have happ : first :: rest ++ l.drop 4 = l := by rw [← h, List.take_append_drop]
  rw [← happ, List.pairwise_append] at hl
  obtain ⟨hfirst, -, hlt⟩ := hl
  refine ⟨by omega, hfirst, fun r hr => ?_, fun r hr hn => ?_⟩
  · rw [← happ]
    exact List.mem_append_left _ hr
  · rw [← happ] at hr
    have hdrop := (List.mem_append.1 hr).resolve_left hn
    have : 0 < (l.drop 4).length := List.length_pos_of_mem hdrop
    rw [List.length_drop] at this
    exact ⟨by omega, fun x hx => hlt x hx r hdrop⟩

/-- A frame event starts a batch where the four conditions hold (R177). -/
theorem Overlay.frameEvent_starts (o : Overlay) : BatchStarts o o.frameEvent := by
  refine ⟨fun h => if_neg ?_, fun hp hv hb hd => ?_⟩
  · rintro ⟨hp, hv, hb, hd⟩
    obtain h | h | h | h := h
    · exact h hp
    · rw [hv] at h
      cases h
    · exact h hb
    · obtain ⟨r, hr⟩ := List.exists_mem_of_ne_nil _ hd
      rw [Overlay.mem_dirtyRows, h r] at hr
      cases hr
  · obtain ⟨r, hr⟩ := hd
    rw [← Overlay.mem_dirtyRows] at hr
    have hne : o.dirtyRows ≠ [] := List.ne_nil_of_mem hr
    obtain ⟨first, rest, hfirst⟩ : ∃ first rest, o.dirtyRows.take 4 = first :: rest :=
      List.exists_cons_of_ne_nil (by simpa using hne)
    obtain ⟨h1, h2, h3, h4⟩ := pairwise_take_four o.dirtyRows_pairwise hfirst
    simp only [Overlay.mem_dirtyRows] at h3 h4
    refine ⟨first, rest, h1, h2, h3, h4, ?_⟩
    refine (if_pos ⟨hp, hv, hb, hne⟩).trans ?_
    rw [hfirst]
    rfl

/-! ## The label -/

/-- Midnight is passed by the last label of the day alone (R88). -/
theorem advanceLabel_rolls (r : Rate) (l : Label) :
    (advanceLabel r l).2 = decide (23 ≤ l.hours ∧ 59 ≤ l.minutes ∧ 59 ≤ l.seconds ∧ countedRate r ≤ l.frames + 1) := by
  unfold advanceLabel
  split_ifs
  case neg => exact (decide_eq_true (by omega)).symm
  all_goals exact (decide_eq_false (by omega)).symm

theorem Timecode.advance_still {t : Timecode} (h : t.advances = false) : t.advance = t := by
  unfold Timecode.advance
  rw [h]
  rfl

theorem Timecode.advance_moves {t : Timecode} (h : t.advances = true) :
    t.advance = { t with label := (advanceLabel t.rate t.label).1, dayRoll := t.dayRoll || (advanceLabel t.rate t.label).2 } := by
  unfold Timecode.advance
  rw [h]
  rfl

/-- The fields of the reference do not enter the advance. -/
theorem Timecode.advance_reference (t : Timecode) (p : Bool) (w f : Option Nat) :
    ({ t with present := p, watch := w, frameTimer := f } : Timecode).advance =
      { t.advance with present := p, watch := w, frameTimer := f } := by
  cases h : t.advances with
  | false => rw [Timecode.advance_still h]; exact Timecode.advance_still h
  | true => rw [Timecode.advance_moves h]; exact Timecode.advance_moves h

theorem Timecode.advance_rate (t : Timecode) : t.advance.rate = t.rate ∧ t.advance.present = t.present := by
  unfold Timecode.advance
  split <;> exact ⟨rfl, rfl⟩

theorem Timecode.rollsOver_iff (t : Timecode) : t.rollsOver = true ↔ (t.runMode = .freeRun ∨ t.recState = .recording) ∧
    23 ≤ t.label.hours ∧ 59 ≤ t.label.minutes ∧ 59 ≤ t.label.seconds ∧ countedRate t.rate ≤ t.label.frames + 1 := by
  rw [Timecode.rollsOver, advanceLabel_rolls, Bool.and_eq_true, decide_eq_true_eq, Timecode.advances, decide_eq_true_eq]

/-- A rollover sets the day-roll flag of an OPEN record (R88). -/
theorem State.rollover_eq (s : State) : s.rollover = { s with
    log := if (s.tc.runMode = .freeRun ∨ s.tc.recState = .recording) ∧ 23 ≤ s.tc.label.hours ∧ 59 ≤ s.tc.label.minutes ∧
        59 ≤ s.tc.label.seconds ∧ countedRate s.tc.rate ≤ s.tc.label.frames + 1
      then { s.log with records := s.log.records.map fun r => if r.state = .opened then { r with dayRoll := true } else r }
      else s.log } := by
  unfold State.rollover
  split
  · next h => rw [if_pos ((Timecode.rollsOver_iff s.tc).1 h)]; rfl
  · next h => rw [if_neg (fun hn => h ((Timecode.rollsOver_iff s.tc).2 hn))]

/-- A frame event (R86, R88, R94, R177). -/
theorem State.frameEvent_taken (s : State) : FrameEvent s s.frameEvent := by
  refine ⟨_, _, ?_, Overlay.frameEvent_starts _, rfl⟩
  rw [State.rollover_eq]

/-! ## The table of the advance -/

theorem correctDropped_of_seconds {r : Rate} {l : Label} (h : l.seconds ≠ 0) : correctDropped r l = l :=
  if_neg (by simp [isDropped, h])

/-- The label of the next minute: frames 2 at 30DF but in each tenth (R87). -/
theorem correctDropped_minute (r : Rate) (h m : Nat) : correctDropped r ⟨h, m, 0, 0⟩ =
    ⟨h, m, 0, if r = .r30df ∧ m % 10 ≠ 0 then 2 else 0⟩ := by
  unfold correctDropped
  simp only [isDropped, decide_eq_true_eq, true_and, Nat.zero_lt_two]
  split_ifs <;> rfl

theorem correctDropped_hour (r : Rate) (h : Nat) : correctDropped r ⟨h, 0, 0, 0⟩ = ⟨h, 0, 0, 0⟩ := by
  rw [correctDropped_minute]
  simp

theorem advanceLabel_frame {r : Rate} {l : Label} (h : l.frames + 1 < countedRate r) :
    advanceLabel r l = ({ l with frames := l.frames + 1 }, false) := if_pos h

theorem advanceLabel_second {r : Rate} {l : Label} (h : l.frames + 1 = countedRate r) (hs : l.seconds < 59) :
    advanceLabel r l = ({ l with seconds := l.seconds + 1, frames := 0 }, false) := by
  unfold advanceLabel
  rw [if_neg (by omega), if_pos (by omega), correctDropped_of_seconds (Nat.succ_ne_zero _)]

theorem advanceLabel_minute {r : Rate} {l : Label} (h : l.frames + 1 = countedRate r) (hs : l.seconds = 59) (hm : l.minutes < 59) :
    advanceLabel r l = ({ l with
      minutes := l.minutes + 1, seconds := 0, frames := if r = .r30df ∧ (l.minutes + 1) % 10 ≠ 0 then 2 else 0 }, false) := by
  unfold advanceLabel
  rw [if_neg (by omega), if_neg (by omega), if_pos (by omega), correctDropped_minute]

theorem advanceLabel_hour {r : Rate} {l : Label} (h : l.frames + 1 = countedRate r) (hs : l.seconds = 59) (hm : l.minutes = 59)
    (hh : l.hours < 23) : advanceLabel r l = (⟨l.hours + 1, 0, 0, 0⟩, false) := by
  unfold advanceLabel
  rw [if_neg (by omega), if_neg (by omega), if_neg (by omega), if_pos (by omega), correctDropped_hour]

theorem advanceLabel_day {r : Rate} {l : Label} (h : l.frames + 1 = countedRate r) (hs : l.seconds = 59) (hm : l.minutes = 59)
    (hh : l.hours = 23) : advanceLabel r l = (⟨0, 0, 0, 0⟩, true) := by
  unfold advanceLabel
  rw [if_neg (by omega), if_neg (by omega), if_neg (by omega), if_neg (by omega)]

/-- The generator's label moves on within the day. -/
theorem Timecode.advance_of_label {t : Timecode} {l : Label} (ha : t.runMode = .freeRun ∨ t.recState = .recording)
    (h : advanceLabel t.rate t.label = (l, false)) : t.advance = { t with label := l } := by
  rw [Timecode.advance_moves (decide_eq_true ha), h, Bool.or_false]

/-! ## The reference -/

theorem framePeriod_eq (r : Rate) : framePeriod r = match r with | .r24 => 41667 | .r25 => 40000 | .r30 | .r30df => 33367 := by
  cases r <;> rfl

theorem State.frameEvent_tc (s : State) : s.frameEvent.tc = s.tc.advance := rfl

theorem State.frameEvent_supply (s : State) : s.frameEvent.supply = s.supply := by simp

theorem State.frameEvent_port (s : State) : s.frameEvent.port = s.port := by simp

/-- The first edge of a LOST reference (R92). -/
theorem exec_fsyncEdge_lost {s v : State} (h : s.tc.present = false)
    (hv : v = { s with tc.present := true, tc.frameTimer := none, tc.watch := some (s.clock + 100000) }) :
    exec .fsyncEdge s = finish v.frameEvent.referenceChanged := by
  subst hv
  exact congrArg finish (if_neg (by rw [h]; decide))

/-- A change of the reference is reported at once, but not in STANDBY (R93). -/
theorem State.referenceChanged_standby {s : State} (h : s.supply.power = .standby) : s.referenceChanged = s := if_pos h

theorem State.referenceChanged_reports {s : State} (h : s.supply.power ≠ .standby) : s.referenceChanged = { s with
    tc.reported := s.tc.present
    ovl.warnings.fsyncLost := if s.tc.present then .absent else .placed
    port := s.port.post (.fsyncState s.tc.present ⟨s.tc.label, decide (s.tc.rate = .r30df)⟩) } := by
  refine (if_neg h).trans ?_
  unfold State.reportReference
  cases s.tc.present <;> rfl

/-! ## Row messages and the viewfinder -/

theorem Overlay.setVfPresent_same (o : Overlay) : o.setVfPresent o.vfPresent = o := if_pos rfl

theorem Overlay.setVfPresent_on {o : Overlay} (h : o.vfPresent = false) :
    MarksRows { o with vfPresent := true } (o.setVfPresent true) o.displayed fun _ => true := by
  obtain ⟨he, hother, hcells, hcursor, hdirty⟩ := Overlay.markPage_marks o o.displayed
  have e : o.setVfPresent true = { o.markPage o.displayed with vfPresent := true } := by
    refine (if_neg (by rw [h]; decide)).trans (if_pos rfl)
  rw [e]
  exact ⟨by rw [he], hother, hcells, hcursor, hdirty⟩

theorem Overlay.setVfPresent_off {o : Overlay} (h : o.vfPresent = true) :
    o.setVfPresent false = { o with vfPresent := false, batch := o.batch.map fun b => { b with waiting := [] } } := by
  refine (if_neg (by rw [h]; decide)).trans (if_neg (by decide))

/-- Settles O59: the frame events by their source, the advance by the carry that ends it, the overlay's events by the batch and the
level. -/
theorem framesAdvanceAndRowsAreSent : Obligations.FramesAdvanceAndRowsAreSent := by
  refine ⟨fun s period hperiod => ?_, fun t ht => ?_, fun s => ?_⟩
  · have hperiod : period = framePeriod s.tc.rate := by
      rw [framePeriod_eq]
      exact hperiod
    subst hperiod
    refine ⟨fun h => ?_, fun h => ?_, fun h => ?_, fun t h hp => ?_, fun t h hp => ?_, fun h => ?_, fun t h => ?_⟩
    · exact ⟨_, State.frameEvent_taken _, congrArg finish (if_pos h)⟩
    · obtain ⟨v, hv⟩ : ∃ v : State, v = { s with
          tc.present := true, tc.frameTimer := none, tc.watch := some (s.clock + 100000) } := ⟨_, rfl⟩
      rw [← hv, exec_fsyncEdge_lost h hv]
      have hpower : v.frameEvent.supply.power = s.supply.power := by rw [v.frameEvent_supply, hv]
      refine ⟨_, State.frameEvent_taken v, fun hp => ?_, fun hp => ?_⟩
      · exact congrArg finish (State.referenceChanged_standby (hpower.trans hp))
      · refine (congrArg finish (State.referenceChanged_reports (by rw [hpower]; exact hp))).trans ?_
        obtain ⟨hrate, hpresent⟩ := v.tc.advance_rate
        have hport : v.port = s.port := by rw [hv]
        have hlabel : v.tc.advance.label = s.tc.advance.label := by rw [hv, Timecode.advance_reference]
        have hr : v.tc.rate = s.tc.rate := by rw [hv]
        have hp' : v.tc.present = true := by rw [hv]
        rw [v.frameEvent_port, v.frameEvent_tc, hrate, hpresent, hport, hlabel, hr, hp']
        rfl
    · show execFsyncWatchExpiry s = _
      rw [execFsyncWatchExpiry, h]
      rfl
    · show execFsyncWatchExpiry s = _
      rw [execFsyncWatchExpiry, h]
      exact congrArg finish (State.referenceChanged_reports hp)
    · show execFsyncWatchExpiry s = _
      rw [execFsyncWatchExpiry, h]
      exact congrArg finish (State.referenceChanged_standby hp)
    · show execInternalFrameTimerExpiry s = _
      rw [execInternalFrameTimerExpiry, h]
      rfl
    · refine ⟨_, State.frameEvent_taken _, ?_⟩
      show execInternalFrameTimerExpiry s = _
      rw [execInternalFrameTimerExpiry, h]
      rfl
  · refine ⟨fun hr hs => Timecode.advance_still (by simp [Timecode.advances, hr, hs]), fun ha => ⟨fun h => ?_, fun h hs => ?_,
      fun h hs hm => ?_, fun h hs hm hh => ?_, fun h hs hm hh => ?_⟩⟩
    · exact Timecode.advance_of_label ha (advanceLabel_frame h)
    · exact Timecode.advance_of_label ha (advanceLabel_second h hs)
    · exact Timecode.advance_of_label ha (advanceLabel_minute h hs hm)
    · exact Timecode.advance_of_label ha (advanceLabel_hour h hs hm hh)
    · rw [Timecode.advance_moves (decide_eq_true ha), advanceLabel_day h hs hm hh, Bool.or_true]
  · refine ⟨fun h => ?_, fun m h => ?_, fun m r rest h => ?_, ?_, fun h => ⟨_, rfl, Overlay.setVfPresent_on h⟩, fun h => ?_⟩
    · show execRowMessageEnd s = _
      rw [execRowMessageEnd, h]
      rfl
    · show execRowMessageEnd s = _
      rw [execRowMessageEnd, h]
      rfl
    · show execRowMessageEnd s = _
      rw [execRowMessageEnd, h]
      rfl
    · show execVfPresentChange s.ovl.vfPresent s = _
      rw [execVfPresentChange, Overlay.setVfPresent_same]
      rfl
    · show execVfPresentChange false s = _
      rw [execVfPresentChange, Overlay.setVfPresent_off h]
      rfl

end Sys2Proof.Machine

/-! The card lines (first part of O60). -/

namespace Sys2Proof.Machine

/-! ## Edges -/

theorem exec_cardLineEdge_same {sl : Slot} {line : CardLine} {level : Bool} {s : State} (h : s.pins.card sl line = level) :
    exec (.cardLineEdge sl line level) s = .next (settle s) := congrArg finish (if_pos h)

/-- A new level of a card line starts its 50 ms, or stops them at the accepted level (R102). -/
theorem exec_cardLineEdge_new {sl : Slot} {line : CardLine} {level : Bool} {s : State} (h : s.pins.card sl line ≠ level) :
    exec (.cardLineEdge sl line level) s = .next (settle { s with
      pins := s.pins.setCard level sl line
      recorder := s.recorder.setSlot ((s.recorder.slot sl).setLineTimer
        (if (s.recorder.slot sl).accepted line = level then none else some (s.clock + 50000)) line) sl }) :=
  congrArg finish (if_neg h)

/-! ## Insertions -/

theorem exec_cardLineAccepted_idle {sl : Slot} {line : CardLine} {s : State} (h : (s.recorder.slot sl).lineTimer line = none) :
    exec (.cardLineAccepted sl line) s = .next (settle s) := by
  show execCardLineAccepted sl line s = _
  rw [execCardLineAccepted, h]
  rfl

theorem exec_cardLineAccepted {sl : Slot} {line : CardLine} {s : State} {t : Nat}
    (h : (s.recorder.slot sl).lineTimer line = some t) : exec (.cardLineAccepted sl line) s =
      finish (((s.atTime t).setSlot sl ((s.recorder.slot sl).setLineTimer none line)).acceptLine sl line) := by
  show execCardLineAccepted sl line s = _
  rw [execCardLineAccepted, h]

/-- The part as an accepted insertion in an empty socket leaves it, the slot tests apart (R103). -/
def cardMounting (sl : Slot) (t : Nat) (s : State) : State :=
  { s with
    clock := max s.clock t
    recorder := s.recorder.setSlot { s.recorder.slot sl with
      detectTimer := none, present := true, state := .mounting, remaining := 0, lapsed := false
      mountTimer := some (max s.clock t + 10000000) } sl
    port := s.port.post (.cardInserted sl (s.recorder.slot sl).protect) }

theorem State.acceptLine_detect (sl : Slot) (u : State) :
    u.acceptLine sl .detect = if u.pins.detect sl then u.insertCard sl else u.removeCard sl := by
  unfold State.acceptLine
  have h : u.pins.card sl .detect = u.pins.detect sl := rfl
  rw [← h]
  cases u.pins.card sl .detect <;> rfl

theorem State.acceptLine_protect (sl : Slot) (u : State) :
    u.acceptLine sl .writeProtect = u.protectCard sl (u.pins.protect sl) := by
  unfold State.acceptLine
  have h : u.pins.card sl .writeProtect = u.pins.protect sl := rfl
  rw [← h]

theorem exec_inserted {sl : Slot} {s : State} {t : Nat} (h : (s.recorder.slot sl).detectTimer = some t)
    (hp : s.pins.detect sl = true) : exec (.cardLineAccepted sl .detect) s =
      finish (((s.atTime t).setSlot sl { s.recorder.slot sl with detectTimer := none }).insertCard sl) :=
  (exec_cardLineAccepted (line := .detect) h).trans (congrArg finish ((State.acceptLine_detect _ _).trans (if_pos hp)))

theorem exec_removed {sl : Slot} {s : State} {t : Nat} (h : (s.recorder.slot sl).detectTimer = some t)
    (hp : s.pins.detect sl = false) : exec (.cardLineAccepted sl .detect) s =
      finish (((s.atTime t).setSlot sl { s.recorder.slot sl with detectTimer := none }).removeCard sl) :=
  (exec_cardLineAccepted (line := .detect) h).trans
    (congrArg finish ((State.acceptLine_detect _ _).trans (if_neg (Bool.eq_false_iff.1 hp))))

theorem exec_inserted_mounts {sl : Slot} {s : State} {t : Nat} (h : (s.recorder.slot sl).detectTimer = some t)
    (hp : s.pins.detect sl = true) (he : (s.recorder.slot sl).state = .empty) :
    exec (.cardLineAccepted sl .detect) s = .next (settle (cardMounting sl t s).testSlots) := by
  rw [exec_inserted h hp]
  cases sl <;> exact congrArg finish (if_pos he)

theorem exec_inserted_stands {sl : Slot} {s : State} {t : Nat} (h : (s.recorder.slot sl).detectTimer = some t)
    (hp : s.pins.detect sl = true) (he : (s.recorder.slot sl).state ≠ .empty) :
    exec (.cardLineAccepted sl .detect) s = .next (settle { s with
      clock := max s.clock t
      recorder := s.recorder.setSlot { s.recorder.slot sl with detectTimer := none, present := true } sl }) := by
  rw [exec_inserted h hp]
  cases sl <;> exact congrArg finish (if_neg he)

/-! ## Removals -/

/-- The slot of a removed card (R106). -/
def removedSlot (x : SlotRec) : SlotRec :=
  { x with detectTimer := none, present := false, state := .empty, remaining := 0, mountTimer := none, lapsed := true }

/-- The part as an accepted removal leaves it before the recording takes it (R106). -/
def cardGone (sl : Slot) (t : Nat) (s : State) : State :=
  { s with
    clock := max s.clock t
    recorder := s.recorder.setSlot (removedSlot (s.recorder.slot sl)) sl
    port := s.port.post (.cardRemoved sl) }

theorem exec_removed_stands {sl : Slot} {s : State} {t : Nat} (h : (s.recorder.slot sl).detectTimer = some t)
    (hp : s.pins.detect sl = false) (he : (s.recorder.slot sl).state = .empty) :
    exec (.cardLineAccepted sl .detect) s = .next (settle { s with
      clock := max s.clock t
      recorder := s.recorder.setSlot { s.recorder.slot sl with detectTimer := none, present := false } sl }) := by
  rw [exec_removed h hp]
  cases sl <;> exact congrArg finish (if_pos he)

theorem exec_removed_active {sl : Slot} {s : State} {t : Nat} (h : (s.recorder.slot sl).detectTimer = some t)
    (hp : s.pins.detect sl = false) (ha : (s.recorder.slot sl).state = .active) :
    exec (.cardLineAccepted sl .detect) s =
      .next (settle ((cardGone sl t s).loseActive sl .removed .cardRemoved).testSlots) := by
  rw [exec_removed h hp]
  have he : (s.recorder.slot sl).state ≠ .empty := by rw [ha]; decide
  cases sl <;> exact congrArg finish ((if_neg he).trans (congrArg State.testSlots (if_pos ha)))

theorem exec_removed_other {sl : Slot} {s : State} {t : Nat} (h : (s.recorder.slot sl).detectTimer = some t)
    (hp : s.pins.detect sl = false) (ha : (s.recorder.slot sl).state ≠ .active) (he : (s.recorder.slot sl).state ≠ .empty) :
    exec (.cardLineAccepted sl .detect) s = .next (settle ((cardGone sl t s).reformStart .cardRemoved).testSlots) := by
  rw [exec_removed h hp]
  cases sl <;> exact congrArg finish ((if_neg he).trans (congrArg State.testSlots (if_neg ha)))

theorem cardGone_state (sl : Slot) (t : Nat) (s : State) : (cardGone sl t s).recorder.state = s.recorder.state :=
  Recorder.setSlot_state _ _ _

/-- A removal outside STARTING and RECORDING (R106, R125): the segment of an ACTIVE slot ends, and nothing else follows. -/
theorem exec_removed_elsewhere {sl : Slot} {s : State} {t : Nat} (h : (s.recorder.slot sl).detectTimer = some t)
    (hp : s.pins.detect sl = false) (he : (s.recorder.slot sl).state ≠ .empty) (hr : s.recorder.state ≠ .recording)
    (hs : s.recorder.state ≠ .starting) : ∃ w,
      exec (.cardLineAccepted sl .detect) s = .next (settle { cardGone sl t s with
        ovl.warnings := w
        log := if (s.recorder.slot sl).state = .active then { s.log with records := s.log.records.map fun c =>
            if c.state = .opened then
              { c with segments := c.segments.map fun g =>
                  if g.slot = sl ∧ g.outcome = .inProgress then { g with outcome := .removed } else g } else c }
          else s.log }) ∧
      SlotWarned (s.recorder.setSlot (removedSlot (s.recorder.slot sl)) sl) s.ovl.warnings w := by
  have hstate : (cardGone sl t s).recorder.state ≠ .recording := by rw [cardGone_state]; exact hr
  by_cases ha : (s.recorder.slot sl).state = .active
  · obtain ⟨v, rfl, hv, -⟩ := State.loseActive_lost sl .removed .cardRemoved (cardGone sl t s)
    rw [exec_removed_active h hp ha, hv (.inl hstate)]
    obtain ⟨w, ht, hw⟩ := (State.testSlots_tested _).elsewhere (s := { cardGone sl t s with
      log.records := s.log.records.map fun c => if c.state = .opened then
        { c with segments := c.segments.map fun g =>
            if g.slot = sl ∧ g.outcome = .inProgress then { g with outcome := .removed } else g } else c }) hstate
    exact ⟨w, by rw [if_pos ha]; exact congrArg finish ht, hw⟩
  · rw [exec_removed_other h hp ha he, State.reformStart_elsewhere (by rw [cardGone_state]; exact hs)]
    obtain ⟨w, ht, hw⟩ := (State.testSlots_tested (cardGone sl t s)).elsewhere hstate
    exact ⟨w, by rw [if_neg ha]; exact congrArg finish ht, hw⟩

/-! ## A removal in STARTING -/

theorem otherSlot_ne (sl : Slot) : otherSlot sl ≠ sl := by cases sl <;> decide

theorem otherSlot_otherSlot (sl : Slot) : otherSlot (otherSlot sl) = sl := by cases sl <;> rfl

theorem eq_or_otherSlot (sl x : Slot) : x = sl ∨ x = otherSlot sl := by cases sl <;> cases x <;> simp [otherSlot]

theorem SlotSet.only_ne (sl : Slot) : SlotSet.only sl ≠ ⟨false, false⟩ := by cases sl <;> decide

/-- A slot replaced by one that is not usable leaves the other's usability as it was (R101). -/
theorem Recorder.usable_setSlot {r : Recorder} {sl : Slot} {x : SlotRec} (hx : x.state ≠ .ready) :
    (r.setSlot x sl).usable sl = false ∧ (r.setSlot x sl).usable (otherSlot sl) = r.usable (otherSlot sl) := by
  refine ⟨Bool.eq_false_iff.2 fun h => hx ?_, ?_⟩
  · have hready := ((Recorder.usable_iff _ _).1 h).1
    rwa [Recorder.slot_setSlot] at hready
  · cases sl <;> rfl

/-- What is left of a start set when one of the slots stops being usable (R116). -/
theorem Recorder.startLeft {r : Recorder} {sl : Slot} {x : SlotRec} (hx : x.state ≠ .ready) :
    (⟨(r.setSlot x sl).startSet.a && (r.setSlot x sl).usable .a, (r.setSlot x sl).startSet.b && (r.setSlot x sl).usable .b⟩ : SlotSet) =
      if r.startSet.has (otherSlot sl) && r.usable (otherSlot sl) then SlotSet.only (otherSlot sl) else ⟨false, false⟩ := by
  obtain ⟨hself, hother⟩ := Recorder.usable_setSlot (r := r) (sl := sl) hx
  cases sl with
  | a =>
    rw [hself, Bool.and_false]
    have hb : (r.setSlot x .a).usable .b = r.usable .b := hother
    rw [hb]
    show (⟨false, r.startSet.b && r.usable .b⟩ : SlotSet) = if (r.startSet.b && r.usable .b) = true then _ else _
    cases r.startSet.b && r.usable .b <;> rfl
  | b =>
    rw [hself, Bool.and_false]
    have ha : (r.setSlot x .b).usable .a = r.usable .a := hother
    rw [ha]
    show (⟨r.startSet.a && r.usable .a, false⟩ : SlotSet) = if (r.startSet.a && r.usable .a) = true then _ else _
    cases r.startSet.a && r.usable .a <;> rfl

theorem cardGone_left (sl : Slot) (t : Nat) (s : State) :
    (⟨(cardGone sl t s).recorder.startSet.a && (cardGone sl t s).recorder.usable .a,
      (cardGone sl t s).recorder.startSet.b && (cardGone sl t s).recorder.usable .b⟩ : SlotSet) =
      if s.recorder.startSet.has (otherSlot sl) && s.recorder.usable (otherSlot sl) then SlotSet.only (otherSlot sl)
      else ⟨false, false⟩ := Recorder.startLeft (r := s.recorder) (x := removedSlot (s.recorder.slot sl)) (by simp [removedSlot])

/-- The fields of a recorder that a change of a slot leaves (R101). -/
theorem Recorder.setSlot_keeps (r : Recorder) (x : SlotRec) (sl : Slot) : (r.setSlot x sl).clip = r.clip ∧
    (r.setSlot x sl).mode = r.mode ∧ (r.setSlot x sl).current = r.current ∧ (r.setSlot x sl).bitrate = r.bitrate ∧
    (r.setSlot x sl).startSet = r.startSet ∧ (r.setSlot x sl).mediaLow = r.mediaLow := by
  cases sl <;> exact ⟨rfl, rfl, rfl, rfl, rfl, rfl⟩

section
variable {sl : Slot} {n t : Nat} {s : State}

/-- A removal in STARTING, from the start set re-formed (R116). -/
theorem exec_removed_reformed {v : State} (h : (s.recorder.slot sl).detectTimer = some t)
    (hp : s.pins.detect sl = false) (he : (s.recorder.slot sl).state ≠ .empty) (ha : (s.recorder.slot sl).state ≠ .active)
    (hv : (cardGone sl t s).reformStart .cardRemoved = v) (hr : v.recorder.state ≠ .recording) : ∃ w,
      exec (.cardLineAccepted sl .detect) s = .next (settle { v with ovl.warnings := w }) ∧
      SlotWarned v.recorder v.ovl.warnings w := by
  rw [exec_removed_other h hp ha he, hv]
  obtain ⟨w, ht, hw⟩ := (State.testSlots_tested v).elsewhere hr
  exact ⟨w, congrArg finish ht, hw⟩

/-- The other slot stays in the start set (R116). -/
theorem reformStart_keepsOther (hs : s.recorder.state = .starting) (hc : s.recorder.clip = some n)
    (h1 : s.recorder.startSet.has (otherSlot sl) = true) (h2 : s.recorder.usable (otherSlot sl) = true) :
    (cardGone sl t s).reformStart .cardRemoved = { cardGone sl t s with recorder.startSet := SlotSet.only (otherSlot sl) } := by
  obtain ⟨-, hre⟩ := State.reformStart_reformed .cardRemoved (cardGone sl t s)
  obtain ⟨hclip, -⟩ := Recorder.setSlot_keeps s.recorder (removedSlot (s.recorder.slot sl)) sl
  have hleft := cardGone_left sl t s
  rw [h1, h2] at hleft
  exact (hre n _ ((cardGone_state _ _ _).trans hs) (hclip.trans hc) hleft.symm).1 (SlotSet.only_ne _)

/-- The start set passes to the other slot (R116). -/
theorem reformStart_passes (hs : s.recorder.state = .starting) (hc : s.recorder.clip = some n)
    (h1 : s.recorder.startSet.has (otherSlot sl) = false) (hm : s.recorder.mode = .relay) (hcur : s.recorder.current = sl)
    (h2 : s.recorder.usable (otherSlot sl) = true) : (cardGone sl t s).reformStart .cardRemoved =
      { cardGone sl t s with recorder.startSet := SlotSet.only (otherSlot sl), recorder.current := otherSlot sl } := by
  obtain ⟨-, hre⟩ := State.reformStart_reformed .cardRemoved (cardGone sl t s)
  obtain ⟨hclip, hmode, hcurrent, -⟩ := Recorder.setSlot_keeps s.recorder (removedSlot (s.recorder.slot sl)) sl
  have hleft := cardGone_left sl t s
  rw [h1] at hleft
  have hcur' : (cardGone sl t s).recorder.current = sl := hcurrent.trans hcur
  have husable : (cardGone sl t s).recorder.usable (otherSlot (cardGone sl t s).recorder.current) = true := by
    rw [hcur']
    exact (Recorder.usable_setSlot (by simp [removedSlot])).2.trans h2
  have := (hre n _ ((cardGone_state _ _ _).trans hs) (hclip.trans hc) hleft.symm).2.1 rfl (hmode.trans hm) husable
  rwa [hcur'] at this

/-- No slot is left for the start (R116, R117). -/
theorem reformStart_fails (hs : s.recorder.state = .starting) (hc : s.recorder.clip = some n)
    (h1 : s.recorder.startSet.has (otherSlot sl) = false)
    (h2 : s.recorder.mode ≠ .relay ∨ s.recorder.usable (otherSlot sl) = false) :
    (cardGone sl t s).reformStart .cardRemoved = startFailed n .cardRemoved (cardGone sl t s) := by
  obtain ⟨-, hre⟩ := State.reformStart_reformed .cardRemoved (cardGone sl t s)
  obtain ⟨hclip, hmode, hcurrent, -⟩ := Recorder.setSlot_keeps s.recorder (removedSlot (s.recorder.slot sl)) sl
  obtain ⟨hself, hother⟩ := Recorder.usable_setSlot (r := s.recorder) (sl := sl) (x := removedSlot (s.recorder.slot sl))
    (by simp [removedSlot])
  have hleft := cardGone_left sl t s
  rw [h1] at hleft
  refine (hre n _ ((cardGone_state _ _ _).trans hs) (hclip.trans hc) hleft.symm).2.2 rfl (h2.imp (fun h => ?_) fun h => ?_)
  · exact fun hr => h (hmode.symm.trans hr)
  · show (s.recorder.setSlot (removedSlot (s.recorder.slot sl)) sl).usable _ = false
    rcases eq_or_otherSlot sl (otherSlot (cardGone sl t s).recorder.current) with hx | hx <;> rw [hx]
    · exact hself
    · exact hother.trans h

end

/-! ## A removal in RECORDING -/

/-- The time left of the one ACTIVE slot, where the other is no relay target (R124). -/
theorem TimeLeftIs.single {r : Recorder} {log : ClipLog} {left : Nat} {sl : Slot} (h : TimeLeftIs r log left)
    (ha : (r.slot sl).state = .active) (hb : (r.slot (otherSlot sl)).state ≠ .active)
    (hn : r.mode ≠ .relay ∨ (r.slot (otherSlot sl)).state ≠ .ready ∨
      (r.slot (otherSlot sl)).remaining ≤ 30 * rateOf r.bitrate ∨ 4 ≤ log.openSegments) : left = (r.slot sl).remaining :=
  (h.2 sl ha hb).2 hn

/-- The tests at a change of a slot in RECORDING, the time left known (R110, R124). -/
theorem State.testSlots_recording {u : State} {left : Nat} (hr : u.recorder.state = .recording)
    (hl : ∀ x, TimeLeftIs u.recorder u.log x → x = left) : ∃ w,
      u.testSlots = { u with
        recorder := u.recorder.lowTested (decide (left ≤ 60 * rateOf u.recorder.bitrate)) u.clock, ovl.warnings := w } ∧
      SlotWarned u.recorder { u.ovl.warnings with
        mediaLow := lowWarned u.recorder.mediaLow (decide (left ≤ 60 * rateOf u.recorder.bitrate)) u.ovl.warnings.mediaLow } w := by
  obtain ⟨w, -, hrec⟩ := State.testSlots_tested u
  obtain ⟨x, low, hx, rfl, ht, hw⟩ := hrec hr
  obtain rfl := hl x hx
  exact ⟨w, ht, hw⟩

/-! ## Write protect -/

/-- The slot after an accepted change of write protect (R107). -/
def protectedSlot (x : SlotRec) (on : Bool) (st : SlotState) : SlotRec := { x with protectTimer := none, protect := on, state := st }

theorem exec_protected {sl : Slot} {s : State} {t : Nat} {on : Bool} (h : (s.recorder.slot sl).protectTimer = some t)
    (hp : s.pins.protect sl = on) : exec (.cardLineAccepted sl .writeProtect) s =
      finish (((s.atTime t).setSlot sl { s.recorder.slot sl with protectTimer := none }).protectCard sl on) := by
  subst hp
  exact (exec_cardLineAccepted (line := .writeProtect) h).trans (congrArg finish (State.acceptLine_protect _ _))

theorem exec_protected_ready {sl : Slot} {s : State} {t : Nat} (h : (s.recorder.slot sl).protectTimer = some t)
    (hp : s.pins.protect sl = true) (hr : (s.recorder.slot sl).state = .ready) :
    exec (.cardLineAccepted sl .writeProtect) s = .next (settle (({ s with
      clock := max s.clock t
      recorder := s.recorder.setSlot (protectedSlot (s.recorder.slot sl) true .writeProtected) sl } : State).reformStart
        .noMedia).testSlots) := by
  rw [exec_protected h hp]
  cases sl <;> exact congrArg finish (if_pos ⟨hr, rfl⟩)

theorem exec_protected_released {sl : Slot} {s : State} {t : Nat} (h : (s.recorder.slot sl).protectTimer = some t)
    (hp : s.pins.protect sl = false) (hr : (s.recorder.slot sl).state = .writeProtected) :
    exec (.cardLineAccepted sl .writeProtect) s = .next (settle ({ s with
      clock := max s.clock t
      recorder := s.recorder.setSlot (protectedSlot (s.recorder.slot sl) false .ready) sl } : State).testSlots) := by
  rw [exec_protected h hp]
  cases sl <;> exact congrArg finish ((if_neg (by simp)).trans (if_pos ⟨hr, rfl⟩))

theorem exec_protected_stands {sl : Slot} {s : State} {t : Nat} {on : Bool} (h : (s.recorder.slot sl).protectTimer = some t)
    (hp : s.pins.protect sl = on) (hr : (s.recorder.slot sl).state ≠ .ready ∨ on = false)
    (hw : (s.recorder.slot sl).state ≠ .writeProtected ∨ on = true) :
    exec (.cardLineAccepted sl .writeProtect) s = .next (settle { s with
      clock := max s.clock t
      recorder := s.recorder.setSlot { s.recorder.slot sl with protectTimer := none, protect := on } sl }) := by
  rw [exec_protected h hp]
  have h1 : ¬((s.recorder.slot sl).state = .ready ∧ on = true) := by
    rintro ⟨h1, rfl⟩
    exact hr.elim (fun hn => hn h1) (by simp)
  have h2 : ¬((s.recorder.slot sl).state = .writeProtected ∧ on = false) := by
    rintro ⟨h2, rfl⟩
    exact hw.elim (fun hn => hn h2) (by simp)
  cases sl <;> exact congrArg finish ((if_neg h1).trans (if_neg h2))

/-! ## The mount window -/

theorem exec_mountTimeout {sl : Slot} {s : State} {t : Nat} (h : (s.recorder.slot sl).mountTimer = some t) :
    exec (.mountTimeout sl) s = .next (settle ({ s with
      clock := max s.clock t
      recorder := s.recorder.setSlot { s.recorder.slot sl with
        state := .error .mountTimeout, lapsed := true, mountTimer := none } sl } : State).testSlots) := by
  show execMountTimeout sl s = _
  rw [execMountTimeout, h]
  rfl

end Sys2Proof.Machine

/-! The windows of a clip and the accounting (second part of O60). -/

namespace Sys2Proof.Machine

/-! ## A removal in RECORDING -/

section
variable {sl : Slot} {s : State} {t n : Nat}

/-- The clip log after the card of an ACTIVE slot is removed (R125, R135). -/
theorem cardGone_stops (hs : s.recorder.state = .recording) (hc : s.recorder.clip = some n)
    (ho : (s.recorder.slot (otherSlot sl)).state ≠ .active) : (cardGone sl t s).loseActive sl .removed .cardRemoved =
      stopMade n .cardRemoved { cardGone sl t s with log := s.log.segmentOutcome sl .removed } :=
  State.loseActive_stops (u := { s with clock := max s.clock t, port := s.port.post (.cardRemoved sl) })
    (x := removedSlot (s.recorder.slot sl)) (by simp [removedSlot]) ho hs hc

/-- The card of the one ACTIVE slot is removed, and the recording stops (R125, R119). -/
theorem exec_removed_stops (h : (s.recorder.slot sl).detectTimer = some t) (hp : s.pins.detect sl = false)
    (ha : (s.recorder.slot sl).state = .active) (hs : s.recorder.state = .recording) (hc : s.recorder.clip = some n)
    (ho : (s.recorder.slot (otherSlot sl)).state ≠ .active) : ∃ w,
      exec (.cardLineAccepted sl .detect) s = .next (settle { stopMade n .cardRemoved { cardGone sl t s with
        log := s.log.segmentOutcome sl .removed } with ovl.warnings := w }) ∧
      SlotWarned (s.recorder.setSlot (removedSlot (s.recorder.slot sl)) sl) { s.ovl.warnings with mediaLow := .absent } w := by
  rw [exec_removed_active h hp ha, cardGone_stops hs hc ho]
  obtain ⟨w, ht, hw⟩ := (State.testSlots_tested (stopMade n .cardRemoved { cardGone sl t s with
    log := s.log.segmentOutcome sl .removed })).elsewhere (by simp [stopMade])
  exact ⟨w, congrArg finish ht, hw⟩

/-- The card of one ACTIVE slot of a SIMUL recording is removed, and the other goes on (R125, R124). -/
theorem exec_removed_simul (h : (s.recorder.slot sl).detectTimer = some t) (hp : s.pins.detect sl = false)
    (ha : (s.recorder.slot sl).state = .active) (hs : s.recorder.state = .recording)
    (ho : (s.recorder.slot (otherSlot sl)).state = .active) (hm : s.recorder.mode = .simul) : ∃ w low,
      low = decide ((s.recorder.slot (otherSlot sl)).remaining ≤ 60 * rateOf s.recorder.bitrate) ∧
      exec (.cardLineAccepted sl .detect) s = .next (settle { cardGone sl t s with
        recorder := (s.recorder.setSlot (removedSlot (s.recorder.slot sl)) sl).lowTested low (max s.clock t)
        log := s.log.segmentOutcome sl .removed, ovl.warnings := w }) ∧
      SlotWarned (s.recorder.setSlot (removedSlot (s.recorder.slot sl)) sl) { s.ovl.warnings with
        mediaLow := lowWarned s.recorder.mediaLow low s.ovl.warnings.mediaLow } w := by
  have hx := exec_removed_active h hp ha
  obtain ⟨v, hv, hlost, -⟩ := State.loseActive_lost sl .removed .cardRemoved (cardGone sl t s)
  have hother : (cardGone sl t s).recorder.slot (otherSlot sl) = s.recorder.slot (otherSlot sl) := by cases sl <;> rfl
  have hself : (cardGone sl t s).recorder.slot sl = removedSlot (s.recorder.slot sl) := Recorder.slot_setSlot _ _ _
  obtain ⟨-, hmode, -, hbit, -, hml⟩ := Recorder.setSlot_keeps s.recorder (removedSlot (s.recorder.slot sl)) sl
  have hoa : ((cardGone sl t s).recorder.slot (otherSlot sl)).state = .active := by rw [hother]; exact ho
  rw [hlost (.inr (by cases sl <;> simp_all [otherSlot, Recorder.slot]))] at hx
  have hrec : v.recorder = (cardGone sl t s).recorder := by rw [hv]
  obtain ⟨w, ht, hw⟩ := State.testSlots_recording (u := v) (left := (s.recorder.slot (otherSlot sl)).remaining)
    (by rw [hrec, cardGone_state]; exact hs) fun left hl => by
      rw [hrec] at hl
      have := hl.single (sl := otherSlot sl) hoa (by rw [otherSlot_otherSlot, hself]; simp [removedSlot])
        (.inl (by rw [show (cardGone sl t s).recorder.mode = s.recorder.mode from hmode, hm]; decide))
      rwa [hother] at this
  have hbit : v.recorder.bitrate = s.recorder.bitrate := by rw [hrec]; exact hbit
  have hml : v.recorder.mediaLow = s.recorder.mediaLow := by rw [hrec]; exact hml
  rw [hbit] at ht hw
  rw [hml] at hw
  subst hv
  exact ⟨w, _, rfl, hx.trans (congrArg finish ht), hw⟩

end

/-! ## The windows -/

theorem exec_confirmationTimeout {s : State} {t n : Nat} (h : s.recorder.confirmTimer = some t) (hc : s.recorder.clip = some n) :
    exec .confirmationTimeout s = .next (settle (startFailed n .confirmTimeout (s.atTime t))) := by
  show execConfirmationTimeout s = _
  rw [execConfirmationTimeout, h]
  exact congrArg finish (State.failStart_failed n _ (s.atTime t) hc)

/-- A slot at the end of the close window (R121). -/
def abandonedSlot (x : SlotRec) : SlotRec :=
  if x.state = .active then
    { x with state := if x.remaining = 0 then .full else if x.protect then .writeProtected else .ready }
  else x

theorem State.abandonSlot_eq (sl : Slot) (s : State) :
    s.abandonSlot sl = { s with recorder := s.recorder.setSlot (abandonedSlot (s.recorder.slot sl)) sl } := by
  unfold State.abandonSlot abandonedSlot
  by_cases h : (s.recorder.slot sl).state = .active
  · rw [if_pos h, if_pos h, State.setSlot, SlotRec.closed, SlotRec.readied]
    by_cases h0 : (s.recorder.slot sl).remaining = 0
    · rw [if_neg (by omega), if_pos h0]
    · rw [if_pos (by omega), if_neg h0]
  · rw [if_neg h, if_neg h]
    cases sl <;> rfl

/-- The part at the end of the close window, the slot tests apart (R121). -/
def clipAbandoned (t : Nat) (s : State) : State :=
  { s with
    clock := max s.clock t
    recorder := { s.recorder with
      state := .standby, closeTimer := none, clip := none, endLabel := none
      slotA := abandonedSlot s.recorder.slotA, slotB := abandonedSlot s.recorder.slotB }
    tc.recState := .standby
    supply.recState := .standby
    log := s.log.close .unconfirmed s.recorder.endLabel }

theorem exec_closeTimeout {s : State} {t : Nat} (h : s.recorder.closeTimer = some t) :
    exec .closeTimeout s = .next (settle (clipAbandoned t s).testSlots) := by
  show execCloseTimeout s = _
  rw [execCloseTimeout, h]
  show finish ((((s.atTime t).abandonSlot .a).abandonSlot .b).endClip .unconfirmed) = _
  rw [State.abandonSlot_eq, State.abandonSlot_eq]
  rfl

/-! ## The charge -/

/-- A slot with a second of recording charged (R122, 1). -/
def chargedSlot (x : SlotRec) (rate : Nat) : SlotRec := { x with remaining := x.remaining - rate }

theorem SlotRec.charge_active {x : SlotRec} (h : x.state = .active) (rate : Nat) : x.charge rate = chargedSlot x rate := if_pos h

theorem SlotRec.charge_idle {x : SlotRec} (h : x.state ≠ .active) (rate : Nat) : x.charge rate = x := if_neg h

/-- The part after the charge step (R122, 1). -/
def charged (t : Nat) (s : State) : State :=
  { s with clock := max s.clock t, recorder := { s.recorder.charge with accountTimer := some (t + 1000000) } }

theorem exec_accountingEvent {s : State} {t : Nat} (h : s.recorder.accountTimer = some t) :
    exec .accountingEvent s = .next (settle (charged t s).relayStep.fullStep.testSlots) := by
  show execAccountingEvent s = _
  rw [execAccountingEvent, h]
  rfl

theorem Recorder.charge_one {r : Recorder} {sl : Slot} (ha : (r.slot sl).state = .active)
    (ho : (r.slot (otherSlot sl)).state ≠ .active) : r.charge = r.setSlot (chargedSlot (r.slot sl) (rateOf r.bitrate)) sl := by
  cases sl
  · have hb : r.slotB.charge (rateOf r.bitrate) = r.slotB := if_neg ho
    have ha : r.slotA.charge (rateOf r.bitrate) = chargedSlot r.slotA (rateOf r.bitrate) := if_pos ha
    rw [Recorder.charge, ha, hb]
    rfl
  · have hb : r.slotA.charge (rateOf r.bitrate) = r.slotA := if_neg ho
    have ha : r.slotB.charge (rateOf r.bitrate) = chargedSlot r.slotB (rateOf r.bitrate) := if_pos ha
    rw [Recorder.charge, ha, hb]
    rfl

theorem Recorder.charge_both {r : Recorder} {sl : Slot} (ha : (r.slot sl).state = .active)
    (ho : (r.slot (otherSlot sl)).state = .active) : r.charge =
      (r.setSlot (chargedSlot (r.slot sl) (rateOf r.bitrate)) sl).setSlot
        (chargedSlot (r.slot (otherSlot sl)) (rateOf r.bitrate)) (otherSlot sl) := by
  cases sl
  · have hb : r.slotB.charge (rateOf r.bitrate) = chargedSlot r.slotB (rateOf r.bitrate) := if_pos ho
    have ha : r.slotA.charge (rateOf r.bitrate) = chargedSlot r.slotA (rateOf r.bitrate) := if_pos ha
    rw [Recorder.charge, ha, hb]
    rfl
  · have hb : r.slotA.charge (rateOf r.bitrate) = chargedSlot r.slotA (rateOf r.bitrate) := if_pos ho
    have ha : r.slotB.charge (rateOf r.bitrate) = chargedSlot r.slotB (rateOf r.bitrate) := if_pos ha
    rw [Recorder.charge, ha, hb]
    rfl

theorem charged_one {sl : Slot} {t : Nat} {s : State} (ha : (s.recorder.slot sl).state = .active)
    (ho : (s.recorder.slot (otherSlot sl)).state ≠ .active) : charged t s = { s with
      clock := max s.clock t
      recorder := { s.recorder.setSlot (chargedSlot (s.recorder.slot sl) (rateOf s.recorder.bitrate)) sl with
        accountTimer := some (t + 1000000) } } := by
  unfold charged
  rw [Recorder.charge_one ha ho]

theorem charged_both {sl : Slot} {t : Nat} {s : State} (ha : (s.recorder.slot sl).state = .active)
    (ho : (s.recorder.slot (otherSlot sl)).state = .active) : charged t s = { s with
      clock := max s.clock t
      recorder := { (s.recorder.setSlot (chargedSlot (s.recorder.slot sl) (rateOf s.recorder.bitrate)) sl).setSlot
          (chargedSlot (s.recorder.slot (otherSlot sl)) (rateOf s.recorder.bitrate)) (otherSlot sl) with
        accountTimer := some (t + 1000000) } } := by
  unfold charged
  rw [Recorder.charge_both ha ho]

/-! ## The relay -/

theorem State.relays_iff (u : State) (sl : Slot) : u.relays sl = true ↔ u.recorder.mode = .relay ∧
    (u.recorder.slot sl).state = .active ∧ (u.recorder.slot sl).remaining ≤ 30 * rateOf u.recorder.bitrate ∧
    (u.recorder.slot (otherSlot sl)).state = .ready ∧
    30 * rateOf u.recorder.bitrate < (u.recorder.slot (otherSlot sl)).remaining ∧ u.log.openSegments < 4 := by
  have htarget : u.relayTarget (otherSlot sl) = true ↔ (u.recorder.slot (otherSlot sl)).state = .ready ∧
      30 * rateOf u.recorder.bitrate < (u.recorder.slot (otherSlot sl)).remaining ∧ u.log.openSegments < 4 := decide_eq_true_iff
  rw [← htarget]
  simp [State.relays, Recorder.isActive, Recorder.reserve]

theorem State.relayStep_none {u : State} (h : ∀ sl, u.relays sl = false) : u.relayStep = u := by
  rw [State.relayStep, h .a, h .b]
  rfl

theorem State.relayStep_from {u : State} {sl : Slot} (h : u.relays sl = true) : u.relayStep = u.relay sl := by
  rw [State.relayStep]
  cases sl with
  | a => rw [h]; rfl
  | b =>
    have ha : u.relays .a = false := by
      refine Bool.eq_false_iff.2 fun ha => ?_
      obtain ⟨-, hactive, -⟩ := (u.relays_iff .a).1 ha
      obtain ⟨-, -, -, hready, -⟩ := (u.relays_iff .b).1 h
      rw [show otherSlot .b = .a from rfl, hactive] at hready
      cases hready
    rw [ha, h]
    rfl

/-- No relay from `sl` where the target does not fit, nor from a slot that is not ACTIVE (R123). -/
theorem State.relayStep_stands {u : State} {sl : Slot}
    (h : u.recorder.mode ≠ .relay ∨ (u.recorder.slot (otherSlot sl)).state ≠ .active ∧
      (30 * rateOf u.recorder.bitrate < (u.recorder.slot sl).remaining ∨ (u.recorder.slot (otherSlot sl)).state ≠ .ready ∨
        (u.recorder.slot (otherSlot sl)).remaining ≤ 30 * rateOf u.recorder.bitrate ∨ 4 ≤ u.log.openSegments)) :
    u.relayStep = u := by
  refine State.relayStep_none fun x => Bool.eq_false_iff.2 fun hx => ?_
  obtain ⟨hm, ha, hrem, hready, hroom, hseg⟩ := (u.relays_iff x).1 hx
  rcases h with h | ⟨ho, h⟩
  · exact h hm
  · rcases eq_or_otherSlot sl x with rfl | rfl
    · rcases h with h | h | h | h
      · omega
      · exact h hready
      · omega
      · omega
    · exact ho ha

/-! ## The fullness -/

theorem State.fillSlot_full {u : State} {sl : Slot} (ha : (u.recorder.slot sl).state = .active) (h0 : (u.recorder.slot sl).remaining = 0) :
    u.fillSlot sl = { u with
      recorder := u.recorder.setSlot { u.recorder.slot sl with state := .full } sl, log := u.log.segmentOutcome sl .full } :=
  if_pos ⟨ha, h0⟩

theorem State.fillSlot_stands {u : State} {sl : Slot} (h : (u.recorder.slot sl).state ≠ .active ∨ 0 < (u.recorder.slot sl).remaining) :
    u.fillSlot sl = u := by
  refine if_neg ?_
  rintro ⟨ha, h0⟩
  exact h.elim (fun hn => hn ha) (by omega)

/-- The fullness step at a part where the other slot does not fill. -/
theorem State.fill_one {u : State} {sl : Slot}
    (h : (u.recorder.slot (otherSlot sl)).state ≠ .active ∨ 0 < (u.recorder.slot (otherSlot sl)).remaining) :
    (u.fillSlot .a).fillSlot .b = u.fillSlot sl := by
  cases sl with
  | a =>
    refine State.fillSlot_stands ?_
    have hb : (u.fillSlot .a).recorder.slot .b = u.recorder.slot .b := by
      unfold State.fillSlot
      dsimp only
      split <;> rfl
    rw [hb]
    exact h
  | b => rw [State.fillSlot_stands (sl := .a) h]

theorem Recorder.activeSet_isEmpty (r : Recorder) (sl : Slot) :
    r.activeSet.isEmpty = true ↔ (r.slot sl).state ≠ .active ∧ (r.slot (otherSlot sl)).state ≠ .active := by
  cases sl <;> simp [Recorder.activeSet, SlotSet.isEmpty, Recorder.isActive, otherSlot, and_comm]

/-- The fullness step at a part in which no ACTIVE slot has reached 0 (R122, 3). -/
theorem State.fullStep_stands {u : State} {sl : Slot} (ha : (u.recorder.slot sl).state = .active) (h0 : 0 < (u.recorder.slot sl).remaining)
    (h : (u.recorder.slot (otherSlot sl)).state ≠ .active ∨ 0 < (u.recorder.slot (otherSlot sl)).remaining) :
    u.fullStep = u := by
  unfold State.fullStep
  rw [State.fill_one h, State.fillSlot_stands (.inr h0)]
  exact if_neg fun hn => ((Recorder.activeSet_isEmpty _ sl).1 hn).1 ha

/-- One slot fills, and the other goes on (R122, 3). -/
theorem State.fullStep_fills {u : State} {sl : Slot} (ha : (u.recorder.slot sl).state = .active) (h0 : (u.recorder.slot sl).remaining = 0)
    (hb : (u.recorder.slot (otherSlot sl)).state = .active) (hrem : 0 < (u.recorder.slot (otherSlot sl)).remaining) :
    u.fullStep = { u with
      recorder := u.recorder.setSlot { u.recorder.slot sl with state := .full } sl, log := u.log.segmentOutcome sl .full } := by
  unfold State.fullStep
  rw [State.fill_one (.inr hrem), State.fillSlot_full ha h0]
  refine if_neg fun hn => ((Recorder.activeSet_isEmpty _ sl).1 hn).2 ?_
  cases sl <;> exact hb

/-- The only ACTIVE slot fills, and the recording stops (R122, 3). -/
theorem State.fullStep_stops {u : State} {sl : Slot} {n : Nat} (hc : u.recorder.clip = some n)
    (ha : (u.recorder.slot sl).state = .active) (h0 : (u.recorder.slot sl).remaining = 0)
    (hb : (u.recorder.slot (otherSlot sl)).state ≠ .active) :
    u.fullStep = stopMade n .mediaFull { u with
      recorder := u.recorder.setSlot { u.recorder.slot sl with state := .full } sl, log := u.log.segmentOutcome sl .full } := by
  unfold State.fullStep
  rw [State.fill_one (.inl hb), State.fillSlot_full ha h0]
  refine (if_pos ((Recorder.activeSet_isEmpty _ sl).2 ?_)).trans (State.stopRecording_made n _ _ ?_)
  · cases sl <;> exact ⟨by simp [Recorder.setSlot, Recorder.slot], hb⟩
  · cases sl <;> exact hc

/-- The segments of both slots end at once: every one IN_PROGRESS (R135). -/
theorem ClipLog.segmentOutcome_both (l : ClipLog) (o : SegOutcome) :
    (l.segmentOutcome .a o).segmentOutcome .b o = { l with records := l.records.map fun c => if c.state = .opened then
      { c with segments := c.segments.map fun g => if g.outcome = .inProgress then { g with outcome := o } else g } else c } := by
  unfold ClipLog.segmentOutcome
  rw [ClipLog.mapOpen_mapOpen _ _ _ (by intro r; rfl)]
  unfold ClipLog.mapOpen
  simp only [List.map_map]
  have hseg : ((fun g : Segment => if g.slot = .b ∧ g.outcome = .inProgress then { g with outcome := o } else g) ∘
      fun g => if g.slot = .a ∧ g.outcome = .inProgress then { g with outcome := o } else g) =
      fun g => if g.outcome = .inProgress then { g with outcome := o } else g := by
    funext ⟨sl, label, out⟩
    cases sl <;> by_cases h : out = .inProgress <;> simp [h]
  rw [hseg]

/-- Both slots fill, and the recording stops (R122, 3). -/
theorem State.fullStep_stops_both {u : State} {n : Nat} (hc : u.recorder.clip = some n)
    (ha : ∀ sl, (u.recorder.slot sl).state = .active ∧ (u.recorder.slot sl).remaining = 0) :
    u.fullStep = stopMade n .mediaFull { u with
      recorder := (u.recorder.setSlot { u.recorder.slot .a with state := .full } .a).setSlot { u.recorder.slot .b with state := .full } .b
      log := (u.log.segmentOutcome .a .full).segmentOutcome .b .full } := by
  have hb : ((u.fillSlot .a).recorder.slot .b).state = .active ∧ ((u.fillSlot .a).recorder.slot .b).remaining = 0 := by
    rw [State.fillSlot_full (ha .a).1 (ha .a).2]
    exact ha .b
  unfold State.fullStep
  rw [State.fillSlot_full hb.1 hb.2, State.fillSlot_full (ha .a).1 (ha .a).2]
  exact (if_pos rfl).trans (State.stopRecording_made n _ _ hc)

/-! ## The accounting event -/

section
variable {sl : Slot} {s : State} {t n rate : Nat}

/-- A second is charged to the one ACTIVE slot, with room left and no relay (R122). -/
theorem exec_accounting_runs {left : Nat} (h : s.recorder.accountTimer = some t) (ha : (s.recorder.slot sl).state = .active)
    (hr : s.recorder.state = .recording) (hrate : rate = rateOf s.recorder.bitrate)
    (ho : (s.recorder.slot (otherSlot sl)).state ≠ .active) (hroom : rate < (s.recorder.slot sl).remaining)
    (hrelay : s.recorder.mode ≠ .relay ∨ 30 * rate < (s.recorder.slot sl).remaining - rate ∨
      (s.recorder.slot (otherSlot sl)).state ≠ .ready ∨ (s.recorder.slot (otherSlot sl)).remaining ≤ 30 * rate ∨
      4 ≤ s.log.openSegments)
    (hleft : ∀ x, TimeLeftIs (s.recorder.setSlot (chargedSlot (s.recorder.slot sl) rate) sl) s.log x → x = left) : ∃ x w low,
      low = decide (left ≤ 60 * rate) ∧
      x = { s.recorder.setSlot (chargedSlot (s.recorder.slot sl) rate) sl with accountTimer := some (t + 1000000) } ∧
      exec .accountingEvent s = .next (settle { s with
        clock := max s.clock t, recorder := x.lowTested low (max s.clock t), ovl.warnings := w }) ∧
      SlotWarned x { s.ovl.warnings with mediaLow := lowWarned s.recorder.mediaLow low s.ovl.warnings.mediaLow } w := by
  subst hrate
  obtain ⟨u, hu⟩ : ∃ u, u = charged t s := ⟨_, rfl⟩
  have hue := hu.trans (charged_one ha ho)
  have hself : u.recorder.slot sl = chargedSlot (s.recorder.slot sl) (rateOf s.recorder.bitrate) := by rw [hue]; cases sl <;> rfl
  have hother : u.recorder.slot (otherSlot sl) = s.recorder.slot (otherSlot sl) := by rw [hue]; cases sl <;> rfl
  have hkept : u.recorder.mode = s.recorder.mode ∧ u.recorder.bitrate = s.recorder.bitrate ∧ u.recorder.state = s.recorder.state ∧
      u.recorder.mediaLow = s.recorder.mediaLow ∧ u.log = s.log := by
    rw [hue]
    cases sl <;> exact ⟨rfl, rfl, rfl, rfl, rfl⟩
  obtain ⟨hmode, hbit, hstate, hml, hlog⟩ := hkept
  have hstep : u.relayStep = u := State.relayStep_stands (sl := sl) (by
    rw [hmode, hbit, hself, hother, hlog]
    exact hrelay.imp id fun hx => ⟨ho, hx⟩)
  have hfull : u.fullStep = u := State.fullStep_stands (sl := sl) (by rw [hself]; exact ha)
    (by rw [hself]; exact Nat.sub_pos_of_lt hroom) (.inl (by rw [hother]; exact ho))
  obtain ⟨w, ht, hw⟩ := State.testSlots_recording (u := u) (left := left) (hstate.trans hr) (by
    rw [hue]
    cases sl <;> exact hleft)
  rw [hbit] at ht hw
  rw [hml] at hw
  refine ⟨_, w, _, rfl, rfl, ?_, ?_⟩
  · rw [exec_accountingEvent h, ← hu, hstep, hfull, ht, hue]
  · rw [hue] at hw
    exact hw

theorem chargedSlot_spent {x : SlotRec} (h : x.remaining ≤ rate) : chargedSlot x rate = { x with remaining := 0 } := by
  rw [chargedSlot, Nat.sub_eq_zero_of_le h]

/-- The one ACTIVE slot reaches 0, and the recording stops (R122, R119). -/
theorem exec_accounting_stops (h : s.recorder.accountTimer = some t) (ha : (s.recorder.slot sl).state = .active)
    (hc : s.recorder.clip = some n) (hrate : rate = rateOf s.recorder.bitrate)
    (ho : (s.recorder.slot (otherSlot sl)).state ≠ .active) (hspent : (s.recorder.slot sl).remaining ≤ rate)
    (hrelay : s.recorder.mode ≠ .relay ∨ (s.recorder.slot (otherSlot sl)).state ≠ .ready ∨
      (s.recorder.slot (otherSlot sl)).remaining ≤ 30 * rate ∨ 4 ≤ s.log.openSegments) : ∃ x w,
      x = { s.recorder.setSlot { s.recorder.slot sl with remaining := 0, state := .full } sl with
        state := .stopping, accountTimer := none, mediaLow := false, endLabel := some s.tc.stamp
        closeTimer := some (max s.clock t + 3000000), tally := .off, lampOn := false, blinkTimer := none } ∧
      exec .accountingEvent s = .next (settle { s with
        clock := max s.clock t
        recorder := x
        tc.recState := .stopping
        supply.recState := .stopping
        log := s.log.segmentOutcome sl .full
        ovl.warnings := w
        controls.beeper := s.controls.beeped .double (max s.clock t)
        port := s.port.post (.recEnd n .mediaFull s.tc.stamp) }) ∧
      SlotWarned x { s.ovl.warnings with mediaLow := .absent } w := by
  subst hrate
  obtain ⟨u, hu⟩ : ∃ u, u = charged t s := ⟨_, rfl⟩
  have hue := hu.trans (charged_one ha ho)
  rw [chargedSlot_spent hspent] at hue
  have hself : u.recorder.slot sl = { s.recorder.slot sl with remaining := 0 } := by rw [hue]; cases sl <;> rfl
  have hother : u.recorder.slot (otherSlot sl) = s.recorder.slot (otherSlot sl) := by rw [hue]; cases sl <;> rfl
  have hkept : u.recorder.mode = s.recorder.mode ∧ u.recorder.bitrate = s.recorder.bitrate ∧ u.recorder.clip = s.recorder.clip ∧
      u.log = s.log := by
    rw [hue]
    cases sl <;> exact ⟨rfl, rfl, rfl, rfl⟩
  obtain ⟨hmode, hbit, hclip, hlog⟩ := hkept
  have hstep : u.relayStep = u := State.relayStep_stands (sl := sl) (by
    rw [hmode, hbit, hother, hlog]
    exact hrelay.imp id fun hx => ⟨ho, .inr hx⟩)
  have hfull := State.fullStep_stops (sl := sl) (hclip.trans hc) (by rw [hself]; exact ha) (by rw [hself])
    (by rw [hother]; exact ho)
  obtain ⟨w, ht, hw⟩ := (State.testSlots_tested _).elsewhere (s := u.fullStep) (by rw [hfull]; simp [stopMade])
  rw [hfull, hself] at hw
  refine ⟨_, w, rfl, ?_, ?_⟩
  · rw [exec_accountingEvent h, ← hu, hstep, ht, hfull, hself, hue]
    cases sl <;> rfl
  · rw [hue] at hw
    cases sl <;> exact hw

/-- The one ACTIVE slot of a RELAY recording has come to the reserve, and the other slot takes over (R123). -/
theorem exec_accounting_relays (h : s.recorder.accountTimer = some t) (ha : (s.recorder.slot sl).state = .active)
    (hr : s.recorder.state = .recording) (hc : s.recorder.clip = some n) (hrate : rate = rateOf s.recorder.bitrate)
    (hm : s.recorder.mode = .relay) (ho : (s.recorder.slot (otherSlot sl)).state = .ready)
    (hlow : (s.recorder.slot sl).remaining - rate ≤ 30 * rate) (hroom : 30 * rate < (s.recorder.slot (otherSlot sl)).remaining)
    (hseg : s.log.openSegments < 4) : ∃ x w low,
      low = decide ((s.recorder.slot (otherSlot sl)).remaining ≤ 60 * rate) ∧
      x = { (s.recorder.setSlot { s.recorder.slot sl with
            remaining := (s.recorder.slot sl).remaining - rate, state := .full } sl).setSlot
          { s.recorder.slot (otherSlot sl) with state := .active } (otherSlot sl) with
        accountTimer := some (t + 1000000), current := otherSlot sl } ∧
      exec .accountingEvent s = .next (settle { s with
        clock := max s.clock t
        recorder := x.lowTested low (max s.clock t)
        log := (s.log.segmentOutcome sl .full).addSegment (otherSlot sl) s.tc.stamp
        ovl.warnings := w
        port := s.port.post (.relay n sl (otherSlot sl) s.tc.stamp) }) ∧
      SlotWarned x { s.ovl.warnings with mediaLow := lowWarned s.recorder.mediaLow low s.ovl.warnings.mediaLow } w := by
  subst hrate
  have hoa : (s.recorder.slot (otherSlot sl)).state ≠ .active := by rw [ho]; decide
  obtain ⟨u, hu⟩ : ∃ u, u = charged t s := ⟨_, rfl⟩
  have hue := hu.trans (charged_one ha hoa)
  have hself : u.recorder.slot sl = chargedSlot (s.recorder.slot sl) (rateOf s.recorder.bitrate) := by rw [hue]; cases sl <;> rfl
  have hother : u.recorder.slot (otherSlot sl) = s.recorder.slot (otherSlot sl) := by rw [hue]; cases sl <;> rfl
  have hkept : u.recorder.mode = s.recorder.mode ∧ u.recorder.bitrate = s.recorder.bitrate ∧ u.log = s.log := by
    rw [hue]
    cases sl <;> exact ⟨rfl, rfl, rfl⟩
  obtain ⟨hmode, hbit, hlog⟩ := hkept
  have hrel : u.relays sl = true := (u.relays_iff sl).2 (by
    rw [hmode, hbit, hself, hother, hlog]
    exact ⟨hm, ha, hlow, ho, hroom, hseg⟩)
  obtain ⟨v, hv⟩ : ∃ v : State, v = { s with
      clock := max s.clock t
      recorder := { (s.recorder.setSlot { s.recorder.slot sl with
            remaining := (s.recorder.slot sl).remaining - rateOf s.recorder.bitrate, state := .full } sl).setSlot
          { s.recorder.slot (otherSlot sl) with state := .active } (otherSlot sl) with
        accountTimer := some (t + 1000000), current := otherSlot sl }
      log := (s.log.segmentOutcome sl .full).addSegment (otherSlot sl) s.tc.stamp
      port := s.port.post (.relay n sl (otherSlot sl) s.tc.stamp) } := ⟨_, rfl⟩
  have hstep : u.relay sl = v := by
    rw [hue, hv]
    cases sl <;> simp [State.relay, State.post, Recorder.setSlot, Recorder.slot, otherSlot, chargedSlot, hc, Timecode.stamp]
  have hvself : v.recorder.slot sl = { s.recorder.slot sl with
      remaining := (s.recorder.slot sl).remaining - rateOf s.recorder.bitrate, state := .full } := by rw [hv]; cases sl <;> rfl
  have hvother : v.recorder.slot (otherSlot sl) = { s.recorder.slot (otherSlot sl) with state := .active } := by
    rw [hv]
    cases sl <;> rfl
  have hvkept : v.recorder.state = s.recorder.state ∧ v.recorder.bitrate = s.recorder.bitrate ∧
      v.recorder.mediaLow = s.recorder.mediaLow ∧ v.clock = max s.clock t ∧ v.ovl = s.ovl := by
    rw [hv]
    cases sl <;> exact ⟨rfl, rfl, rfl, rfl, rfl⟩
  obtain ⟨hstate, hvbit, hml, hclock, hovl⟩ := hvkept
  have hfull : v.fullStep = v := State.fullStep_stands (sl := otherSlot sl) (by rw [hvother]) (by rw [hvother]; exact Nat.zero_lt_of_lt hroom)
    (.inl (by rw [otherSlot_otherSlot, hvself]; simp))
  obtain ⟨w, ht, hw⟩ := State.testSlots_recording (u := v) (left := (s.recorder.slot (otherSlot sl)).remaining) (hstate.trans hr)
    fun x hx => by
      have hs := hx.single (sl := otherSlot sl) (by rw [hvother]) (by rw [otherSlot_otherSlot, hvself]; simp)
        (.inr (.inl (by rw [otherSlot_otherSlot, hvself]; simp)))
      rwa [hvother] at hs
  rw [hvbit, hclock] at ht
  rw [hvbit, hml, hovl] at hw
  refine ⟨_, w, _, rfl, rfl, ?_, ?_⟩
  · rw [exec_accountingEvent h, ← hu, State.relayStep_from hrel, hstep, hfull, ht, hv]
  · rw [hv] at hw
    exact hw

/-- The time left of two ACTIVE slots is the larger (R124). -/
theorem TimeLeftIs.both {r : Recorder} {log : ClipLog} {left : Nat} (h : TimeLeftIs r log left) (ha : (r.slot sl).state = .active)
    (hb : (r.slot (otherSlot sl)).state = .active) : left = max (r.slot sl).remaining (r.slot (otherSlot sl)).remaining := by
  cases sl
  · exact h.1 ha hb
  · rw [max_comm]
    exact h.1 hb ha

/-- A SIMUL recording in which the other slot has room goes on (R122). -/
theorem exec_accounting_simul (h : s.recorder.accountTimer = some t) (ha : (s.recorder.slot sl).state = .active)
    (hr : s.recorder.state = .recording) (hrate : rate = rateOf s.recorder.bitrate) (hm : s.recorder.mode = .simul)
    (ho : (s.recorder.slot (otherSlot sl)).state = .active) (hroom : rate < (s.recorder.slot (otherSlot sl)).remaining) :
    ∃ x w low,
      low = decide (max ((s.recorder.slot sl).remaining - rate) ((s.recorder.slot (otherSlot sl)).remaining - rate) ≤ 60 * rate) ∧
      x = { (s.recorder.setSlot { s.recorder.slot sl with
            remaining := (s.recorder.slot sl).remaining - rate
            state := if (s.recorder.slot sl).remaining ≤ rate then .full else .active } sl).setSlot
          { s.recorder.slot (otherSlot sl) with remaining := (s.recorder.slot (otherSlot sl)).remaining - rate } (otherSlot sl) with
        accountTimer := some (t + 1000000) } ∧
      exec .accountingEvent s = .next (settle { s with
        clock := max s.clock t, recorder := x.lowTested low (max s.clock t)
        log := if (s.recorder.slot sl).remaining ≤ rate then s.log.segmentOutcome sl .full else s.log, ovl.warnings := w }) ∧
      SlotWarned x { s.ovl.warnings with mediaLow := lowWarned s.recorder.mediaLow low s.ovl.warnings.mediaLow } w := by
  subst hrate
  obtain ⟨u, hu⟩ : ∃ u, u = charged t s := ⟨_, rfl⟩
  have hue := hu.trans (charged_both ha ho)
  have hself : u.recorder.slot sl = chargedSlot (s.recorder.slot sl) (rateOf s.recorder.bitrate) := by rw [hue]; cases sl <;> rfl
  have hother : u.recorder.slot (otherSlot sl) = chargedSlot (s.recorder.slot (otherSlot sl)) (rateOf s.recorder.bitrate) := by
    rw [hue]
    cases sl <;> rfl
  have hmode : u.recorder.mode = .simul := by
    rw [hue, ← hm]
    cases sl <;> rfl
  have hstep : u.relayStep = u := State.relayStep_stands (sl := sl) (.inl (by rw [hmode]; decide))
  have hpos : 0 < (u.recorder.slot (otherSlot sl)).remaining := by rw [hother]; exact Nat.sub_pos_of_lt hroom
  have hoa : (u.recorder.slot (otherSlot sl)).state = .active := by rw [hother]; exact ho
  obtain ⟨v, hv⟩ : ∃ v : State, v = { s with
      clock := max s.clock t
      recorder := { (s.recorder.setSlot { s.recorder.slot sl with
            remaining := (s.recorder.slot sl).remaining - rateOf s.recorder.bitrate
            state := if (s.recorder.slot sl).remaining ≤ rateOf s.recorder.bitrate then .full else .active } sl).setSlot
          { s.recorder.slot (otherSlot sl) with
            remaining := (s.recorder.slot (otherSlot sl)).remaining - rateOf s.recorder.bitrate } (otherSlot sl) with
        accountTimer := some (t + 1000000) }
      log := if (s.recorder.slot sl).remaining ≤ rateOf s.recorder.bitrate then s.log.segmentOutcome sl .full else s.log } := ⟨_, rfl⟩
  have hvother : v.recorder.slot (otherSlot sl) = chargedSlot (s.recorder.slot (otherSlot sl)) (rateOf s.recorder.bitrate) := by
    rw [hv]
    cases sl <;> rfl
  have hvself : v.recorder.slot sl = { chargedSlot (s.recorder.slot sl) (rateOf s.recorder.bitrate) with
      state := if (s.recorder.slot sl).remaining ≤ rateOf s.recorder.bitrate then .full else .active } := by rw [hv]; cases sl <;> rfl
  have hvkept : v.recorder.state = s.recorder.state ∧ v.recorder.bitrate = s.recorder.bitrate ∧
      v.recorder.mediaLow = s.recorder.mediaLow ∧ v.clock = max s.clock t ∧ v.ovl = s.ovl ∧ v.recorder.mode = s.recorder.mode := by
    rw [hv]
    cases sl <;> exact ⟨rfl, rfl, rfl, rfl, rfl, rfl⟩
  obtain ⟨hstate, hvbit, hml, hclock, hovl, hvmode⟩ := hvkept
  have hvoa : (v.recorder.slot (otherSlot sl)).state = .active := by rw [hvother]; exact ho
  have hfull : u.fullStep = v := by
    by_cases hspent : (s.recorder.slot sl).remaining ≤ rateOf s.recorder.bitrate
    · rw [State.fullStep_fills (sl := sl) (by rw [hself]; exact ha) (by rw [hself]; exact Nat.sub_eq_zero_of_le hspent) hoa hpos, hself,
        hue, hv, if_pos hspent, if_pos hspent]
      cases sl <;> rfl
    · rw [State.fullStep_stands (sl := sl) (by rw [hself]; exact ha) (by rw [hself]; exact Nat.sub_pos_of_lt (not_le.1 hspent))
        (.inr hpos), hue, hv, if_neg hspent, if_neg hspent, ← ha]
      rfl
  obtain ⟨w, ht, hw⟩ := State.testSlots_recording (u := v)
    (left := max ((s.recorder.slot sl).remaining - rateOf s.recorder.bitrate)
      ((s.recorder.slot (otherSlot sl)).remaining - rateOf s.recorder.bitrate)) (hstate.trans hr) fun x hx => by
      by_cases hspent : (s.recorder.slot sl).remaining ≤ rateOf s.recorder.bitrate
      · rw [if_pos hspent] at hvself
        have hs := hx.single (sl := otherSlot sl) hvoa (by rw [otherSlot_otherSlot, hvself]; simp) (.inl (by rw [hvmode, hm]; decide))
        rw [hs, hvother, Nat.sub_eq_zero_of_le hspent, Nat.zero_max]
        rfl
      · rw [if_neg hspent] at hvself
        have hs := hx.both (sl := sl) (by rw [hvself]) hvoa
        rw [hs, hvother, hvself]
        rfl
  rw [hvbit, hclock] at ht
  rw [hvbit, hml, hovl] at hw
  refine ⟨_, w, _, rfl, rfl, ?_, ?_⟩
  · rw [exec_accountingEvent h, ← hu, hstep, hfull, ht, hv]
  · rw [hv] at hw
    exact hw

/-- Both slots of a SIMUL recording reach 0, and the recording stops (R122, R119). -/
theorem exec_accounting_stops_both (h : s.recorder.accountTimer = some t) (ha : (s.recorder.slot sl).state = .active)
    (hc : s.recorder.clip = some n) (hrate : rate = rateOf s.recorder.bitrate) (hm : s.recorder.mode = .simul)
    (ho : (s.recorder.slot (otherSlot sl)).state = .active) (h1 : (s.recorder.slot sl).remaining ≤ rate)
    (h2 : (s.recorder.slot (otherSlot sl)).remaining ≤ rate) : ∃ x w,
      x = { (s.recorder.setSlot { s.recorder.slot sl with remaining := 0, state := .full } sl).setSlot
          { s.recorder.slot (otherSlot sl) with remaining := 0, state := .full } (otherSlot sl) with
        state := .stopping, accountTimer := none, mediaLow := false, endLabel := some s.tc.stamp
        closeTimer := some (max s.clock t + 3000000), tally := .off, lampOn := false, blinkTimer := none } ∧
      exec .accountingEvent s = .next (settle { s with
        clock := max s.clock t
        recorder := x
        tc.recState := .stopping
        supply.recState := .stopping
        log := { s.log with records := s.log.records.map fun c => if c.state = .opened then
          { c with segments := c.segments.map fun g =>
              if g.outcome = .inProgress then { g with outcome := .full } else g } else c }
        ovl.warnings := w
        controls.beeper := s.controls.beeped .double (max s.clock t)
        port := s.port.post (.recEnd n .mediaFull s.tc.stamp) }) ∧
      SlotWarned x { s.ovl.warnings with mediaLow := .absent } w := by
  subst hrate
  obtain ⟨u, hu⟩ : ∃ u, u = charged t s := ⟨_, rfl⟩
  have hue := hu.trans (charged_both ha ho)
  rw [chargedSlot_spent h1, chargedSlot_spent h2] at hue
  have hself : u.recorder.slot sl = { s.recorder.slot sl with remaining := 0 } := by rw [hue]; cases sl <;> rfl
  have hother : u.recorder.slot (otherSlot sl) = { s.recorder.slot (otherSlot sl) with remaining := 0 } := by rw [hue]; cases sl <;> rfl
  have hkept : u.recorder.mode = s.recorder.mode ∧ u.recorder.clip = s.recorder.clip ∧ u.log = s.log := by
    rw [hue]
    cases sl <;> exact ⟨rfl, rfl, rfl⟩
  obtain ⟨hmode, hclip, hlog⟩ := hkept
  have hstep : u.relayStep = u := State.relayStep_stands (sl := sl) (.inl (by rw [hmode, hm]; decide))
  have hboth (x : Slot) : (u.recorder.slot x).state = .active ∧ (u.recorder.slot x).remaining = 0 := by
    rcases eq_or_otherSlot sl x with rfl | rfl
    · rw [hself]
      exact ⟨ha, rfl⟩
    · rw [hother]
      exact ⟨ho, rfl⟩
  have hfull := State.fullStep_stops_both (hclip.trans hc) hboth
  rw [ClipLog.segmentOutcome_both, hlog] at hfull
  obtain ⟨w, ht, hw⟩ := (State.testSlots_tested _).elsewhere (s := u.fullStep) (by rw [hfull]; simp [stopMade])
  rw [hfull] at hw
  refine ⟨_, w, rfl, ?_, ?_⟩
  · rw [exec_accountingEvent h, ← hu, hstep, ht, hfull, hue]
    cases sl <;> rfl
  · rw [hue] at hw
    cases sl <;> exact hw

end

theorem ClipLog.openSegments_of {l : ClipLog} {c : ClipRec} (h : l.openRec = some c) : l.openSegments = c.segments.length := by
  rw [ClipLog.openSegments, h]

/-- Settles O60: each event by the state of its timer, the slot and the recording; the tests at a change of a slot follow. -/
theorem cardLinesAndClipWindowsAreTaken : Obligations.CardLinesAndClipWindowsAreTaken := by
  unfold Obligations.CardLinesAndClipWindowsAreTaken
  intro sl s r o hr ho
  subst hr ho
  refine ⟨fun line level => exec_cardLineEdge_same, fun line level h => ?_, fun h => exec_cardLineAccepted_idle (line := .detect) h,
    fun h => exec_cardLineAccepted_idle (line := .writeProtect) h, fun hr hs => ⟨fun t h hp he => ?_, fun t h hp he => ?_,
    fun t h hp he => ?_⟩, fun t h hp => ⟨fun he => ?_, fun he => ?_⟩, fun t b h hp hb => ⟨fun ha => ?_, fun ha he => ?_, fun he => ?_⟩,
    fun t on h hp => ⟨fun hr hon => ?_, fun hr hon => ?_, fun hr hw => ?_⟩, fun t h => ?_,
    fun t n hs hc h hp he ha => ?_, fun t n hs hc h hp ha => ?_, fun h => ?_, fun t h hr => ?_, fun h => ?_,
    fun t n h hc => ?_, fun h => ?_, fun t h => ?_, fun h => ?_, fun t n rate full h ha hr hc hrate hfull => ?_⟩
  · rw [exec_cardLineEdge_new h]
    cases line <;> rfl
  · obtain ⟨w, ht, hw⟩ := (State.testSlots_tested (cardMounting sl t s)).elsewhere
      (by rw [cardMounting, Recorder.setSlot_state]; exact hr)
    exact ⟨_, w, rfl, (exec_inserted_mounts h hp he).trans (congrArg finish ht), hw⟩
  · obtain ⟨w, hx, hw⟩ := exec_removed_elsewhere h hp he hr hs
    exact ⟨_, w, rfl, hx, hw⟩
  · have hx := exec_protected_ready h hp he
    rw [State.reformStart_elsewhere (by rw [Recorder.setSlot_state]; exact hs)] at hx
    obtain ⟨w, ht, hw⟩ := (State.testSlots_tested _).elsewhere (s := { s with
      clock := max s.clock t
      recorder := s.recorder.setSlot (protectedSlot (s.recorder.slot sl) true .writeProtected) sl })
      (by rw [Recorder.setSlot_state]; exact hr)
    exact ⟨_, w, rfl, hx.trans (congrArg finish ht), hw⟩
  · exact ⟨_, State.testSlots_tested (cardMounting sl t s), exec_inserted_mounts h hp he⟩
  · exact exec_inserted_stands h hp he
  · subst hb
    exact ⟨_, _, State.loseActive_lost sl _ _ _, State.testSlots_tested _, exec_removed_active h hp ha⟩
  · subst hb
    exact ⟨_, _, State.reformStart_reformed _ _, State.testSlots_tested _, exec_removed_other h hp ha he⟩
  · exact exec_removed_stands h hp he
  · subst hon
    exact ⟨_, _, State.reformStart_reformed _ _, State.testSlots_tested _, exec_protected_ready h hp hr⟩
  · subst hon
    exact ⟨_, State.testSlots_tested _, exec_protected_released h hp hr⟩
  · exact exec_protected_stands h hp hr hw
  · exact ⟨_, State.testSlots_tested _, exec_mountTimeout h⟩
  · have hstarting : (cardGone sl t s).recorder.state ≠ .recording := by rw [cardGone_state, hs]; decide
    refine ⟨_, rfl, fun h1 h2 => ?_, fun h1 hm hcur h2 => ?_, fun h1 h2 => ?_⟩
    · obtain ⟨w, hx, hw⟩ := exec_removed_reformed h hp he ha (reformStart_keepsOther hs hc h1 h2) hstarting
      exact ⟨w, hx, hw⟩
    · obtain ⟨w, hx, hw⟩ := exec_removed_reformed h hp he ha (reformStart_passes hs hc h1 hm hcur h2) hstarting
      exact ⟨w, hx, hw⟩
    · obtain ⟨w, hx, hw⟩ := exec_removed_reformed h hp he ha (reformStart_fails hs hc h1 h2) (by simp [startFailed])
      exact ⟨w, hx, hw⟩
  · refine ⟨_, _, rfl, rfl, fun ho => ?_, fun ho hm => ?_⟩
    · exact exec_removed_stops h hp ha hs hc ho
    · exact exec_removed_simul h hp ha hs ho hm
  · show execMountTimeout sl s = _
    rw [execMountTimeout, h]
    rfl
  · obtain ⟨w, ht, hw⟩ := (State.testSlots_tested _).elsewhere (s := { s with
      clock := max s.clock t
      recorder := s.recorder.setSlot { s.recorder.slot sl with
        state := .error .mountTimeout, lapsed := true, mountTimer := none } sl }) (by rw [Recorder.setSlot_state]; exact hr)
    exact ⟨_, w, rfl, (exec_mountTimeout h).trans (congrArg finish ht), hw⟩
  · show execConfirmationTimeout s = _
    rw [execConfirmationTimeout, h]
    rfl
  · exact exec_confirmationTimeout h hc
  · show execCloseTimeout s = _
    rw [execCloseTimeout, h]
    rfl
  · obtain ⟨w, ht, hw⟩ := (State.testSlots_tested (clipAbandoned t s)).elsewhere (by simp [clipAbandoned])
    exact ⟨_, w, rfl, (exec_closeTimeout h).trans (congrArg finish ht), hw⟩
  · show execAccountingEvent s = _
    rw [execAccountingEvent, h]
    rfl
  · subst hfull
    refine ⟨fun ho hrelay hroom => ?_, fun ho hrelay hspent => ?_, fun clip hm ho hclip => ⟨fun hlow hroom hseg => ?_, fun hno => ?_⟩,
      fun ho hm hroom => exec_accounting_simul h ha hr hrate hm ho hroom,
      fun ho hm h1 h2 => exec_accounting_stops_both h ha hc hrate hm ho h1 h2⟩
    · refine exec_accounting_runs h ha hr hrate ho hroom (hrelay.imp id fun hx => .inr (.inl hx)) fun x hx => ?_
      refine (hx.single (sl := sl) ?_ ?_ ?_).trans ?_
      · rw [Recorder.slot_setSlot]
        exact ha
      · rw [Recorder.slot_setSlot_other]
        exact ho
      · obtain ⟨-, hmode, -⟩ := Recorder.setSlot_keeps s.recorder (chargedSlot (s.recorder.slot sl) rate) sl
        rw [hmode, Recorder.slot_setSlot_other]
        exact hrelay.imp id .inl
      · rw [Recorder.slot_setSlot]
        rfl
    · refine exec_accounting_stops h ha hc hrate ho hspent ?_
      obtain hx | hx | ⟨clip, hclip, hx⟩ := hrelay
      · exact .inl hx
      · exact .inr (.inl hx)
      · rw [ClipLog.openSegments_of hclip]
        exact .inr (.inr hx)
    · exact exec_accounting_relays h ha hr hc hrate hm ho hlow hroom (by rw [ClipLog.openSegments_of hclip]; exact hseg)
    · refine exec_accounting_runs h ha hr hrate (by rw [ho]; decide) (by omega) ?_ fun x hx => ?_
      · rw [ClipLog.openSegments_of hclip]
        exact .inr (hno.imp id fun hx => .inr hx.2)
      · obtain ⟨-, hmode, -, hbit, -⟩ := Recorder.setSlot_keeps s.recorder (chargedSlot (s.recorder.slot sl) rate) sl
        obtain ⟨-, hx⟩ := hx
        have hself := Recorder.slot_setSlot s.recorder (chargedSlot (s.recorder.slot sl) rate) sl
        have hother := Recorder.slot_setSlot_other s.recorder (chargedSlot (s.recorder.slot sl) rate) sl
        have hleft := hx sl (by rw [hself]; exact ha) (by rw [hother, ho]; decide)
        rw [hself, hother, hmode, hbit, ← hrate, ClipLog.openSegments_of hclip] at hleft
        by_cases hfit : 30 * rate < (s.recorder.slot (otherSlot sl)).remaining ∧ clip.segments.length < 4
        · rw [if_pos hfit]
          exact hleft.1 hm ho hfit.1 hfit.2
        · rw [if_neg hfit]
          exact hleft.2 (.inr (.inr (by omega)))

end Sys2Proof.Machine

/-! The control event (O57). -/

namespace Sys2Proof.Machine

/-! ## The event up to its target speed -/

/-- The part at a control event, its timer reloaded (R41). -/
def controlDue (ax : Axis) (s : State) : State :=
  { s with
    clock := max s.clock (s.axis ax).controlDue
    lens := s.lens.setAxis { s.axis ax with controlDue := (s.axis ax).controlDue + 1000 } ax }

theorem controlDue_axis (ax : Axis) (s : State) :
    (controlDue ax s).axis ax = { s.axis ax with controlDue := (s.axis ax).controlDue + 1000 } := Lens.setAxis_axis _ _ _

theorem Lens.setAxis_keeps (l : Lens) (a : AxisRec) (ax : Axis) : (l.setAxis a ax).floating = l.floating ∧
    (l.setAxis a ax).demand = l.demand ∧ (l.setAxis a ax).halving = l.halving ∧ (∀ x, (l.setAxis a ax).vmax x = l.vmax x) ∧
    (∀ x, (l.setAxis a ax).gap x = l.gap x) := by
  cases ax <;> exact ⟨rfl, rfl, rfl, fun x => by cases x <;> rfl, fun x => by cases x <;> rfl⟩

theorem exec_controlEvent_eq (ax : Axis) (s : State) : exec (.controlEvent ax) s =
    finish (if (controlDue ax s).lens.floating then controlDue ax s else (controlDue ax s).controlEvent ax) := rfl

theorem exec_controlEvent_floating {ax : Axis} {s : State} (h : s.lens.floating = true) :
    exec (.controlEvent ax) s = .next (settle (controlDue ax s)) := by
  rw [exec_controlEvent_eq]
  exact congrArg finish (if_pos ((Lens.setAxis_keeps _ _ _).1.trans h))

theorem exec_controlEvent_driven {ax : Axis} {s : State} (h : s.lens.floating = false) :
    exec (.controlEvent ax) s = .next (settle ((controlDue ax s).controlEvent ax)) := by
  rw [exec_controlEvent_eq]
  exact congrArg finish (if_neg (by rw [controlDue, (Lens.setAxis_keeps _ _ _).1, h]; decide))

theorem AxisRec.arrived_iff (a : AxisRec) : a.arrived = true ↔ ∃ t, a.target = some t ∧ (a.position - t).natAbs ≤ 2 := by
  unfold AxisRec.arrived
  cases a.target <;> simp

theorem State.controlEvent_under_way {ax : Axis} {v : State} (h : ∀ t, (v.axis ax).target = some t → 2 < ((v.axis ax).position - t).natAbs) :
    v.controlEvent ax = (v.claimAt ax).controlSpeed ax ((v.claimAt ax).lens.targetSpeed ax) := by
  refine if_neg fun ha => ?_
  obtain ⟨t, ht, hd⟩ := (AxisRec.arrived_iff _).1 ha
  have := h t ht
  omega

theorem State.controlEvent_arrives {ax : Axis} {v : State} {t : Int} (ht : (v.axis ax).target = some t)
    (hd : ((v.axis ax).position - t).natAbs ≤ 2) (ho : (v.axis ax).owner ≠ .homing) :
    v.controlEvent ax = ((v.arrive ax).claimAt ax).controlSpeed ax 0 := by
  refine (if_pos ((AxisRec.arrived_iff _).2 ⟨t, ht, hd⟩)).trans ?_
  dsimp only
  rw [if_neg ho]

theorem State.controlEvent_parks {ax : Axis} {v : State} {t : Int} (ht : (v.axis ax).target = some t)
    (hd : ((v.axis ax).position - t).natAbs ≤ 2) (ho : (v.axis ax).owner = .homing) :
    v.controlEvent ax = (v.completeHoming ax).controlSpeed ax 0 := by
  refine (if_pos ((AxisRec.arrived_iff _).2 ⟨t, ht, hd⟩)).trans ?_
  dsimp only
  rw [if_pos ho, State.arrive, ho]

theorem State.claimAt_centred {ax : Axis} {v : State} (h : v.lens.demand = 0) : v.claimAt ax = v :=
  (State.claimAt_claims ax v).2 (.inr (.inl h))

/-! ## The event from its target speed on -/

/-- The duty and the direction of a commanded speed out of a stall pause (R44). -/
def drivenAt (a : AxisRec) (gap : Nat) (vcmd : Int) (vmax : Nat) : AxisRec :=
  { a with gap := gap, vcmd := vcmd, forward := decide (0 < vcmd), duty := if vcmd = 0 then 0 else 96 + vcmd.natAbs * 927 / vmax }

/-- In a direction gap v_cmd is 0 and the gap runs down (R43). -/
theorem SpeedTaken.inGap {ax : Axis} {goal : Int} {s t : State} {a : AxisRec} {n : Nat} (h : SpeedTaken ax goal s t)
    (ha : s.lens.axis ax = a) (hg : a.gap = n + 1) (ho : a.owner = .none) :
    t = { s with lens := s.lens.setAxis { drivenAt a n 0 (s.lens.vmax ax) with dutyRun := none } ax } := by
  obtain ⟨limited, b, -, ⟨a', vcmd, gap, rfl, hgap, -, -, hb⟩, hwatch, -⟩ := h
  subst ha
  obtain ⟨rfl, rfl⟩ := hgap (by omega)
  rw [if_neg (by rw [ho]; simp)] at hb
  rw [hwatch (.inr (by rw [hb]; simp)), hb, hg]
  simp [drivenAt]

/-- Out of a gap and a pause the ramp leads v_cmd to the limited target speed (R43, R44). -/
theorem SpeedTaken.ramps {ax : Axis} {goal : Int} {s t : State} {a : AxisRec} (h : SpeedTaken ax goal s t)
    (ha : s.lens.axis ax = a) (hg : a.gap = 0) (hp : a.pause = none) (ho : a.owner ≠ .operator) : ∃ (limited vcmd : Int) (gap : Nat),
      LimitedSpeed s.lens ax goal limited ∧
      ((0 < a.vcmd ∧ limited < 0) ∨ (a.vcmd < 0 ∧ 0 < limited) → gap = s.lens.gap ax - 1 ∧ vcmd = 0) ∧
      (¬((0 < a.vcmd ∧ limited < 0) ∨ (a.vcmd < 0 ∧ 0 < limited)) → gap = 0 ∧
        (limited.natAbs ≤ a.vcmd.natAbs → vcmd = limited) ∧
        (a.vcmd.natAbs < limited.natAbs → vcmd = max (a.vcmd - 400) (min (a.vcmd + 400) limited))) ∧
      StallWatched ax (drivenAt a gap vcmd (s.lens.vmax ax)) s t := by
  obtain ⟨limited, b, hlim, ⟨a', vcmd, gap, rfl, -, -, hramp, hb⟩, hwatch⟩ := h
  subst ha
  refine ⟨limited, vcmd, gap, hlim, (hramp hg hp).1, (hramp hg hp).2, ?_⟩
  rw [if_neg (by tauto)] at hb
  have hb : b = drivenAt (s.lens.axis ax) gap vcmd (s.lens.vmax ax) := by
    rw [hb]
    simp [drivenAt, hp]
  rwa [← hb]

/-- A target speed of 0 is not limited (R42). -/
theorem LimitedSpeed.zero {l : Lens} {ax : Axis} {v : Int} (h : LimitedSpeed l ax 0 v) : v = 0 := by
  obtain ⟨limit, whole, distance, cap, -, -, -, -, -, -, hv, -⟩ := h
  exact hv (Nat.zero_le _)

/-- The limited target speed of a goto of a HOMED axis (R42). -/
theorem LimitedSpeed.goto {l : Lens} {ax : Axis} {goal v t : Int} {m : Nat} (h : LimitedSpeed l ax goal v)
    (hh : (l.axis ax).homing = .homed) (ht : (l.axis ax).target = some t)
    (hm : m = if l.halving then l.vmax ax / 2 else l.vmax ax) :
    v = clampInt (-(min m (40 * (t - (l.axis ax).position).natAbs) : Nat)) (min m (40 * (t - (l.axis ax).position).natAbs) : Nat) goal := by
  obtain ⟨limit, whole, distance, cap, hwhole, hlimit, hdist, -, -, hcap, h1, h2⟩ := h
  rw [if_neg (fun hn => hn.1 hh)] at hwhole
  rw [if_pos (.inl hh), hdist t ht] at hcap
  rw [hwhole, ← hm] at hlimit
  rw [hlimit] at hcap
  rw [← hcap]
  unfold clampInt
  by_cases hc : goal.natAbs ≤ cap
  · rw [h1 hc]
    omega
  · have := h2 (by omega)
    split_ifs at this <;> omega

section
variable {ax : Axis} {s : State} {a : AxisRec}

/-- A control event in a direction gap of an axis without owner (R43). -/
theorem exec_controlEvent_inGap {n : Nat} (ha : s.axis ax = a) (hfl : s.lens.floating = false) (hg : a.gap = n + 1)
    (ht : a.target = none) (hrun : a.dutyRun = none) (hd : s.lens.demand = 0) (ho : a.owner = .none) :
    exec (.controlEvent ax) s = .next (settle { s with
      clock := max s.clock a.controlDue
      lens := s.lens.setAxis { a with
        controlDue := a.controlDue + 1000, gap := n, vcmd := 0, duty := 0, forward := false } ax }) := by
  subst ha
  obtain ⟨-, hdemand, -⟩ := Lens.setAxis_keeps s.lens { s.axis ax with controlDue := (s.axis ax).controlDue + 1000 } ax
  have hax := controlDue_axis ax s
  rw [exec_controlEvent_driven hfl, State.controlEvent_under_way (by rw [hax]; simp [ht]),
    State.claimAt_centred (hdemand.trans hd)]
  have hspeed := State.controlSpeed_taken ax ((controlDue ax s).lens.targetSpeed ax) (controlDue ax s)
  rw [hspeed.inGap hax hg ho]
  simp only [controlDue, Lens.setAxis_setAxis, drivenAt, hrun]
  rfl

/-- A control event of a goto under way out of a gap and a pause (R41 to R44). -/
theorem State.controlEvent_goto {t : Int} {v gap m : Nat} {goal limited vcmd : Int} (ha : s.axis ax = a) (ho : a.owner = .remote ∨ a.owner = .preset) (hmove : a.move = some .goto)
    (ht : a.target = some t) (hv : a.gotoSpeed = some v) (hh : a.homing = .homed) (hdist : 2 < (a.position - t).natAbs)
    (hg : a.gap = 0) (hp : a.pause = none) (hd : s.lens.demand = 0)
    (hgoal : goal = if a.position < t then (v : Int) else -v)
    (hm : m = if s.lens.halving then s.lens.vmax ax / 2 else s.lens.vmax ax)
    (hlim : limited = clampInt (-(min m (40 * (t - a.position).natAbs) : Nat)) (min m (40 * (t - a.position).natAbs) : Nat) goal)
    (hvcmd : vcmd = if (0 < a.vcmd ∧ limited < 0) ∨ (a.vcmd < 0 ∧ 0 < limited) then 0
      else if limited.natAbs ≤ a.vcmd.natAbs then limited else clampInt (a.vcmd - 400) (a.vcmd + 400) limited)
    (hgap : gap = if (0 < a.vcmd ∧ limited < 0) ∨ (a.vcmd < 0 ∧ 0 < limited) then s.lens.gap ax - 1 else 0) :
    StallWatched ax (drivenAt { a with controlDue := a.controlDue + 1000 } gap vcmd (s.lens.vmax ax)) (controlDue ax s)
      ((controlDue ax s).controlEvent ax) := by
  subst ha
  have hax : (controlDue ax s).lens.axis ax = { s.axis ax with controlDue := (s.axis ax).controlDue + 1000 } := controlDue_axis ax s
  obtain ⟨-, hdemand, hhalving, hvmax, hlgap⟩ :=
    Lens.setAxis_keeps s.lens { s.axis ax with controlDue := (s.axis ax).controlDue + 1000 } ax
  have hvmax : (controlDue ax s).lens.vmax ax = s.lens.vmax ax := hvmax ax
  have hlgap : (controlDue ax s).lens.gap ax = s.lens.gap ax := hlgap ax
  have hhalving : (controlDue ax s).lens.halving = s.lens.halving := hhalving
  have htarget : (controlDue ax s).lens.targetSpeed ax = goal := by
    obtain ⟨-, -, -, -, -, hgoto⟩ := Lens.targetSpeed_is (controlDue ax s).lens ax
    rw [hax] at hgoto
    obtain ⟨hlt, hgt⟩ := hgoto t v ht hv (ho.elim (fun h => .inr (.inr (.inl ⟨h, hmove⟩))) fun h => .inr (.inl h))
    rw [hgoal]
    split_ifs with hpos
    · exact hlt hpos
    · exact hgt (by dsimp only; omega)
  have hunder : ∀ x, ((controlDue ax s).axis ax).target = some x → 2 < (((controlDue ax s).axis ax).position - x).natAbs := by
    intro x hx
    rw [controlDue_axis] at hx ⊢
    obtain rfl : t = x := Option.some.inj (ht.symm.trans hx)
    exact hdist
  rw [State.controlEvent_under_way hunder, State.claimAt_centred (hdemand.trans hd), htarget]
  obtain ⟨limited', vcmd', gap', hl, hturn, hstraight, hwatch⟩ := (State.controlSpeed_taken ax goal (controlDue ax s)).ramps hax hg hp
    (by rcases ho with h | h <;> rw [h] <;> decide)
  have hl := hl.goto (m := m) (t := t) (by rw [hax]; exact hh) (by rw [hax]; exact ht) (by rw [hhalving, hvmax]; exact hm)
  rw [hax] at hl
  obtain rfl : limited = limited' := hlim.trans hl.symm
  rw [hlgap] at hturn
  have hboth : gap' = gap ∧ vcmd' = vcmd := by
    by_cases hc : (0 < (s.axis ax).vcmd ∧ limited < 0) ∨ ((s.axis ax).vcmd < 0 ∧ 0 < limited)
    · rw [if_pos hc] at hvcmd hgap
      obtain ⟨h1, h2⟩ := hturn hc
      exact ⟨h1.trans hgap.symm, h2.trans hvcmd.symm⟩
    · rw [if_neg hc] at hvcmd hgap
      obtain ⟨h1, h2, h3⟩ := hstraight hc
      refine ⟨h1.trans hgap.symm, ?_⟩
      rw [hvcmd]
      dsimp only at h2 h3
      split_ifs with hle
      · exact h2 hle
      · rw [h3 (not_le.1 hle), clampInt]
        omega
  obtain ⟨rfl, rfl⟩ := hboth
  rwa [hvmax] at hwatch

/-- A target speed of 0 out of a gap and a pause, on an axis without owner, brings v_cmd and the duty to 0 (R43, R44). -/
theorem SpeedTaken.stops {t : State} (h : SpeedTaken ax 0 s t) (ha : s.lens.axis ax = a) (hg : a.gap = 0) (hp : a.pause = none)
    (ho : a.owner ≠ .operator) :
    t = { s with lens := s.lens.setAxis { drivenAt a 0 0 (s.lens.vmax ax) with dutyRun := none } ax } := by
  obtain ⟨limited, vcmd, gap, hl, -, hstraight, hwatch, -⟩ := h.ramps ha hg hp ho
  obtain rfl := hl.zero
  obtain ⟨rfl, h0, -⟩ := hstraight (by omega)
  obtain rfl := h0 (Nat.zero_le _)
  exact hwatch (.inr (by simp [drivenAt]))

/-- A REMOTE goto arrives (R41). -/
theorem exec_controlEvent_arrived {t : Int} (ha : s.axis ax = a) (hfl : s.lens.floating = false) (ho : a.owner = .remote)
    (ht : a.target = some t) (hd : (a.position - t).natAbs ≤ 2) (hg : a.gap = 0) (hrun : a.dutyRun = none)
    (hdem : s.lens.demand = 0) : exec (.controlEvent ax) s = .next (settle { s with
      clock := max s.clock a.controlDue
      lens := (s.lens.setAxis { a with
        controlDue := a.controlDue + 1000, owner := .none, move := none, target := none, gotoSpeed := none, driveSpeed := 0
        pause := none, vcmd := 0, duty := 0, forward := false } ax).stopDrive ax
      port := s.port.post (.motionDone ax .arrived .remote a.position) }) := by
  subst ha
  have hax := controlDue_axis ax s
  have harr := (State.arrive_arrives ax (controlDue ax s)).1 (.inr (by rw [hax]; exact ho))
  rw [hax] at harr
  obtain ⟨x, hx⟩ : ∃ x, x = (controlDue ax s).arrive ax := ⟨_, rfl⟩
  rw [← hx] at harr
  have hdem' : x.lens.demand = 0 := by rw [harr, ← hdem]; cases ax <;> rfl
  have hxax : x.lens.axis ax = { unheld { s.axis ax with controlDue := (s.axis ax).controlDue + 1000 } with vcmd := 0 } := by
    rw [harr]
    cases ax <;> rfl
  rw [exec_controlEvent_driven hfl, State.controlEvent_arrives (t := t) (by rw [hax]; exact ht) (by rw [hax]; exact hd)
    (by rw [hax, ho]; decide), ← hx, State.claimAt_centred hdem',
    (State.controlSpeed_taken ax 0 x).stops hxax hg rfl (by simp [unheld]), harr, ho]
  cases ax <;> simp [controlDue, drivenAt, unheld, Lens.setAxis, Lens.stopDrive, hrun, hg]

end

/-- At 2000 counts per second the duty is high enough for the stall watch (R44, R45). -/
theorem drivenAt_duty {a : AxisRec} {gap vmax : Nat} (h1 : 2000 ≤ vmax) (h2 : vmax ≤ 8000) : 300 ≤ (drivenAt a gap 2000 vmax).duty := by
  have hdiv : 2000 * 927 / 8000 ≤ 2000 * 927 / vmax := Nat.div_le_div_left h2 (by omega)
  show 300 ≤ 96 + 2000 * 927 / vmax
  omega

/-- Settles O57: arrival, claim and target speed by the axis's target; then the ramp and the stall watch. -/
theorem controlEventsDriveTheAxis : Obligations.ControlEventsDriveTheAxis := by
  unfold Obligations.ControlEventsDriveTheAxis
  intro ax s a ha
  refine ⟨fun hg => congrArg finish (if_neg (by rw [ha]; exact hg)), fun hg => congrArg finish (if_pos (by rw [ha]; exact hg)),
    fun hfl => ?_, fun v hfl hv => ⟨fun ht => ?_, fun t ht hd ho => ?_, fun t ht hd ho => ?_⟩,
    fun n hfl hg ht hp hrun hd ho => exec_controlEvent_inGap ha hfl hg ht hrun hd ho,
    fun t v goal limited vcmd gap m hfl ho hmove ht hv hh hdist hg hp hrun hd hgoal hm hlim hvcmd hgap => ?_,
    fun t hfl ho ht hd hg hrun hdem => exec_controlEvent_arrived ha hfl ho ht hd hg hrun hdem,
    fun t t₀ hfl ho hmove ht hv hdist hh hg hp hd hhalf hvcmd hrun h1 h2 hstall => ?_⟩
  · subst ha
    exact exec_controlEvent_floating hfl
  · subst ha
    have hv : v = controlDue ax s := hv
    subst hv
    have hax := controlDue_axis ax s
    refine ⟨_, _, _, State.claimAt_claims ax _, Lens.targetSpeed_is _ ax, State.controlSpeed_taken ax _ _, ?_⟩
    rw [exec_controlEvent_driven hfl, State.controlEvent_under_way]
    rw [hax]
    exact ht
  · subst ha
    have hv : v = controlDue ax s := hv
    subst hv
    have hax := controlDue_axis ax s
    refine ⟨_, _, _, State.arrive_arrives ax _, State.claimAt_claims ax _, State.controlSpeed_taken ax 0 _, ?_⟩
    rw [exec_controlEvent_driven hfl, State.controlEvent_arrives (t := t)] <;> rw [hax]
    exacts [ht, hd, ho]
  · subst ha
    have hv : v = controlDue ax s := hv
    subst hv
    have hax := controlDue_axis ax s
    refine ⟨_, _, State.completeHoming_completes ax _, State.controlSpeed_taken ax 0 _, ?_⟩
    rw [exec_controlEvent_driven hfl, State.controlEvent_parks (t := t)] <;> rw [hax]
    exacts [ht, hd, ho]
  · rw [exec_controlEvent_driven hfl]
    obtain ⟨hlow, hhigh⟩ := State.controlEvent_goto ha ho hmove ht hv hh hdist hg hp hd hgoal hm hlim hvcmd hgap
    subst ha
    by_cases hduty : (if vcmd = 0 then 0 else 96 + vcmd.natAbs * 927 / s.lens.vmax ax) < 300
    · rw [hlow (.inr hduty), if_pos hduty]
      simp only [controlDue, Lens.setAxis_setAxis, drivenAt]
    · have hfresh : ¬max (max s.clock (s.axis ax).controlDue) ((s.axis ax).lastEdge.getD 0) + 50000 ≤
          max s.clock (s.axis ax).controlDue := by omega
      rw [if_neg hduty, if_neg hfresh]
      have hstart : max s.clock (s.axis ax).controlDue = (s.axis ax).dutyRun.getD (max s.clock (s.axis ax).controlDue) := by rw [hrun]; rfl
      obtain ⟨hgo, -⟩ := hhigh _ (by rcases ho with h | h <;> simp [drivenAt, h]) (not_lt.1 hduty) hstart
      rw [hgo (not_le.1 hfresh)]
      simp only [controlDue, Lens.setAxis_setAxis, drivenAt]
  · rw [exec_controlEvent_driven hfl]
    have hpos : a.position < t := by omega
    obtain ⟨-, hhigh⟩ := State.controlEvent_goto (goal := 2000) (limited := 2000) (vcmd := 2000) (gap := 0) (m := s.lens.vmax ax) ha
      (.inl ho) hmove ht hv hh (by omega) hg hp hd (by rw [if_pos hpos]; rfl) (by rw [hhalf]; rfl)
      (by unfold clampInt; omega) (by rw [hvcmd]; rfl) (by rw [hvcmd]; rfl)
    subst ha
    have hduty := drivenAt_duty h1 h2 (gap := 0) (a := { s.axis ax with controlDue := (s.axis ax).controlDue + 1000 })
    have hstart : t₀ = (s.axis ax).dutyRun.getD (max s.clock (s.axis ax).controlDue) := by rw [hrun]; rfl
    obtain ⟨-, hsus⟩ := hhigh t₀ (by simp [drivenAt, ho]) hduty hstart
    obtain ⟨hfirst, hsecond⟩ := hsus hstall
    refine ⟨fun hs => ?_, fun t₁ hs hin => ?_⟩
    · rw [hfirst (by simp [drivenAt, hs])]
      simp [controlDue, Lens.setAxis_setAxis, drivenAt, hg]
    · rw [hsecond t₁ hs hin]
      simp [controlDue, Lens.setAxis_setAxis, drivenAt, unheld, heldEnds, ho, hg, hp]

end Sys2Proof.Machine

/-! Conversions and calibrations: their ends, the supply sample and the converter that becomes free (R28 to R32, R181 to R187). -/

namespace Sys2Proof.Machine

/-- The record of a converted input, with the end codes written as codes (R30). -/
theorem convertedRecord_eq (offset : Int) (i : Fin 7) (raw : RawCode) : convertedRecord offset i raw =
    ⟨i, (clampInt 0 4095 ((raw.toNat : Int) - offset)).toNat, if raw = 0 ∨ raw = 4095 then .rail else .ok⟩ := by
  have hlow : raw.toNat = 0 ↔ raw = 0 := by bv_omega
  have hhigh : raw.toNat = 4095 ↔ raw = 4095 := by bv_omega
  unfold convertedRecord
  simp only [hlow, hhigh]

/-- Inputs that are all disabled are all passed over (R29). -/
theorem passDisabled_disabled (made : List ResultRec) {rest : List (Fin 7 × Bool)} (h : ∀ x ∈ rest, x.2 = false) :
    passDisabled made rest = (made ++ rest.map fun x => ⟨x.1, 0, .invalid⟩, []) := by
  induction rest generalizing made with
  | nil => simp [passDisabled]
  | cons x xs ih =>
    obtain ⟨i, on⟩ := x
    obtain rfl : on = false := h (i, on) (by simp)
    simp [passDisabled, ih _ fun x hx => h x (List.mem_cons_of_mem _ hx), invalidRecord]

section conversion

variable {s b : State} {raw : RawCode} {g : Group} {made all : List ResultRec} {i : Fin 7} {on : Bool} {rest : List (Fin 7 × Bool)}
  {t : Nat}

/-- Without a conversion in hand CONVERSION_END has no effect (log entry 1). -/
theorem exec_conversionEnd_none (h : ∀ v, s.conv.activity ≠ .converting v) : exec (.conversionEnd raw) s = .next (settle s) := by
  show execConversionEnd raw s = _
  unfold execConversionEnd
  cases ha : s.conv.activity with
  | converting v => exact absurd ha (h v)
  | idle | calibrating t => rfl

/-- With a conversion in hand CONVERSION_END ends it. -/
theorem exec_conversionEnd {v : Service} (h : s.conv.activity = .converting v) :
    exec (.conversionEnd raw) s = finish ((s.atTime v.stop).conversionEnd v raw) := by
  show execConversionEnd raw s = _
  rw [execConversionEnd, h]

/-- The next input is converted where it is enabled (R29). -/
theorem exec_conversionEnd_next {j : Fin 7} (h : s.conv.activity = .converting ⟨g, made, (i, on) :: (j, true) :: rest, t⟩) :
    exec (.conversionEnd raw) s = .next (settle { s with
      clock := max s.clock t
      conv.activity := .converting ⟨g, made ++ [⟨i, (clampInt 0 4095 ((raw.toNat : Int) - s.conv.offset)).toNat,
        if raw = 0 ∨ raw = 4095 then .rail else .ok⟩], (j, true) :: rest, max s.clock t + 8⟩ }) := by
  rw [exec_conversionEnd h]
  simp [State.conversionEnd, passDisabled, convertedRecord_eq, State.atTime, conversionTime, finish]

/-- The last conversion of a group delivers it, and the converter becomes free (R28, R29). -/
theorem exec_conversionEnd_delivers (h : s.conv.activity = .converting ⟨g, made, (i, on) :: rest, t⟩) (hr : ∀ x ∈ rest, x.2 = false)
    (hall : all = made ++ ⟨i, (clampInt 0 4095 ((raw.toNat : Int) - s.conv.offset)).toNat,
      if raw = 0 ∨ raw = 4095 then .rail else .ok⟩ :: rest.map (fun x => ⟨x.1, 0, .invalid⟩))
    (hb : b = { s with clock := max s.clock t }) :
    exec (.conversionEnd raw) s = finish ((b.deliver g all).becomeFree 5) := by
  subst hb
  rw [exec_conversionEnd h, hall]
  simp only [State.conversionEnd, passDisabled_disabled _ hr, convertedRecord_eq, State.atTime]
  simp

/-- The last conversion of a group where nothing waits at the converter, which is IDLE after it (R28). -/
theorem exec_conversionEnd_last {r : ResultRec} (h : s.conv.activity = .converting ⟨g, made, [(i, on)], t⟩) (ho : s.conv.owed = false)
    (hp : s.conv.pending = ⟨false, false, false, false⟩)
    (hr : r = ⟨i, (clampInt 0 4095 ((raw.toNat : Int) - s.conv.offset)).toNat, if raw = 0 ∨ raw = 4095 then .rail else .ok⟩) :
    exec (.conversionEnd raw) s =
      .next (settle { ({ s with clock := max s.clock t } : State).deliver g (made ++ [r]) with conv.activity := .idle }) := by
  obtain ⟨hpend, howed⟩ := State.deliver_conv g (made ++ [r]) { s with clock := max s.clock t }
  rw [exec_conversionEnd_delivers (all := made ++ [r]) h (by simp) (by rw [hr]; rfl) rfl,
    State.becomeFree_of_none _ _ (howed.trans ho) (hpend.trans hp)]
  rfl

end conversion

/-! ### The supply sample -/

/-- A threshold is judged as R183 says. -/
theorem Confirm.judge_judged (c : Confirm) (threshold mV : Nat) : Judged c (c.judge threshold mV) threshold mV := by
  obtain ⟨flag, run⟩ := c
  unfold Confirm.judge
  refine ⟨?_, ?_, ?_, ?_⟩
  all_goals
    rintro (rfl : flag = _) h
    simp only [Bool.false_eq_true, if_false, if_true]
  · rw [if_pos h]; exact if_congr (by omega) rfl rfl
  · rw [if_neg (by omega)]
  · rw [if_pos h]; exact if_congr (by omega) rfl rfl
  · rw [if_neg (by omega)]

/-- A sample that is not discarded sets the readings and the thresholds' runs (R181, R183). -/
theorem Supply.sample_sampled (p : Supply) (a d : Nat) : Sampled p (p.sample (milliVolts a) (milliVolts d)) a d := by
  refine ⟨?_, Confirm.judge_judged _ _ _, Confirm.judge_judged _ _ _, Confirm.judge_judged _ _ _⟩
  by_cases h : 10000 ≤ d * 18000 / 4095 <;> simp [Supply.sample, milliVolts, h]

/-- The level of the supply is the deepest whose flag is SET (R184). -/
theorem Supply.level_deepest (p : Supply) : Deepest p p.level := by
  unfold Deepest Supply.level
  cases p.cutoff.flag <;> cases p.low.flag <;> cases p.warn.flag <;> decide

/-- A sample after which the supply state stands (R184). -/
theorem State.supplyState_stands {s : State} (h : s.supply.level = s.supply.state) : s.supplyState = s := if_pos h

/-- A sample with an INVALID record is discarded (R181). -/
theorem State.supplySample_discarded {s : State} {a d : ResultRec} (h : a.status = .invalid ∨ d.status = .invalid) :
    s.supplySample a d = s := if_pos h

/-- Any other sample (R181, R184). -/
theorem State.supplySample_taken {s : State} {a d : ResultRec} (ha : a.status ≠ .invalid) (hd : d.status ≠ .invalid) :
    s.supplySample a d = ({ s with supply := s.supply.sample (milliVolts a.value) (milliVolts d.value) } : State).supplyState :=
  if_neg (by simp [ha, hd])

/-- The halving and the three warnings of the supply states stand. -/
def SupplyShown (s t : State) : Prop :=
  t.lens.halving = s.lens.halving ∧ t.ovl.warnings.supplyWarn = s.ovl.warnings.supplyWarn ∧
    t.ovl.warnings.supplyLow = s.ovl.warnings.supplyLow ∧ t.ovl.warnings.supplyCutoff = s.ovl.warnings.supplyCutoff

theorem SupplyShown.trans {s t u : State} (h : SupplyShown s t) (h' : SupplyShown t u) : SupplyShown s u := by
  obtain ⟨hl, hw, hlow, hcut⟩ := h
  obtain ⟨hl', hw', hlow', hcut'⟩ := h'
  exact ⟨hl'.trans hl, hw'.trans hw, hlow'.trans hlow, hcut'.trans hcut⟩

/-- A record supervisor that is handed the power state leaves the warnings of the supply states. -/
theorem State.recPower_shown (p : PowerState) (u : State) : SupplyShown u (u.recPower p) := by
  refine ⟨by simp, ?_⟩
  unfold State.recPower
  dsimp only
  split <;> simp [State.failStart, State.stopRecording, State.tally, State.warn, State.condition, State.setWarned, Warnings.setEntry,
    State.post, State.setRecState]

/-- A report of the reference leaves the warnings of the supply states. -/
theorem State.timecodePower_shown (old new : PowerState) (u : State) : SupplyShown u (u.timecodePower old new) := by
  refine ⟨by simp, ?_⟩
  unfold State.timecodePower State.reportDifference State.reportReference
  split
  · split <;> simp [State.condition, State.setWarned, Warnings.setEntry, State.post]
  · split <;> simp [State.condition, State.setWarned, Warnings.setEntry, State.post]
  · simp

/-- Entry to SHUTDOWN leaves the halving and the warnings of the supply states. -/
theorem State.setPower_shutdown_shown (u : State) : SupplyShown u (u.setPower .shutdown) := by
  have hscanner : SupplyShown u ((({ u with supply.power := .shutdown } : State).scannerPower u.supply.power .shutdown).stabPower .shutdown) := by
    rw [State.scannerPower_rests _ _ _ (.inr rfl)]
    simp [SupplyShown]
  refine (hscanner.trans ((State.timecodePower_shown u.supply.power .shutdown _).trans (State.recPower_shown .shutdown _))).trans ?_
  unfold State.setPower
  simp [State.lensPower, SupplyShown, Overlay.onPower, Overlay.dropWaiting]

/-- A shutdown that begins leaves the halving and the warnings of the supply states (R188). -/
theorem State.beginShutdown_shown (r : ShutdownReason) (u : State) : SupplyShown u (u.beginShutdown r) := by
  unfold State.beginShutdown
  split
  · exact State.setPower_shutdown_shown { u with supply.shutdown := some ⟨r, .waiting⟩, supply.exit := none }
  · exact State.setPower_shutdown_shown { u with supply.shutdown := some ⟨r, .waiting⟩, supply.exit := none }
  · exact ⟨rfl, rfl, rfl, rfl⟩
  · exact ⟨rfl, rfl, rfl, rfl⟩

/-- A change of the supply state sets the halving and the three warnings (R184). -/
theorem State.supplyChanged_shown (old new : SupplyState) (u : State) :
    (u.supplyChanged old new).lens.halving = decide (new = .low ∨ new = .cutoff) ∧
    (u.supplyChanged old new).ovl.warnings.supplyWarn = (if new = .warn then .placed else .absent) ∧
    (u.supplyChanged old new).ovl.warnings.supplyLow = (if new = .low then .placed else .absent) ∧
    (u.supplyChanged old new).ovl.warnings.supplyCutoff = (if new = .cutoff then .placed else .absent) := by
  obtain ⟨v, hv⟩ : ∃ v : State, v = { (u.post (.supplyState new u.supply.effective u.supply.dcPresent)).recSupply new with
    lens.halving := new = SupplyState.low ∨ new = SupplyState.cutoff } := ⟨_, rfl⟩
  obtain ⟨w, hw⟩ : ∃ w, w = if old = .normal ∧ new = .warn then (v.supplyWarnings new).beep .long else v.supplyWarnings new := ⟨_, rfl⟩
  have hshown : SupplyShown w (u.supplyChanged old new) := by
    unfold State.supplyChanged
    rw [hw, hv]
    dsimp only
    split_ifs
    · exact State.beginShutdown_shown _ _
    · exact ⟨rfl, rfl, rfl, rfl⟩
    · exact State.beginShutdown_shown _ _
    · exact ⟨rfl, rfl, rfl, rfl⟩
  have hbeep : SupplyShown (v.supplyWarnings new) w := by
    rw [hw]
    split_ifs <;> simp [SupplyShown]
  obtain ⟨hl, hwarn, hlow, hcut⟩ := hbeep.trans hshown
  rw [hl, hwarn, hlow, hcut]
  refine ⟨by simp [hv], ?_, ?_, ?_⟩ <;> cases new <;> rfl

/-- What CUTOFF makes of the record state (R126). -/
theorem State.recSupply_cutoff (u : State) :
    (u.recSupply .cutoff).recorder.state = (match u.recorder.state with
      | .starting => .standby
      | .recording => .stopping
      | st => st) ∧
    (u.recorder.state = u.supply.recState →
      (u.recSupply .cutoff).supply = { u.supply with recState := (u.recSupply .cutoff).recorder.state }) := by
  unfold State.recSupply
  cases hs : u.recorder.state with
  | starting => simp [State.failStart, State.tally, State.warn, State.post, State.setRecState, Recorder.setTally]
  | recording => simp [State.stopRecording, State.tally, State.condition, State.post, State.setRecState, Recorder.setTally]
  | standby | stopping =>
    refine ⟨hs, fun h => ?_⟩
    show u.supply = { u.supply with recState := u.recorder.state }
    rw [hs, h]

/-- CUTOFF in RUN and STANDBY ends a clip and begins a shutdown (R184, R188). -/
theorem State.supplyChanged_cutoff {old : SupplyState} {u : State} (hp : u.supply.power = .run ∨ u.supply.power = .standby)
    (hrec : u.recorder.state = u.supply.recState) :
    (u.supplyChanged old .cutoff).supply = { u.supply with
      power := .shutdown, exit := none, shutdown := some ⟨.supply, .waiting⟩
      recState := (u.supplyChanged old .cutoff).recorder.state } ∧
    (u.supplyChanged old .cutoff).recorder.state = (match u.recorder.state with
      | .starting => .standby
      | .recording => .stopping
      | st => st) ∧
    ∃ q : Port, (u.supplyChanged old .cutoff).port = q.post (.powerDown .supply) := by
  obtain ⟨v, hv⟩ : ∃ v : State, v = u.post (.supplyState .cutoff u.supply.effective u.supply.dcPresent) := ⟨_, rfl⟩
  obtain ⟨w, hw⟩ : ∃ w : State, w = ({ v.recSupply .cutoff with lens.halving := true } : State).supplyWarnings .cutoff := ⟨_, rfl⟩
  have hchanged : u.supplyChanged old .cutoff = w.beginShutdown .supply := by
    rw [hw, hv]
    simp [State.supplyChanged]
  obtain ⟨hstate, hsup⟩ := v.recSupply_cutoff
  have hvr : v.recorder = u.recorder ∧ v.supply = u.supply := by rw [hv]; exact ⟨rfl, rfl⟩
  rw [hvr.1] at hstate hsup
  rw [hvr.2] at hsup
  have hwr : w.recorder = (v.recSupply .cutoff).recorder ∧ w.supply = (v.recSupply .cutoff).supply := by rw [hw]; simp
  obtain ⟨hwrec, hwsup⟩ := hwr
  have hsupply : w.supply = { u.supply with recState := w.recorder.state } := by rw [hwsup, hwrec, hsup hrec]
  have hpower : w.supply.power = .run ∨ w.supply.power = .standby := by rw [hsupply]; exact hp
  obtain ⟨hleaves, -, hstands, -, -⟩ := State.beginShutdown_leaves (r := .supply) hpower
  have hrest : w.recorder.state = .standby ∨ w.recorder.state = .stopping := by
    rw [hwrec, hstate]
    cases u.recorder.state <;> simp
  rw [hchanged, hstands hrest, hleaves (by rw [hsupply]), hstands hrest, hsupply]
  refine ⟨rfl, by rw [hwrec, hstate], ?_⟩
  unfold State.beginShutdown
  rcases hpower with h | h <;> rw [h] <;> exact ⟨_, rfl⟩

section sample

variable {s b : State} {p : Supply} {new : SupplyState}

/-- A supply sample that leaves the part's state but for the monitor: no clip to end and no shutdown to begin (R184). -/
theorem SupplyStateTaken.quiet {t : State} (h : SupplyStateTaken p new s t)
    (hn : new = .normal ∨ new = .warn ∨ s.recorder.state = .standby ∨ s.recorder.state = .stopping)
    (hc : new = .cutoff → s.supply.power = .init ∨ s.supply.power = .shutdown) : t = { s with
      supply := { p with state := new }
      recorder.supplyState := new
      lens.halving := decide (new = .low ∨ new = .cutoff)
      ovl.warnings := { s.ovl.warnings with
        supplyWarn := if new = .warn then .placed else .absent
        supplyLow := if new = .low then .placed else .absent
        supplyCutoff := if new = .cutoff then .placed else .absent }
      controls.beeper := if s.supply.state = .normal ∧ new = .warn ∧ s.controls.beepEnable = true ∧ s.controls.beeper = none then
          some ⟨.long, s.clock + 400000⟩ else s.controls.beeper
      port := s.port.post (.supplyState new p.effective p.dcPresent) } := by
  obtain ⟨a, b, ha, hstands, -, -, -, hlast⟩ := h
  have hdone : new ≠ .cutoff ∨ s.supply.power = .init ∨ s.supply.power = .shutdown := by
    by_cases h : new = .cutoff
    · exact .inr (hc h)
    · exact .inl h
  have hbeep : (if s.supply.state = .normal ∧ new = .warn then s.controls.beeped .long s.clock else s.controls.beeper) =
      if s.supply.state = .normal ∧ new = .warn ∧ s.controls.beepEnable = true ∧ s.controls.beeper = none then
        some ⟨.long, s.clock + 400000⟩ else s.controls.beeper := by
    by_cases h : s.supply.state = .normal ∧ new = .warn
    · obtain ⟨h1, h2⟩ := h
      simp [h1, h2, Controls.beeped, patternTime]
    · rw [if_neg h, if_neg fun ⟨h1, h2, _⟩ => h ⟨h1, h2⟩]
  rw [hlast hdone, hstands hn, ha, hbeep]

/-- A supply sample that ends a recording or a start in LOW (R126, R184). -/
theorem SupplyStateTaken.low {t : State} (h : SupplyStateTaken p .low s t) (n : Nat) (hc : s.recorder.clip = some n) :
    (s.recorder.state = .recording →
      t.supply = { p with state := .low, recState := .stopping } ∧ t.recorder.state = .stopping ∧
      t.recorder.endLabel = some s.tc.stamp ∧
      t.port = (s.port.post (.supplyState .low p.effective p.dcPresent)).post (.recEnd n .supply s.tc.stamp)) ∧
    (s.recorder.state = .starting →
      t.supply = { p with state := .low, recState := .standby } ∧ t.recorder.state = .standby ∧
      t.port = (s.port.post (.supplyState .low p.effective p.dcPresent)).post (.recFailed n .supply)) := by
  obtain ⟨a, b, rfl, -, hstart, hstop, -, hlast⟩ := h
  rw [hlast (.inl (by simp))]
  refine ⟨fun hr => ?_, fun hr => ?_⟩
  · rw [hstop n (.inl rfl) hr hc]
    exact ⟨rfl, rfl, rfl, rfl⟩
  · rw [hstart n (.inl rfl) hr hc]
    exact ⟨rfl, rfl, rfl⟩

/-- What a sample that is not discarded does (R181, R184): the readings, and the supply state where it changes. -/
theorem State.supplySample_sampled {a d : ResultRec} (ha : a.status ≠ .invalid) (hd : d.status ≠ .invalid) :
    ∃ (p : Supply) (new : SupplyState), Sampled b.supply p a.value d.value ∧ Deepest p new ∧
      (new = b.supply.state → b.supplySample a d = { b with supply := p }) ∧
      (new ≠ b.supply.state → SupplyStateTaken p new b (b.supplySample a d) ∧
        b.supplySample a d = ({ b with supply := { p with state := new } } : State).supplyChanged b.supply.state new ∧
        p.power = b.supply.power ∧ p.recState = b.supply.recState) := by
  obtain ⟨p, hp⟩ : ∃ p, p = b.supply.sample (milliVolts a.value) (milliVolts d.value) := ⟨_, rfl⟩
  have hstate : p.state = b.supply.state := by rw [hp]; rfl
  have hpower : p.power = b.supply.power := by rw [hp]; rfl
  have hrec : p.recState = b.supply.recState := by rw [hp]; rfl
  rw [State.supplySample_taken ha hd, ← hp]
  refine ⟨p, p.level, hp ▸ Supply.sample_sampled _ _ _, Supply.level_deepest p, fun h => ?_, fun h => ?_⟩
  · exact State.supplyState_stands (h.trans hstate.symm)
  · refine ⟨State.supplyState_taken p p.level b rfl h hstate hpower, ?_, hpower, hrec⟩
    unfold State.supplyState
    dsimp only
    rw [hstate, if_neg h]

end sample

/-! ### Calibrations -/

section calibration

variable {s b : State} {raw : RawCode} {t : Nat} {offset : Int} {passed : Bool} {c : Converter}

/-- Without a calibration in hand CALIBRATION_END has no effect (log entry 1). -/
theorem exec_calibrationEnd_none (h : ∀ t, s.conv.activity ≠ .calibrating t) : exec (.calibrationEnd raw) s = .next (settle s) := by
  show execCalibrationEnd raw s = _
  unfold execCalibrationEnd
  cases ha : s.conv.activity with
  | calibrating t => exact absurd ha (h t)
  | idle | converting v => rfl

/-- The end of a calibration: the offset and the self-check, ADC_DONE for the host, and the outcome handed to the supply monitor, after
which the converter becomes free (R31, R32). -/
theorem exec_calibrationEnd (h : s.conv.activity = .calibrating t) (ho : offset = clampInt (-32) 31 ((raw.toNat : Int) - 2048))
    (hp : passed = decide (-16 ≤ offset ∧ offset ≤ 16))
    (hc : c = { s.conv with parties := ⟨false, false, false⟩, offset := offset, selfCheck := passed })
    (hb : b = { s with
      clock := max s.clock t, conv := c
      port := if s.conv.parties.host then s.port.post (.adcDone passed offset raw.toNat) else s.port }) :
    (s.conv.parties.reset = false → s.conv.parties.exit = false → exec (.calibrationEnd raw) s = finish (b.becomeFree 5)) ∧
    (s.conv.parties.reset = true → s.conv.parties.exit = false →
      exec (.calibrationEnd raw) s = finish ((b.endInit passed).becomeFree 5)) ∧
    (s.conv.parties.reset = false → s.conv.parties.exit = true →
      exec (.calibrationEnd raw) s = finish ((b.endExit passed).becomeFree 5)) := by
  have hexec : exec (.calibrationEnd raw) s = finish ((s.atTime t).calibrationEnd raw) := by
    show execCalibrationEnd raw s = _
    rw [execCalibrationEnd, h]
  have hpost : (if s.conv.parties.host then ({ s with clock := max s.clock t, conv := c } : State).post (.adcDone passed offset raw.toNat)
      else { s with clock := max s.clock t, conv := c }) = b := by
    rw [hb]
    cases s.conv.parties.host <;> rfl
  have hend : (s.atTime t).calibrationEnd raw =
      (let s₂ := if s.conv.parties.reset then b.endInit passed else b
      if s.conv.parties.exit then s₂.endExit passed else s₂).becomeFree 5 := by
    rw [← hpost, hc, hp, ho]
    rfl
  rw [hexec, hend]
  refine ⟨fun hr he => ?_, fun hr he => ?_, fun hr he => ?_⟩ <;> simp [hr, he]

/-- The outcome of the exit calibration enters RUN with WAKE (R187). -/
theorem State.endExit_some {u : State} {src : ExitSource} (h : u.supply.exit = some src) : u.endExit passed =
    { (u.post (.wake src passed)).setPower .run with supply.exit := none } := by
  rw [State.endExit, h]

/-- A converter that becomes free leaves the axes, the bridges, the offset and the parties. -/
theorem Freed.keeps {u v : State} (h : Freed u v) : v.lens.zoom = u.lens.zoom ∧ v.lens.focus = u.lens.focus ∧
    v.lens.floating = u.lens.floating ∧ v.conv.offset = u.conv.offset ∧ v.conv.parties = u.conv.parties := by
  induction h with
  | calibration | idle | service => exact ⟨rfl, rfl, rfl, rfl, rfl⟩
  | passed u d v g inputs owed highest all nothing delivered free ih =>
    obtain ⟨x, rfl, hgyro, hlevel, hrocker, hsupply⟩ := delivered
    rcases all with ⟨rfl, rfl⟩ | ⟨rfl, rfl⟩ | ⟨rfl, rfl⟩ | ⟨rfl, rfl⟩
    · rwa [hgyro _ _ rfl rfl] at ih
    · rwa [hlevel _ _ rfl rfl] at ih
    · obtain ⟨m, k, -, -, hk⟩ := hrocker _ rfl rfl
      rwa [hk] at ih
    · rwa [hsupply _ _ rfl rfl (.inl rfl)] at ih

/-- What a homing run that begins leaves of the lens drive and of the blocks it does not touch (R47). -/
theorem HomingBegun.frame {ax : Axis} {u v : State} (h : HomingBegun ax u v) :
    v.supply = u.supply ∧ v.conv = u.conv ∧ v.lens.floating = u.lens.floating ∧ (v.axis ax).homing = .homing .seekNear ∧
      (v.axis ax).owner = .homing ∧ ∀ x, x ≠ ax → v.axis x = u.axis x := by
  obtain ⟨a, rfl, hfocus, hzoom⟩ := h
  cases ax with
  | focus =>
    rw [hfocus rfl]
    refine ⟨rfl, rfl, rfl, rfl, rfl, fun x hx => ?_⟩
    cases x with
    | zoom => rfl
    | focus => exact absurd rfl hx
  | zoom =>
    obtain ⟨hframe, -⟩ := (hzoom rfl).frame
    rw [hframe]
    refine ⟨rfl, rfl, rfl, rfl, rfl, fun x hx => ?_⟩
    cases x with
    | zoom => exact absurd rfl hx
    | focus => rfl

/-- What an entry to RUN leaves of the supply monitor, the converter and the lens drive (R39, R47, R185). -/
theorem RunEntered.blocks {u v : State} (h : RunEntered u v) :
    v.supply = { u.supply with power := .run } ∧ v.conv = u.conv ∧ v.lens.floating = false ∧
      (u.supply.power = .init → ∀ ax, (v.axis ax).homing = .homing .seekNear ∧ (v.axis ax).owner = .homing) ∧
      (u.supply.power ≠ .init → ∀ ax, v.axis ax = { u.axis ax with duty := 0 }) := by
  obtain ⟨k, a, b, c, d, -, ha, hinit, hother, hstab, href, hv, -, -⟩ := h
  have hd : d.lens = b.lens ∧ d.supply = b.supply ∧ d.conv = b.conv := by
    obtain ⟨hframe, -⟩ := hstab.frame
    obtain ⟨hsame, hdiffer⟩ := href
    by_cases hr : c.tc.present = c.tc.reported
    · rw [hsame hr, hframe]
      exact ⟨rfl, rfl, rfl⟩
    · rw [hdiffer hr, hframe]
      exact ⟨rfl, rfl, rfl⟩
  obtain ⟨hlens, hsupply, hconv⟩ := hd
  have hvb : v.lens = b.lens ∧ v.supply = b.supply ∧ v.conv = b.conv := by
    rw [hv]
    exact ⟨hlens, hsupply, hconv⟩
  obtain ⟨hlens, hsupply, hconv⟩ := hvb
  have haxis : ∀ ax, v.axis ax = b.axis ax := fun ax => congrArg (Lens.axis · ax) hlens
  rw [hlens, hsupply, hconv]
  by_cases hp : u.supply.power = .init
  · obtain ⟨z, hzoom, hfocus⟩ := hinit hp
    obtain ⟨hzs, hzc, hzf, hzh, hzo, -⟩ := hzoom.frame
    obtain ⟨hfs, hfc, hff, hfh, hfo, hkeep⟩ := hfocus.frame
    refine ⟨by rw [hfs, hzs, ha], by rw [hfc, hzc, ha], by rw [hff, hzf, ha], fun _ ax => ?_, fun h => absurd hp h⟩
    rw [haxis]
    cases ax with
    | zoom =>
      rw [hkeep .zoom (by decide)]
      exact ⟨hzh, hzo⟩
    | focus => exact ⟨hfh, hfo⟩
  · rw [hother hp, ha]
    refine ⟨rfl, rfl, rfl, fun h => absurd h hp, fun _ ax => ?_⟩
    rw [haxis, hother hp, ha]
    cases ax <;> rfl

/-- What an entry to RUN leaves at the end of the step, also after the converter became free. -/
theorem RunEntered.freed {u w x v : State} (h : RunEntered u w) (hl : x.lens = w.lens) (hc : x.conv = w.conv) (hv : Freed x v) :
    (settle v).supply = x.supply ∧ (settle v).lens.floating = false ∧ (settle v).conv.offset = u.conv.offset ∧
      (settle v).conv.parties = u.conv.parties ∧ ∀ ax, (settle v).axis ax = w.axis ax := by
  obtain ⟨-, hconv, hfloat, -, -⟩ := h.blocks
  obtain ⟨hzoom, hfocus, hfl, hoffset, hparties⟩ := hv.keeps
  have hkeep : (settle v).supply = v.supply ∧ (settle v).lens = v.lens ∧ (settle v).conv = v.conv := by
    simp only [settle, publish, and_self]
  obtain ⟨hsupply, hlens, hconv'⟩ := hkeep
  rw [hsupply, hlens, hconv', hfl, hoffset, hparties, hl, hc, hconv]
  refine ⟨hv.supply, hfloat, rfl, rfl, fun ax => ?_⟩
  unfold State.axis
  rw [hlens, ← hl]
  cases ax with
  | zoom => exact hzoom
  | focus => exact hfocus

end calibration

/-! ### The obligation -/

section clauses

variable {s : State} {raw : RawCode} {a r : ResultRec} {on : Bool} {t : Nat}

/-- The last conversion of the GYRO group, with nothing waiting. -/
theorem exec_conversionEnd_gyro (h : s.conv.activity = .converting ⟨.gyro, [a], [(1, on)], t⟩) (ha : a.input = 0)
    (ho : s.conv.owed = false) (hp : s.conv.pending = ⟨false, false, false, false⟩)
    (hr : r = ⟨1, (clampInt 0 4095 ((raw.toNat : Int) - s.conv.offset)).toNat, if raw = 0 ∨ raw = 4095 then .rail else .ok⟩) :
    exec (.conversionEnd raw) s = .next (settle { s with
      clock := max s.clock t
      stab.mailbox := some (a, r)
      conv.activity := .idle
      conv.last := (s.conv.last.set 0 a).set 1 r }) := by
  rw [exec_conversionEnd_last h ho hp hr]
  obtain ⟨input, value, status⟩ := a
  obtain rfl : input = 0 := ha
  rw [hr]
  rfl

/-- The conversion of the ROCKER group, with nothing waiting. -/
theorem exec_conversionEnd_rocker (h : s.conv.activity = .converting ⟨.rocker, [], [(2, on)], t⟩)
    (ho : s.conv.owed = false) (hp : s.conv.pending = ⟨false, false, false, false⟩)
    (hr : r = ⟨2, (clampInt 0 4095 ((raw.toNat : Int) - s.conv.offset)).toNat, if raw = 0 ∨ raw = 4095 then .rail else .ok⟩) : ∃ u,
    exec (.conversionEnd raw) s = .next (settle u) ∧
    u = { s with
      clock := max s.clock t
      controls.rocker := u.controls.rocker
      lens := { s.lens with
        demand := if u.controls.rocker.demand = s.controls.rocker.demand then s.lens.demand else u.controls.rocker.demand
        blocked := if u.controls.rocker.demand = s.controls.rocker.demand then s.lens.blocked
          else s.lens.blocked && decide (u.controls.rocker.demand ≠ 0) }
      conv.activity := .idle
      conv.last := s.conv.last.set 2 r } ∧
    (s.supply.power ≠ .run → ∃ m : Rocker, RockerTook s.controls.rocker m r ∧ u.controls.rocker = { m with demand := 0 }) ∧
    (s.supply.power = .run → RockerTook s.controls.rocker u.controls.rocker r) := by
  obtain ⟨v, hv, -, -, hrocker, -⟩ := State.deliver_delivered .rocker [r] { s with clock := max s.clock t }
  obtain ⟨m, k, hm, hk, hd⟩ := hrocker r rfl rfl
  refine ⟨_, exec_conversionEnd_last h ho hp hr, ?_, fun hrun => ⟨m, hm, ?_⟩, fun hrun => ?_⟩
  · rw [List.nil_append, hd, hv, hr]
    rfl
  · rw [List.nil_append, hd]
    exact hk.trans (if_neg hrun)
  · rw [List.nil_append, hd]
    exact (hk.trans (if_pos hrun)) ▸ hm

/-- The last conversion of the SUPPLY group, with nothing waiting: the sample is discarded or taken (R181, R184). -/
theorem exec_conversionEnd_supply (h : s.conv.activity = .converting ⟨.supply, [a], [(6, on)], t⟩) (ha : a.input = 5)
    (ho : s.conv.owed = false) (hp : s.conv.pending = ⟨false, false, false, false⟩)
    (hr : r = ⟨6, (clampInt 0 4095 ((raw.toNat : Int) - s.conv.offset)).toNat, if raw = 0 ∨ raw = 4095 then .rail else .ok⟩) :
    exec (.conversionEnd raw) s = .next (settle { ({ s with
      clock := max s.clock t, conv.last := (s.conv.last.set 5 a).set 6 r } : State).supplySample a r with conv.activity := .idle }) ∧
    r.status ≠ .invalid := by
  rw [exec_conversionEnd_last h ho hp hr]
  obtain ⟨input, value, status⟩ := a
  obtain rfl : input = 5 := ha
  rw [hr]
  refine ⟨rfl, ?_⟩
  dsimp only
  split_ifs <;> decide

/-- The delivery of a SUPPLY pair (R29, R181). -/
theorem State.deliver_supply (s : State) (a r : ResultRec) : s.deliver .supply [a, r] =
    ({ s with conv.last := (s.conv.last.set a.input a).set r.input r } : State).supplySample a r := rfl

end clauses

/-- Settles O56: the conversion's end is worked along the inputs left to convert and the group delivered, a supply sample along the
supply state it leads to, and the calibration's end along its parties. -/
theorem conversionsAndCalibrationsEnd : Obligations.ConversionsAndCalibrationsEnd := by
  intro s raw
  refine ⟨exec_conversionEnd_none, fun g made i j rest on t h => exec_conversionEnd_next h, fun a on t h ha ho hp =>
    ⟨_, rfl, exec_conversionEnd_gyro h ha ho hp rfl⟩, fun on t r h ho hp hr => exec_conversionEnd_rocker h ho hp hr,
    fun a r on t h ha ho hp hr => ?_, fun g made all i on rest t b h hrest hall hb => ⟨fun hg => ?_, fun a r hg hmade hia hir => ?_⟩,
    fun t offset passed c h hoff hpass hc => ⟨fun hparties => ?_, fun b hb => ?_⟩, exec_calibrationEnd_none,
    fun t h hparties ho hp => ?_, fun t h hparties hinit => ?_, fun t src h hparties hstandby hexit => ?_⟩
  · obtain ⟨hexec, hir⟩ := exec_conversionEnd_supply h ha ho hp hr
    refine ⟨_, rfl, fun hi => ?_, fun hi => ?_⟩
    · rw [hexec, State.supplySample_discarded (.inl hi)]
    · obtain ⟨b, hb⟩ : ∃ b : State, b = { s with clock := max s.clock t, conv.last := (s.conv.last.set 5 a).set 6 r } := ⟨_, rfl⟩
      rw [← hb] at hexec
      obtain ⟨p, new, hsampled, hdeepest, hstands, hchanges⟩ := State.supplySample_sampled (b := b) hi hir
      have hbs : b.supply = s.supply ∧ b.recorder = s.recorder ∧ b.tc = s.tc ∧ b.port = s.port := by rw [hb]; exact ⟨rfl, rfl, rfl, rfl⟩
      obtain ⟨hbsup, hbrec, hbtc, hbport⟩ := hbs
      rw [hbsup] at hsampled hstands hchanges
      refine ⟨p, new, hsampled, hdeepest, fun hsame => ?_, fun hnew => ⟨_, hexec, ?_⟩⟩
      · rw [hexec, hstands hsame, hb]
      · obtain ⟨htaken, hform, hpow, hrs⟩ := hchanges hnew
        obtain ⟨hhalving, hwarn, hlow, hcut⟩ := State.supplyChanged_shown s.supply.state new { b with supply := { p with state := new } }
        rw [← hform] at hhalving hwarn hlow hcut
        refine ⟨?_, ?_, hhalving, hwarn, hlow, hcut, fun hq hc => ?_, fun n hn hrecst hclip => ?_, fun n hn hrecst hclip => ?_,
          fun hn hrun hsync => ?_⟩
        · show (b.supplySample a r).clock = _
          rw [(State.supplySample_frame a r b).2.2.1, hb]
        · show { (b.supplySample a r).conv with activity := .idle } = _
          rw [(State.supplySample_frame a r b).2.1, hb]
        · rw [htaken.quiet (by rw [hbrec]; exact hq) (by rw [hbsup]; exact hc), hb]
        · subst hn
          have hend := (htaken.low n (by rw [hbrec]; exact hclip)).1 (by rw [hbrec]; exact hrecst)
          rw [hbtc, hbport] at hend
          exact hend
        · subst hn
          have hend := (htaken.low n (by rw [hbrec]; exact hclip)).2 (by rw [hbrec]; exact hrecst)
          rw [hbport] at hend
          exact hend
        · subst hn
          obtain ⟨hsupply, hstate, hport⟩ := State.supplyChanged_cutoff (old := s.supply.state)
            (u := { b with supply := { p with state := .cutoff } }) (by rw [hpow]; exact hrun) (by rw [hrs]; exact hbrec ▸ hsync)
          rw [← hform] at hsupply hstate hport
          rw [hbrec] at hstate
          exact ⟨hsupply, hstate, hport⟩
  · refine ⟨b.deliver g all, _, State.deliver_delivered g all b, State.becomeFree_freed5 _, exec_conversionEnd_delivers h hrest hall hb⟩
  · subst hg hb
    have hexec := exec_conversionEnd_delivers h hrest hall rfl
    rw [hmade, State.deliver_supply] at hexec
    obtain ⟨p, new, hsampled, hdeepest, hstands, hchanges⟩ := State.supplySample_sampled
      (b := { s with clock := max s.clock t, conv.last := (s.conv.last.set a.input a).set r.input r }) hia hir
    refine ⟨p, new, hsampled, hdeepest, fun hsame => ⟨_, State.becomeFree_freed5 _, ?_⟩, fun hnew =>
      ⟨_, _, (hchanges hnew).1, State.becomeFree_freed5 _, hexec⟩⟩
    rw [hexec, hstands hsame]
    rfl
  · obtain ⟨hhost, -, -⟩ := exec_calibrationEnd h hoff hpass hc rfl
    rw [hparties] at hhost
    exact ⟨_, State.becomeFree_freed5 _, hhost rfl rfl⟩
  · obtain ⟨-, hreset, hexit⟩ := exec_calibrationEnd h hoff hpass hc hb
    have hbs : b.supply = s.supply := by rw [hb]
    rw [← hbs]
    refine ⟨fun hr he hinit => ?_, fun src hr he hsrc => ?_, fun hr he hnone => ?_⟩
    · refine ⟨_, _, State.setPower_run _, State.becomeFree_freed5 _, ?_⟩
      rw [hreset hr he, State.endInit, if_pos hinit]
      rfl
    · refine ⟨_, _, State.setPower_run _, State.becomeFree_freed5 _, ?_⟩
      rw [hexit hr he, State.endExit, hsrc]
      rfl
    · have hfree : Freed b (b.becomeFree 5) := State.becomeFree_freed5 _
      refine ⟨_, hfree, hfree.supply, ?_⟩
      rw [hexit hr he, State.endExit, hnone]
      rfl
  · obtain ⟨hhost, -, -⟩ := exec_calibrationEnd h rfl rfl rfl rfl
    rw [hparties] at hhost
    have hend := (hhost rfl rfl).trans (congrArg finish (State.becomeFree_of_none 4 _ ho hp))
    rw [hend]
    have hpass : (-16 ≤ clampInt (-32) 31 ((raw.toNat : Int) - 2048) ∧ clampInt (-32) 31 ((raw.toNat : Int) - 2048) ≤ 16) ↔
        (-16 ≤ (raw.toNat : Int) - 2048 ∧ (raw.toNat : Int) - 2048 ≤ 16) := by unfold clampInt; omega
    simp only [hpass]
    rfl
  · obtain ⟨-, hreset, -⟩ := exec_calibrationEnd h rfl rfl rfl rfl
    rw [hparties] at hreset
    have hend := (hreset rfl rfl).trans (congrArg (fun u => finish (State.becomeFree 5 u)) (if_pos hinit))
    obtain ⟨hsupply, hfloat, hoffset, hpart, haxis⟩ := (State.setPower_run _).freed rfl rfl (State.becomeFree_freed5 _)
    obtain ⟨hrun, -, -, hhome, -⟩ := (State.setPower_run _).blocks
    refine ⟨_, hend, by rw [hsupply, hrun], ?_, ?_, ?_, ?_, hfloat, hoffset, hpart⟩
    · exact (haxis .zoom) ▸ (hhome hinit .zoom).1
    · exact (haxis .focus) ▸ (hhome hinit .focus).1
    · exact (haxis .zoom) ▸ (hhome hinit .zoom).2
    · exact (haxis .focus) ▸ (hhome hinit .focus).2
  · obtain ⟨passed, hpassed⟩ : ∃ passed, passed = decide (-16 ≤ clampInt (-32) 31 ((raw.toNat : Int) - 2048) ∧
      clampInt (-32) 31 ((raw.toNat : Int) - 2048) ≤ 16) := ⟨_, rfl⟩
    obtain ⟨c, hc⟩ : ∃ c : Converter, c = { s.conv with
      parties := ⟨false, false, false⟩, offset := clampInt (-32) 31 ((raw.toNat : Int) - 2048), selfCheck := passed } := ⟨_, rfl⟩
    obtain ⟨b, hb⟩ : ∃ b : State, b = { s with
      clock := max s.clock t, conv := c, port := if s.conv.parties.host then s.port.post (.adcDone passed
        (clampInt (-32) 31 ((raw.toNat : Int) - 2048)) raw.toNat) else s.port } := ⟨_, rfl⟩
    obtain ⟨-, -, hexits⟩ := exec_calibrationEnd h rfl hpassed hc hb
    have hbs : b.supply = s.supply := by rw [hb]
    have hbx : ∀ ax, b.axis ax = s.axis ax := fun ax => by rw [hb]; rfl
    rw [hparties] at hexits
    have hend := hexits rfl rfl
    rw [State.endExit_some (hbs ▸ hexit)] at hend
    have henter := State.setPower_run (b.post (.wake src passed))
    obtain ⟨hsupply, hfloat, -, -, haxis⟩ := henter.freed (x := { (b.post (.wake src passed)).setPower .run with supply.exit := none })
      rfl rfl (State.becomeFree_freed5 _)
    obtain ⟨hrun, -, -, -, hstay⟩ := henter.blocks
    refine ⟨_, hend, ?_, by rw [hsupply], fun ax => ?_, hfloat⟩
    · rw [hsupply]
      exact congrArg Supply.power hrun
    · have hnot : (b.post (.wake src passed)).supply.power ≠ .init := by rw [State.post_supply, hbs, hstandby]; decide
      rw [haxis ax, hstay hnot ax, ← hbx ax]
      exact ⟨rfl, rfl, rfl⟩

end Sys2Proof.Machine

/-! The requesters' timers: what each asks of the converter, and what a sample or level event takes (R26 to R29, R71, R72, R147). -/

namespace Sys2Proof.Machine

section asked

variable {g : Group} {s t : State}

/-- A request at an IDLE converter with an enabled input begins the service at the first of them (R26, R29). -/
theorem Asked.serves {before rest : List (Fin 7)} {i : Fin 7} (h : Asked g s t) (hi : s.conv.activity = .idle) (ho : s.conv.owed = false)
    (hin : InputsOf g (before ++ i :: rest)) (hc : s.conv.selfCheck = true) (hd : ∀ j ∈ before, s.conv.enables.get j = false)
    (he : s.conv.enables.get i = true) : t = { s with
      conv.activity := .converting ⟨g, before.map fun j => ⟨j, 0, .invalid⟩, (i, true) :: rest.map fun j => (j, s.conv.enables.get j),
        s.clock + 8⟩ } :=
  (h.1 hi ho).1 before rest i hin hc hd he

/-- A request at a busy converter keeps the rocker's group pending, with a miss where it was pending already (R26, R27). -/
theorem Asked.waits_rocker (h : Asked .rocker s t) (hb : s.conv.activity ≠ .idle) : t = { s with
    controls.rocker.misses := if s.conv.pending.rocker then countUp 255 s.controls.rocker.misses else s.controls.rocker.misses
    conv.pending.rocker := true } := by
  rw [h.2 (.inl hb)]
  simp [GroupSet.put]

/-- A request at a busy converter keeps the supply's group pending, with a miss where it was pending already (R26, R27). -/
theorem Asked.waits_supply (h : Asked .supply s t) (hb : s.conv.activity ≠ .idle) : t = { s with
    supply.missed := if s.conv.pending.supply then countUp 255 s.supply.missed else s.supply.missed
    conv.pending.supply := true } := by
  rw [h.2 (.inl hb)]
  simp [GroupSet.put]

/-- A request at an IDLE converter with nothing to convert and nothing waiting delivers INVALID records at once (R29). -/
theorem State.askConverter_nothing (hi : s.conv.activity = .idle) (ho : s.conv.owed = false)
    (hp : s.conv.pending = ⟨false, false, false, false⟩)
    (hn : s.conv.selfCheck = false ∨ ∀ j ∈ groupInputs g, s.conv.enables.get j = false) :
    s.askConverter g = { s.deliver g ((groupInputs g).map fun j => ⟨j, 0, .invalid⟩) with conv.activity := .idle } := by
  obtain ⟨hpend, howed⟩ := State.deliver_conv g ((groupInputs g).map fun j => ⟨j, 0, .invalid⟩) s
  simp only [State.askConverter, hi, ho, and_self, if_true, s.conv.serve_nothing g s.clock hn, List.isEmpty_nil]
  exact State.becomeFree_of_none 4 _ (howed.trans ho) (hpend.trans hp)

end asked

section timers

variable {s : State}

/-- Outside RUN the rocker's request timer is reloaded only (R8). -/
theorem exec_rockerRequestTimer_rests (h : s.supply.power ≠ .run) : exec .rockerRequestTimer s = .next (settle { s with
    clock := max s.clock s.controls.rockerDue, controls.rockerDue := s.controls.rockerDue + 5000 }) :=
  congrArg finish (if_neg h)

/-- In RUN the rocker asks (R8). -/
theorem exec_rockerRequestTimer_asks (h : s.supply.power = .run) : exec .rockerRequestTimer s = .next (settle (({ s with
    clock := max s.clock s.controls.rockerDue, controls.rockerDue := s.controls.rockerDue + 5000 } : State).askConverter .rocker)) :=
  congrArg finish (if_pos h)

/-- The supply monitor asks in every power state (R181). -/
theorem exec_supplyRequestTimer : exec .supplyRequestTimer s = .next (settle (({ s with
    clock := max s.clock s.supply.requestDue
    supply.requestDue := s.supply.requestDue + if s.supply.power = .standby then 100000 else 10000 } : State).askConverter .supply)) := by
  have hperiod : supplyPeriod s.supply.power = if s.supply.power = .standby then 100000 else 10000 := by
    cases s.supply.power <;> rfl
  rw [← hperiod]
  rfl

/-- With the first of its inputs enabled the supply's group is taken into service at it (R26, R29). -/
theorem exec_supplyRequestTimer_serves (hi : s.conv.activity = .idle) (ho : s.conv.owed = false) (hc : s.conv.selfCheck = true)
    (h5 : s.conv.enables.get 5 = true) : exec .supplyRequestTimer s = .next (settle { s with
      clock := max s.clock s.supply.requestDue
      supply.requestDue := s.supply.requestDue + if s.supply.power = .standby then 100000 else 10000
      conv.activity := .converting ⟨.supply, [], [(5, true), (6, s.conv.enables.get 6)], max s.clock s.supply.requestDue + 8⟩ }) := by
  have hask := (State.askConverter_asked .supply { s with
    clock := max s.clock s.supply.requestDue
    supply.requestDue := s.supply.requestDue + if s.supply.power = .standby then 100000 else 10000 }).serves (before := [])
    (rest := [6]) (i := 5) hi ho (by simp [InputsOf]) hc (by simp) h5
  rw [exec_supplyRequestTimer, hask]
  rfl

/-- Outside RUN the sample event is reloaded only (R71). -/
theorem exec_sampleEvent_rests (h : s.supply.power ≠ .run) : exec .sampleEvent s = .next (settle { s with
    clock := max s.clock s.stab.sampleDue, stab.sampleDue := s.stab.sampleDue + 1000 }) :=
  congrArg finish (if_neg h)

/-- In RUN a sample event takes its pair and asks (R71). -/
theorem exec_sampleEvent_asks (h : s.supply.power = .run) : exec .sampleEvent s = .next (settle (({ s with
    clock := max s.clock s.stab.sampleDue, stab.sampleDue := s.stab.sampleDue + 1000 } : State).sample.askConverter .gyro)) :=
  congrArg finish (if_pos h)

/-- In STANDBY the level event is reloaded only (R147). -/
theorem exec_levelEvent_rests (h : s.audio.power = .standby) : exec .levelEvent s = .next (settle { s with
    clock := max s.clock s.audio.levelDue, audio.levelDue := s.audio.levelDue + 1000 }) :=
  congrArg finish (if_pos h)

/-- Outside STANDBY a level event takes its pair and asks (R147). -/
theorem exec_levelEvent_asks (h : s.audio.power ≠ .standby) : exec .levelEvent s = .next (settle (({ s with
    clock := max s.clock s.audio.levelDue, audio.levelDue := s.audio.levelDue + 1000 } : State).level.askConverter .level)) :=
  congrArg finish (if_neg h)

/-- A FAULT in ACTIVE leaves the sub-state with the coils centred, STAB_FAULT and STAB_STATE (R68, R69). -/
theorem State.stabFault_active {r : StabReason} {sub : SubState} (h : s.stab.state = .active sub) : s.stabFault r = { s with
    stab := leftActive s.stab (.fault r)
    ovl.warnings.stabFault := .placed
    port := s.port.post (.stabState (.fault r) none) } := by
  simp [State.stabFault, State.stabBecomes, Stabiliser.enter, Stabiliser.isActive, Stabiliser.leaveActive, Stabiliser.blocking, h,
    State.condition, State.setWarned, Warnings.setEntry, State.post, leftActive, centredAxis, GyroAxis.centred]

/-- Out of ACTIVE a sample event without a pair does nothing (R72). -/
theorem State.sample_none (hm : s.stab.mailbox = none) (ha : ∀ sub, s.stab.state ≠ .active sub) : s.sample = s := by
  unfold State.sample
  rw [hm]
  cases hs : s.stab.state with
  | active sub => exact absurd hs (ha sub)
  | off | standby | fault r => rfl

/-- In ACTIVE a sample event without a pair is a missed sample (R72). -/
theorem State.sample_missed {sub : SubState} (hm : s.stab.mailbox = none) (ha : s.stab.state = .active sub) :
    (s.stab.missedRun < 49 → s.sample = { s with
      stab.missedRun := s.stab.missedRun + 1, stab.missed := countUp 255 s.stab.missed }) ∧
    (49 ≤ s.stab.missedRun → s.sample = { s with
      stab := { leftActive s.stab (.fault .noSamples) with missed := countUp 255 s.stab.missed }
      ovl.warnings.stabFault := .placed
      port := s.port.post (.stabState (.fault .noSamples) none) }) := by
  have hs : s.sample = s.missedSample := by simp only [State.sample, hm, ha]
  rw [hs]
  refine ⟨fun h => if_neg (by dsimp only; omega), fun h =>
    (if_pos (by dsimp only; omega)).trans ((State.stabFault_active (s := { s with
      stab.missedRun := s.stab.missedRun + 1, stab.missed := countUp 255 s.stab.missed }) ha).trans rfl)⟩

/-- A level event without a pair counts (R147). -/
theorem State.level_none (hm : s.audio.mailbox = none) : s.level = { s with audio.missed := countUp 255 s.audio.missed } := by
  unfold State.level
  rw [hm]

/-- A level event with a pair takes it (R147). -/
theorem State.level_some {pair : ResultRec × ResultRec} (hm : s.audio.mailbox = some pair) : s.level = s.takeLevels pair := by
  unfold State.level
  rw [hm]

end timers

/-- Settles O54: each timer asks for its group, and what the converter then does follows its state. -/
theorem requestersAskTheConverter : Obligations.RequestersAskTheConverter := by
  intro s
  refine ⟨exec_rockerRequestTimer_rests, fun h => ⟨_, State.askConverter_asked _ _, exec_rockerRequestTimer_asks h⟩,
    ⟨_, State.askConverter_asked _ _, exec_supplyRequestTimer⟩, fun h hi ho hp hc he => ?_, fun h hb => ?_, fun hi ho hp hc h5 h6 => ?_,
    fun hi ho hc h5 h6 => ?_, fun hi ho hc h5 h6 => ?_, fun hb => ?_, exec_sampleEvent_rests, fun b hr hm hb => ⟨fun ha => ?_,
    fun sub ha hrun => ?_, fun sub ha hrun => ?_⟩, exec_levelEvent_rests, fun h hm => ?_, fun a b h hm => ?_,
    fun hr hi ho hp hn => ?_, fun hi ho hp hn => ?_⟩
  · have hask := (State.askConverter_asked .rocker { s with
      clock := max s.clock s.controls.rockerDue, controls.rockerDue := s.controls.rockerDue + 5000 }).serves (before := []) (rest := []) (i := 2) hi ho
      (by simp [InputsOf]) hc (by simp) he
    rw [exec_rockerRequestTimer_asks h, hask]
    rfl
  · exact (exec_rockerRequestTimer_asks h).trans (congrArg finish ((State.askConverter_asked .rocker _).waits_rocker hb))
  · rw [exec_supplyRequestTimer_serves hi ho hc h5, h6]
  · rw [exec_supplyRequestTimer_serves hi ho hc h5, h6]
  · have hask := (State.askConverter_asked .supply { s with
      clock := max s.clock s.supply.requestDue
      supply.requestDue := s.supply.requestDue + if s.supply.power = .standby then 100000 else 10000 }).serves (before := [5])
      (rest := []) (i := 6) hi ho (by simp [InputsOf]) hc (by simpa using h5) h6
    rw [exec_supplyRequestTimer, hask]
    rfl
  · exact exec_supplyRequestTimer.trans (congrArg finish ((State.askConverter_asked .supply _).waits_supply hb))
  · refine ⟨_, State.askConverter_asked .gyro b, ?_⟩
    have hs : b.sample = b := State.sample_none (by rw [hb]; exact hm) (by rw [hb]; exact ha)
    rw [exec_sampleEvent_asks hr, ← hb, hs]
  · have hs := (State.sample_missed (s := b) (by rw [hb]; exact hm) (by rw [hb]; exact ha)).1 (by rw [hb]; exact hrun)
    refine ⟨_, State.askConverter_asked _ _, ?_⟩
    rw [exec_sampleEvent_asks hr, ← hb, hs, hb]
  · have hs := (State.sample_missed (s := b) (by rw [hb]; exact hm) (by rw [hb]; exact ha)).2 (by rw [hb]; exact hrun)
    refine ⟨_, State.askConverter_asked _ _, ?_⟩
    rw [exec_sampleEvent_asks hr, ← hb, hs, hb]
  · exact ⟨_, State.askConverter_asked _ _, (exec_levelEvent_asks h).trans (congrArg (fun u => finish (State.askConverter .level u))
      (State.level_none hm))⟩
  · obtain ⟨u, m, hu, hframe, hch1, hm2, hch2⟩ := State.takeLevels_taken a b { s with
      clock := max s.clock s.audio.levelDue, audio.levelDue := s.audio.levelDue + 1000 }
    refine ⟨_, u, m, State.askConverter_asked .level u, ?_, hframe, hch1, hm2, hch2⟩
    refine (exec_levelEvent_asks h).trans (congrArg (fun v => finish (State.askConverter .level v)) (Eq.trans ?_ hu.symm))
    exact State.level_some (s := { s with clock := _, audio.levelDue := _ }) hm
  · obtain ⟨v, hv, -, -, hrocker, -⟩ := State.deliver_delivered .rocker [⟨2, 0, .invalid⟩] { s with
      clock := max s.clock s.controls.rockerDue, controls.rockerDue := s.controls.rockerDue + 5000 }
    obtain ⟨m, k, hm, hk, hd⟩ := hrocker _ rfl rfl
    have hnone : s.conv.selfCheck = false ∨ ∀ j ∈ groupInputs .rocker, s.conv.enables.get j = false :=
      hn.imp_right fun h j hj => by rw [List.mem_singleton.1 hj]; exact h
    have hask := State.askConverter_nothing (g := .rocker) (s := { s with
      clock := max s.clock s.controls.rockerDue, controls.rockerDue := s.controls.rockerDue + 5000 }) hi ho hp hnone
    have hmade : (groupInputs .rocker).map (fun j => (⟨j, 0, .invalid⟩ : ResultRec)) = [⟨2, 0, .invalid⟩] := rfl
    rw [hmade, hd, hv, ← hi] at hask
    exact ⟨_, (exec_rockerRequestTimer_asks hr).trans (congrArg finish hask), rfl, (hk.trans (if_pos hr)) ▸ hm⟩
  · have hnone : s.conv.selfCheck = false ∨ ∀ j ∈ groupInputs .supply, s.conv.enables.get j = false :=
      hn.imp_right fun ⟨h5, h6⟩ j hj => by rcases List.mem_pair.1 hj with rfl | rfl; exacts [h5, h6]
    have hask := State.askConverter_nothing (g := .supply) (s := { s with
      clock := max s.clock s.supply.requestDue
      supply.requestDue := s.supply.requestDue + if s.supply.power = .standby then 100000 else 10000 }) hi ho hp hnone
    refine exec_supplyRequestTimer.trans (congrArg finish (hask.trans ?_))
    rw [← hi]
    exact congrArg (fun v : State => { v with conv.activity := s.conv.activity }) (State.supplySample_discarded
      (a := ⟨5, 0, .invalid⟩) (.inl rfl))

end Sys2Proof.Machine

/-! The sample event with a pair (R71 to R79): the copies, the rail run, the computation and what the pan test and the learning keep. -/

namespace Sys2Proof.Machine

section pair

variable {s b : State} {y p : ResultRec}

/-- A taken pair hands its validity to the stabiliser, whose state follows (R71). -/
theorem State.takePair_follows (hb : b = { s with stab := { s.stab with
      mailbox := none
      yaw := { s.stab.yaw with value := y.value, status := y.status }
      pitch := { s.stab.pitch with value := p.value, status := p.status } } }) :
    StabFollows s.stab.setting { s.stab.cond with gyroValid := decide (y.status ≠ .invalid ∧ p.status ≠ .invalid) } b
      (s.takePair (y, p)) := by
  subst hb
  exact State.stabUpdate_follows_setting _ _

/-- Out of ACTIVE a pair is taken and no more (R71). -/
theorem State.sample_rests (hm : s.stab.mailbox = some (y, p)) (ha : ∀ sub, s.stab.state ≠ .active sub) :
    s.sample = s.takePair (y, p) := by
  unfold State.sample
  rw [hm]
  cases hs : s.stab.state with
  | active sub => exact absurd hs (ha sub)
  | off | standby | fault r => rfl

/-- A pair that takes the stabiliser out of ACTIVE is not computed (R71). -/
theorem State.sample_leaves (hm : s.stab.mailbox = some (y, p)) (ha : (s.takePair (y, p)).stab.isActive = false) :
    s.sample = s.takePair (y, p) := by
  by_cases h : ∃ sub, s.stab.state = .active sub
  · obtain ⟨sub, hsub⟩ := h
    rw [State.sample_of_pair s (y, p) sub hm hsub, if_neg (by simp [ha])]
  · exact State.sample_rests hm fun sub hs => h ⟨sub, hs⟩

/-- A pair with an INVALID record takes the stabiliser out of ACTIVE (R67, R71). -/
theorem State.sample_invalid (hm : s.stab.mailbox = some (y, p)) (hi : y.status = .invalid ∨ p.status = .invalid)
    (hb : b = { s with stab := { s.stab with
      mailbox := none
      yaw := { s.stab.yaw with value := y.value, status := y.status }
      pitch := { s.stab.pitch with value := p.value, status := p.status } } }) :
    StabFollows s.stab.setting { s.stab.cond with gyroValid := false } b s.sample := by
  have hvalid : decide (y.status ≠ .invalid ∧ p.status ≠ .invalid) = false := by rcases hi with h | h <;> simp [h]
  have hfollows := State.takePair_follows hb
  rw [hvalid] at hfollows
  obtain ⟨-, -, hleft⟩ := hfollows.frame
  rwa [State.sample_leaves hm (hleft (by simp [Conditions.allHold]))]

/-- A pair of valid records out of ACTIVE sets the gyro-valid flag, and the state follows (R67, R71). -/
theorem State.sample_valid (hm : s.stab.mailbox = some (y, p)) (hy : y.status ≠ .invalid) (hp : p.status ≠ .invalid)
    (ha : ∀ sub, s.stab.state ≠ .active sub)
    (hb : b = { s with stab := { s.stab with
      mailbox := none
      yaw := { s.stab.yaw with value := y.value, status := y.status }
      pitch := { s.stab.pitch with value := p.value, status := p.status } } }) :
    StabFollows s.stab.setting { s.stab.cond with gyroValid := true } b s.sample := by
  have hvalid : decide (y.status ≠ .invalid ∧ p.status ≠ .invalid) = true := by simp [hy, hp]
  have hfollows := State.takePair_follows hb
  rw [hvalid] at hfollows
  rwa [State.sample_rests hm ha]

/-- In ACTIVE, with the conditions met, a pair is worked: the rail run first, then the computation (R71, R73, R76, R79). -/
theorem State.sample_active {sub : SubState} {rail : Nat} {c : State} {gain : Int} (hm : s.stab.mailbox = some (y, p))
    (hy : y.status ≠ .invalid) (hp : p.status ≠ .invalid) (ha : s.stab.state = .active sub) (hset : s.stab.setting = true)
    (hall : { s.stab.cond with gyroValid := true : Conditions }.allHold)
    (hb : b = { s with stab := { s.stab with
      mailbox := none
      yaw := { s.stab.yaw with value := y.value, status := y.status }
      pitch := { s.stab.pitch with value := p.value, status := p.status } } })
    (hrail : rail = if y.status = .rail ∨ p.status = .rail then s.stab.railRun + 1 else 0)
    (hc : c = { b with stab := { b.stab with cond := { s.stab.cond with gyroValid := true }, missedRun := 0, railRun := rail } })
    (hg : gain = gainAt s.stab.gains s.lens.zoom.position s.lens.zoom.span) :
    (8 ≤ rail → s.sample = { c with
      stab := leftActive c.stab (.fault .gyroRail)
      ovl.warnings.stabFault := .placed
      port := s.port.post (.stabState (.fault .gyroRail) none) }) ∧
    (rail < 8 → PanTestedAndLearned sub (16 * y.value - s.stab.yaw.z) (16 * p.value - s.stab.pitch.z)
      ((s.stab.yaw.take y).compute sub gain) ((s.stab.pitch.take p).compute sub gain) c s.sample) := by
  have hfollows := State.takePair_follows hb
  have hvalid : decide (y.status ≠ .invalid ∧ p.status ≠ .invalid) = true := by simp [hy, hp]
  rw [hvalid, hset] at hfollows
  have htaken := hfollows.stays (sub := sub) (by rw [hb]; exact ha) rfl hall
  have hstate : (s.takePair (y, p)).stab.state = .active sub := by rw [htaken, hb]; exact ha
  have hactive : (s.takePair (y, p)).stab.isActive = true := by rw [Stabiliser.isActive, hstate]
  obtain ⟨x, hx⟩ : ∃ x, x = s.takePair (y, p) := ⟨_, rfl⟩
  have hxrail : x.stab.railRunAfter = rail := by
    rw [hx, htaken, hb, hrail]
    rfl
  have hxc : ({ x with stab := { x.stab with missedRun := 0, railRun := x.stab.railRunAfter } } : State) = c := by
    rw [hxrail, hx, htaken, hc, hb, ← hset]
  have hcs : c.stab.state = .active sub := by rw [hc, hb]; exact ha
  have hport : c.port = s.port := by rw [hc, hb]
  rw [State.sample_of_pair s (y, p) sub hm ha, if_pos hactive, ← hx, State.activeSample]
  dsimp only
  rw [hxrail] at hxc ⊢
  refine ⟨fun h => ?_, fun h => ?_⟩
  · rw [if_pos h, hxc, State.stabFault_active hcs, hport]
  · have hcompute := State.computed_panTested sub gain c hcs (by rw [hg, hc, hb])
    have hstab : { x.stab with missedRun := 0, railRun := rail } = c.stab := congrArg State.stab hxc
    have hlens : x.lens = c.lens := by rw [← hxc]
    have hbecomes : ∀ t, x.stabBecomes t = c.stabBecomes t := fun t => by
      rw [← hxc]
      rfl
    have hyaw : c.stab.yaw = s.stab.yaw.take y := by rw [hc, hb]; rfl
    have hpitch : c.stab.pitch = s.stab.pitch.take p := by rw [hc, hb]; rfl
    rw [hyaw, hpitch] at hcompute
    rw [if_neg (by omega), hstab, hlens, hbecomes]
    exact hcompute

end pair

/-! ### What the pan test and the learning keep -/

/-- Two records of an axis with the same sample, accumulator and drive. -/
def SameDrive (x x' : GyroAxis) : Prop :=
  x'.value = x.value ∧ x'.status = x.status ∧ x'.acc = x.acc ∧ x'.traw = x.traw ∧ x'.target = x.target ∧ x'.duty = x.duty

/-- A step of offset learning keeps the drive (R79). -/
theorem AxisLearned.keeps {r : Int} {x x' : GyroAxis} (h : AxisLearned r x x') : SameDrive x x' := by
  obtain ⟨hfast, hshort, hlong⟩ := h
  by_cases hr : 64 ≤ r.natAbs
  · rw [hfast hr]
    exact ⟨rfl, rfl, rfl, rfl, rfl, rfl⟩
  · by_cases hl : x.learnRun < 500
    · rw [hshort (by omega) hl]
      exact ⟨rfl, rfl, rfl, rfl, rfl, rfl⟩
    · rw [hlong (by omega) (by omega)]
      exact ⟨rfl, rfl, rfl, rfl, rfl, rfl⟩

/-- The pan test and the learning keep the drive of both axes, stay in ACTIVE and post STAB_STATE for a change of the sub-state (R70). -/
theorem PanTestedAndLearned.keeps {sub : SubState} {ry rp : Int} {y p : GyroAxis} {s t : State}
    (h : PanTestedAndLearned sub ry rp y p s t) (hs : s.stab.state = .active sub) : ∃ sub',
    t = { s with
      stab := { s.stab with state := .active sub', panExit := t.stab.panExit, yaw := t.stab.yaw, pitch := t.stab.pitch }
      port := if sub' = sub then s.port else s.port.post (.stabState (.active sub') none) } ∧
    SameDrive y t.stab.yaw ∧ SameDrive p t.stab.pitch := by
  have hself : ∀ x, SameDrive x x := fun x => ⟨rfl, rfl, rfl, rfl, rfl, rfl⟩
  obtain ⟨y', p', exit, hy, hp, -, henter, hnormal, hleave, hpan⟩ := h
  cases sub with
  | normal =>
    by_cases hsat : 40 ≤ y.satRun ∨ 40 ≤ p.satRun
    · rw [henter rfl hsat]
      exact ⟨.pan, rfl, hself _, hself _⟩
    · rw [hnormal rfl (by omega) (by omega)]
      exact ⟨.normal, by simp [← hs], hy.keeps, hp.keeps⟩
  | pan =>
    by_cases hexit : 200 ≤ exit
    · rw [hleave rfl hexit]
      exact ⟨.normal, rfl, hy.keeps, hp.keeps⟩
    · rw [hpan rfl (by omega)]
      exact ⟨.pan, by simp [← hs], hself _, hself _⟩

/-- The drive of an axis computed from a good record (R74, R75, R77). -/
theorem GyroAxis.compute_drive {x x' : GyroAxis} {r : ResultRec} {sub : SubState} {gain : Int}
    (h : SameDrive ((x.take r).compute sub gain) x') :
    x'.value = r.value ∧ x'.status = r.status ∧
      x'.acc = clampInt (-8388608) 8388608
        (x.acc + (16 * (r.value : Int) - x.z) - x.acc.tdiv (if sub = .normal then 1024 else 64)) ∧
      x'.traw = -((x'.acc * gain).tdiv 1048576) ∧ x'.target = clampInt (-2000) 2000 x'.traw ∧ x'.duty = 512 + x'.target.tdiv 4 := by
  obtain ⟨hvalue, hstatus, hacc, htraw, htarget, hduty⟩ := h
  rw [hvalue, hstatus, hacc, htraw, htarget, hduty]
  refine ⟨rfl, rfl, ?_, rfl, rfl, rfl⟩
  cases sub <;> rfl

/-- The part at a sample event, the event's timer reloaded from its due time (log entry 1). -/
def sampleDueAgain (s : State) : State :=
  { s with clock := max s.clock s.stab.sampleDue, stab.sampleDue := s.stab.sampleDue + 1000 }

/-- Settles O55: the pair is taken along the stabiliser's state, and what the computation leaves is read off the drive it keeps. -/
theorem samplesDriveTheCoils : Obligations.SamplesDriveTheCoils := by
  refine ⟨fun s y p b hrun hm hb => ?_, fun s y p sub hrun hm ha hy hp hset hcr hcz hcg => ?_⟩
  · refine ⟨_, _, State.askConverter_asked .gyro _, exec_sampleEvent_asks hrun, fun hi => State.sample_invalid (s := sampleDueAgain s) hm hi hb,
      fun hy hp ha => ?_, fun sub hy hp ha hset hall => ⟨_, _, rfl, rfl, fun hrail => ?_, fun hrail => ?_⟩⟩
    · exact State.sample_valid (s := sampleDueAgain s) hm hy hp ha hb
    · exact (State.sample_active (s := sampleDueAgain s) hm hy hp ha hset hall hb rfl rfl rfl).1 hrail
    · exact ⟨_, _, _, gainAt_gainOf _ _ _, GyroAxis.compute_computed _ _ _ _, GyroAxis.compute_computed _ _ _ _,
        (State.sample_active (s := sampleDueAgain s) hm hy hp ha hset hall hb rfl rfl rfl).2 hrail⟩
  · obtain ⟨e, he⟩ : ∃ e : State, e = sampleDueAgain s := ⟨_, rfl⟩
    obtain ⟨c, hc⟩ : ∃ c : State, c = { e with stab := { e.stab with
      mailbox := none
      yaw := { e.stab.yaw with value := y.value, status := y.status }
      pitch := { e.stab.pitch with value := p.value, status := p.status }
      cond := { e.stab.cond with gyroValid := true }, missedRun := 0, railRun := 0 } } := ⟨_, rfl⟩
    have hes : e.stab = { s.stab with sampleDue := s.stab.sampleDue + 1000 } := by rw [he]; rfl
    have hrail : 0 = if y.status = .rail ∨ p.status = .rail then e.stab.railRun + 1 else 0 := by simp [hy, hp]
    have hworked := (State.sample_active (s := e) (c := c) (by rw [hes]; exact hm) (by simp [hy]) (by simp [hp]) (by rw [hes]; exact ha)
      (by rw [hes]; exact hset) (by rw [hes]; exact ⟨hcr, hcz, hcg, rfl⟩) rfl hrail (by rw [hc]) rfl).2 (by decide)
    obtain ⟨sub', hframe, hyaw, hpitch⟩ := hworked.keeps (by rw [hc, hes]; exact ha)
    have hgain : gainAt e.stab.gains e.lens.zoom.position e.lens.zoom.span =
        gainAt s.stab.gains s.lens.zoom.position s.lens.zoom.span := by rw [he]; rfl
    obtain ⟨u, hu⟩ : ∃ u, u = e.sample := ⟨_, rfl⟩
    rw [← hu] at hframe hyaw hpitch
    refine ⟨u, _, State.askConverter_asked .gyro u, ?_, ?_, ?_, by rw [hframe, hc], by rw [hframe, hc], by rw [hframe, hc], ?_, ?_,
      ⟨sub', by rw [hframe], ?_⟩, ?_⟩
    · rw [exec_sampleEvent_asks hrun, hu, he]
      rfl
    · rw [hframe, hc, he]; rfl
    · rw [hframe, hc, he]; rfl
    · rw [hframe, hc, he]; rfl
    · rw [hframe, hc, he]; rfl
    · rw [hframe, hc, he]; rfl
    rintro x x' r (⟨rfl, rfl, rfl⟩ | ⟨rfl, rfl, rfl⟩)
    · have hdrive := GyroAxis.compute_drive hyaw
      rw [hgain, hes, hy] at hdrive
      exact hdrive
    · have hdrive := GyroAxis.compute_drive hpitch
      rw [hgain, hes, hp] at hdrive
      exact hdrive

end Sys2Proof.Machine

/-! Long presses and encoder detents (R6, R7, R14, R16). -/

namespace Sys2Proof.Machine

/-! ### Tokens -/

/-- A token that is not made leaves the part. -/
theorem TokenMadeIf.unmade {made : Prop} {w : BitVec 16} {s t : State} (h : TokenMadeIf made w s t) (hm : ¬made) : t = s := h.2 hm

/-- A token that is made with room in the queue joins it (R18). -/
theorem TokenMadeIf.made_room {made : Prop} {w : BitVec 16} {s t : State} (h : TokenMadeIf made w s t) (hm : made)
    (hl : s.controls.tokens.length < 16) : t = { s with
      controls.tokens := s.controls.tokens ++ [w]
      port := if s.controls.tokens = [] then s.port.post .tokensReady else s.port } :=
  (h.1 hm).1 hl

/-! ### Long presses -/

section longPress

variable {s b c : State} {i : Fin 24} {h : Held} {t : Nat}

/-- Without a held record the timer does not run (log entry 1). -/
theorem exec_longPress_none (hh : (s.controls.switches.get i).held = none) : exec (.longPressTimerExpiry i) s = .next (settle s) := by
  show execLongPressTimerExpiry i s = _
  rw [execLongPressTimerExpiry, hh]
  rfl

/-- A held record without a timer (log entry 1). -/
theorem exec_longPress_stopped (hh : (s.controls.switches.get i).held = some h) (ht : h.timer = none) :
    exec (.longPressTimerExpiry i) s = .next (settle s) := by
  show execLongPressTimerExpiry i s = _
  simp only [execLongPressTimerExpiry, hh, ht]
  rfl

/-- A long press fires: its token where the entry makes one, then its action (R14, R16). -/
theorem exec_longPress (hh : (s.controls.switches.get i).held = some h) (ht : h.timer = some t)
    (hb : b = { s with
      clock := max s.clock t
      controls.switches := s.controls.switches.set i
        { s.controls.switches.get i with held := some { h with long := .fired, timer := none } } })
    (hc : c = b.tokenIf h.entry.long (tokenWord i.val .long h.layer)) :
    exec (.longPressTimerExpiry i) s = .next (settle (c.longAction h)) := by
  show execLongPressTimerExpiry i s = _
  subst hb
  simp only [execLongPressTimerExpiry, hh, ht, hc]
  rfl

/-- The actions that are not delivered at a long press (R16). -/
theorem State.longAction_none (hp : ∀ n, h.entry.action ≠ .preset n) (hpow : h.entry.action ≠ .power) : s.longAction h = s := by
  unfold State.longAction
  cases ha : h.entry.action with
  | preset n => exact absurd ha (hp n)
  | power => exact absurd ha hpow
  | _ => rfl

/-- A long press of a preset stores it (R16, R57). -/
theorem State.longAction_preset {n : Fin 8} (ha : h.entry.action = .preset n) : s.longAction h = s.panelStore n := by
  rw [State.longAction, ha]

/-- A long press of POWER begins a shutdown (R16, R188). -/
theorem State.longAction_power (ha : h.entry.action = .power) : s.longAction h = s.beginShutdown .operator := by
  rw [State.longAction, ha]

/-- Entry to SHUTDOWN in the record supervisor leaves the power state, the shutdown and the exit of the supply monitor. -/
theorem State.recPower_supply (p : PowerState) (s : State) : (s.recPower p).supply.power = s.supply.power ∧
    (s.recPower p).supply.shutdown = s.supply.shutdown ∧ (s.recPower p).supply.exit = s.supply.exit := by
  unfold State.recPower
  dsimp only
  split <;> simp [State.failStart, State.stopRecording, State.tally, State.warn, State.condition, State.post, State.setRecState]

/-- What a shutdown that begins leaves of the supply monitor (R188). -/
theorem State.beginShutdown_supply {r : ShutdownReason} (hp : s.supply.power = .run ∨ s.supply.power = .standby) :
    (s.beginShutdown r).supply.power = .shutdown ∧ (s.beginShutdown r).supply.shutdown = some ⟨r, .waiting⟩ ∧
      (s.beginShutdown r).supply.exit = none := by
  obtain ⟨x, -, -, hx, -, hs⟩ := State.beginShutdown_blocks (r := r) hp
  obtain ⟨hpow, hshut, hexit⟩ := x.recPower_supply .shutdown
  rw [hs, hpow, hshut, hexit, hx]
  exact ⟨rfl, rfl, rfl⟩

end longPress

/-! ### Encoders -/

section encoder

/-- The decoder after its count moved to `m` at new levels: the fourth step in a direction is a detent (R6). -/
def Decoder.counted (l : Levels) (m : Int) : Decoder × Option Bool :=
  if 4 ≤ m then (⟨l, 0⟩, some true) else if m ≤ -4 then (⟨l, 0⟩, some false) else (⟨l, m⟩, none)

/-- A transition of both lines is invalid and clears the count (R6). -/
theorem Decoder.transition_both (l : Levels) (n : Int) : Decoder.transition ⟨l, n⟩ ⟨!l.a, !l.b⟩ = (⟨⟨!l.a, !l.b⟩, 0⟩, none) := by
  obtain ⟨a, b⟩ := l
  cases a <;> cases b <;> rfl

/-- A transition of line A steps the count up where the lines stood alike (R6). -/
theorem Decoder.transition_a (l : Levels) (n : Int) : Decoder.transition ⟨l, n⟩ ⟨!l.a, l.b⟩ =
    Decoder.counted ⟨!l.a, l.b⟩ (if l.a = l.b then n + 1 else n - 1) := by
  obtain ⟨a, b⟩ := l
  cases a <;> cases b <;> rfl

/-- A transition of line B steps the count up where the lines stood apart (R6). -/
theorem Decoder.transition_b (l : Levels) (n : Int) : Decoder.transition ⟨l, n⟩ ⟨l.a, !l.b⟩ =
    Decoder.counted ⟨l.a, !l.b⟩ (if l.a = l.b then n - 1 else n + 1) := by
  obtain ⟨a, b⟩ := l
  cases a <;> cases b <;> rfl

/-- A count short of a detent (R6). -/
theorem Decoder.counted_step {l : Levels} {m : Int} (h1 : -3 ≤ m) (h2 : m ≤ 3) : Decoder.counted l m = (⟨l, m⟩, none) := by
  rw [Decoder.counted, if_neg (by omega), if_neg (by omega)]

variable {s : State} {e : Encoder} {a b : Bool} {time : Nat} {d : Decoder}

/-- Outside RUN a transition only moves the lines (R6). -/
theorem exec_encoderTransition_rests (h : s.supply.power ≠ .run) : exec (.encoderTransition e a b time) s = .next (settle
    { s with clock := max s.clock time, pins := s.pins.setEncoder ⟨a, b⟩ e }) :=
  congrArg finish (if_neg h)

/-- In RUN a transition that makes no detent (R6). -/
theorem exec_encoderTransition_moves (h : s.supply.power = .run) (hd : (s.controls.decoder e).transition ⟨a, b⟩ = (d, none)) :
    exec (.encoderTransition e a b time) s = .next (settle
      { s with clock := max s.clock time, pins := s.pins.setEncoder ⟨a, b⟩ e, controls := s.controls.setDecoder d e }) := by
  refine congrArg finish ((if_pos h).trans ?_)
  rw [hd]
  rfl

/-- In RUN a transition that makes a detent (R6, R7). -/
theorem exec_encoderTransition_detent {up : Bool} (h : s.supply.power = .run)
    (hd : (s.controls.decoder e).transition ⟨a, b⟩ = (d, some up)) :
    exec (.encoderTransition e a b time) s = .next (settle (State.detent e up
      { s with clock := max s.clock time, pins := s.pins.setEncoder ⟨a, b⟩ e, controls := s.controls.setDecoder d e })) := by
  refine congrArg finish ((if_pos h).trans ?_)
  rw [hd]
  rfl

/-- The levels of an encoder after one of its lines moved. -/
def Levels.moved (l : Levels) : EncoderLine → Levels
  | .a => ⟨!l.a, l.b⟩
  | .b => ⟨l.a, !l.b⟩

/-- Whether the move of a line is a step up (R6). -/
def Levels.stepsUp (l : Levels) : EncoderLine → Bool
  | .a => decide (l.a = l.b)
  | .b => decide (l.a ≠ l.b)

/-- The fourth step in a direction is a detent (R6). -/
theorem Decoder.transition_fourth {l : Levels} {n : Int} {line : EncoderLine} (hn : n = if l.stepsUp line then 3 else -3) :
    Decoder.transition ⟨l, n⟩ (l.moved line) = (⟨l.moved line, 0⟩, some (l.stepsUp line)) := by
  subst hn
  obtain ⟨a, b⟩ := l
  cases line <;> cases a <;> cases b <;> rfl

/-- The fourth step of an encoder in a direction is a detent that is routed by the layer in force (R6, R7). -/
theorem exec_encoderTransition_fourth {l : Levels} {n : Int} {line : EncoderLine} (h : s.supply.power = .run)
    (hd : s.controls.decoder e = ⟨l, n⟩) (hn : n = if l.stepsUp line then 3 else -3) : ∃ u,
      DetentRouted e (l.stepsUp line) { s with
        clock := max s.clock time, pins := s.pins.setEncoder (l.moved line) e
        controls := s.controls.setDecoder ⟨l.moved line, 0⟩ e } u ∧
      exec (.encoderTransition e (l.moved line).a (l.moved line).b time) s = .next (settle u) :=
  ⟨_, State.detent_routed _ _ _, exec_encoderTransition_detent h (by rw [hd]; exact Decoder.transition_fourth hn)⟩

/-- The fourth step up, on line A, is a detent UP (R6). -/
theorem exec_encoderTransition_up {l : Levels} {n : Int} (h : s.supply.power = .run) (hd : s.controls.decoder e = ⟨l, n⟩)
    (hn : n = 3) (hl : l.a = l.b) : ∃ u,
      DetentRouted e true { s with
        clock := max s.clock time, pins := s.pins.setEncoder ⟨!l.a, l.b⟩ e
        controls := s.controls.setDecoder ⟨⟨!l.a, l.b⟩, 0⟩ e } u ∧
      exec (.encoderTransition e (!l.a) l.b time) s = .next (settle u) := by
  have hup : l.stepsUp .a = true := decide_eq_true hl
  have hrouted := exec_encoderTransition_fourth (line := .a) (time := time) h hd (by rw [hup, hn]; rfl)
  rw [hup] at hrouted
  exact hrouted

/-- A decoder that is written leaves the modifiers and the tokens. -/
theorem Controls.setDecoder_keeps (k : Controls) (x : Decoder) (e : Encoder) : (k.setDecoder x e).lock = k.lock ∧
    (k.setDecoder x e).tokens = k.tokens := by
  cases e <;> exact ⟨rfl, rfl⟩

end encoder

/-- The end of a step leaves the supply monitor. -/
theorem settle_supply (s : State) : (settle s).supply = s.supply := by simp only [settle, publish]

/-- Settles O53: a long press along its action, and an encoder's transition along the count it leads to. -/
theorem longPressesAndDetentsAreTaken : Obligations.LongPressesAndDetentsAreTaken := by
  intro s
  refine ⟨fun i => exec_longPress_none, fun i h => exec_longPress_stopped, fun i h t hh ht hl => ⟨fun hpre hpow => ?_,
    fun n ha hhome hown => ?_, fun ha hp => ?_⟩, fun i h t hh ht hl ha hlen => ?_, fun i h t hh ht => ⟨_, _, rfl,
    State.tokenIf_made h.entry.long _ _, fun hpre hpow => ?_, fun n ha => ⟨_, State.panelStore_taken n _, ?_⟩,
    fun ha hp => ⟨_, State.beginShutdown_begun _ _ ?_, ?_⟩⟩, fun e a b time => exec_encoderTransition_rests,
    fun e l n time hrun hd => ⟨?_, fun hl h1 h2 => ?_, fun hl h1 h2 => ?_, fun hl h1 h2 => ?_, fun hl h1 h2 => ?_,
    fun line l' up hl' hup hn => ?_, fun hn hl hlock he => ?_, fun hn hl hlock hmenu hlen => ?_,
    fun hn hl hlock hmenu he haudio hlink hsource hset => ?_⟩⟩
  · have hexec := exec_longPress hh ht rfl rfl
    rw [hl, State.longAction_none hpre hpow] at hexec
    exact hexec
  · have hexec := exec_longPress hh ht rfl rfl
    rw [hl, State.longAction_preset ha] at hexec
    exact hexec.trans (congrArg finish ((State.panelStore_taken n _).2 hhome hown))
  · have hexec := exec_longPress hh ht rfl rfl
    rw [hl, State.longAction_power ha] at hexec
    refine ⟨_, hexec, ?_⟩
    rw [settle_supply]
    exact State.beginShutdown_supply hp
  · have hexec := exec_longPress hh ht rfl rfl
    rw [State.longAction_none (by simp [ha]) (by simp [ha])] at hexec
    exact hexec.trans (congrArg finish ((State.tokenIf_made _ _ _).made_room hl hlen))
  · have hexec := exec_longPress hh ht rfl rfl
    rwa [State.longAction_none hpre hpow] at hexec
  · have hexec := exec_longPress hh ht rfl rfl
    rwa [State.longAction_preset ha] at hexec
  · simpa using hp
  · have hexec := exec_longPress hh ht rfl rfl
    rwa [State.longAction_power ha] at hexec
  · exact exec_encoderTransition_moves hrun (by rw [hd, Decoder.transition_both])
  · exact exec_encoderTransition_moves hrun (by rw [hd, Decoder.transition_a, if_pos hl, Decoder.counted_step (by omega) (by omega)])
  · exact exec_encoderTransition_moves hrun (by rw [hd, Decoder.transition_a, if_neg hl, Decoder.counted_step (by omega) (by omega)])
  · exact exec_encoderTransition_moves hrun (by rw [hd, Decoder.transition_b, if_neg hl, Decoder.counted_step (by omega) (by omega)])
  · exact exec_encoderTransition_moves hrun (by rw [hd, Decoder.transition_b, if_pos hl, Decoder.counted_step (by omega) (by omega)])
  · obtain rfl : l' = l.moved line := by rw [hl']; cases line <;> rfl
    obtain rfl : up = l.stepsUp line := by rw [hup]; cases line <;> rfl
    exact exec_encoderTransition_fourth hrun hd hn
  · obtain ⟨u, hrouted, hexec⟩ := exec_encoderTransition_up (time := time) hrun hd hn hl
    rw [hexec, ((hrouted _ rfl).1 ((Controls.setDecoder_keeps _ _ _).1.trans hlock)).2 he]
  · obtain ⟨u, hrouted, hexec⟩ := exec_encoderTransition_up (time := time) hrun hd hn hl
    obtain ⟨hklock, hktokens⟩ := Controls.setDecoder_keeps s.controls ⟨⟨!l.a, l.b⟩, 0⟩ e
    have hmade := (hrouted _ rfl).2.1 (hklock.trans hlock) hmenu
    rw [hexec, hmade.1 (by rw [hktokens]; exact hlen), hktokens]
    rfl
  · subst he
    obtain ⟨u, hrouted, hexec⟩ := exec_encoderTransition_up (time := time) hrun hd hn hl
    obtain ⟨-, -, -, hknob, -⟩ := (hrouted _ rfl).2.2 hlock hmenu
    rw [hexec, (hknob rfl).2 (.inl rfl) haudio _ rfl]
    simp [channelSet, Audio.channel, hsource, hset, hlink]

end Sys2Proof.Machine

/-! The scan: the inputs in their order, the accepted presses and releases, and the polls of STANDBY (R2 to R5, R12 to R16). -/

namespace Sys2Proof.Machine

/-! ### The inputs one after another -/

section fold

variable {levels : Vector Bool 24} {s u v : State} {i : Fin 24}

/-- Outside STANDBY an input that reads as accepted and counts nothing is left, and a disabled one is not read (R2). -/
theorem State.scanInput_stands (hp : u.supply.power ≠ .standby)
    (h : (u.controls.switches.get i).config.enabled = true → (u.controls.switches.get i).count = 0 ∧
      pressed (u.controls.switches.get i).config (levels.get i) = (u.controls.switches.get i).accepted) :
    State.scanInput levels u i = u := by
  unfold State.scanInput
  dsimp only
  by_cases he : (u.controls.switches.get i).config.enabled = true
  · obtain ⟨hcount, hlevel⟩ := h he
    rw [if_pos he, if_neg hp, State.debounce, if_pos hlevel, ← hcount]
    exact State.setSwitch_self u i
  · rw [if_neg he]

/-- In STANDBY an input that reads as accepted and was not polled otherwise is left (R5). -/
theorem State.scanInput_rests (hp : u.supply.power = .standby)
    (h : (u.controls.switches.get i).config.enabled = true → (u.controls.switches.get i).polls = 0 ∧
      pressed (u.controls.switches.get i).config (levels.get i) = (u.controls.switches.get i).accepted) :
    State.scanInput levels u i = u := by
  unfold State.scanInput
  dsimp only
  by_cases he : (u.controls.switches.get i).config.enabled = true
  · obtain ⟨hpolls, hlevel⟩ := h he
    rw [if_pos he, if_pos hp, State.poll, if_pos hlevel, ← hpolls]
    exact State.setSwitch_self u i
  · rw [if_neg he]

/-- A scan in which one input alone does something. -/
theorem foldl_scanInput_single (hu : ∀ j, j ≠ i → State.scanInput levels u j = u) (hi : State.scanInput levels u i = v)
    (hv : ∀ j, j ≠ i → State.scanInput levels v j = v) {l : List (Fin 24)} (hl : l.Nodup) (hmem : i ∈ l) :
    l.foldl (State.scanInput levels) u = v := by
  have hskip : ∀ (w : State) (l : List (Fin 24)), (∀ j, j ≠ i → State.scanInput levels w j = w) → i ∉ l →
      l.foldl (State.scanInput levels) w = w := by
    intro w l hw hl
    induction l with
    | nil => rfl
    | cons j js ih =>
      rw [List.foldl_cons, hw j (fun h => hl (h ▸ List.mem_cons_self)), ih fun h => hl (List.mem_cons_of_mem _ h)]
  induction l with
  | nil => exact absurd hmem (by simp)
  | cons j js ih =>
    obtain ⟨hj, hjs⟩ := List.nodup_cons.1 hl
    rw [List.foldl_cons]
    by_cases h : j = i
    · subst h
      rw [hi, hskip v js hv hj]
    · rw [hu j h, ih hjs ((List.mem_cons.1 hmem).resolve_left fun h' => h h'.symm)]

/-- A scan in which every input writes its own switch. -/
theorem foldl_scanInput_switches {f : Fin 24 → Switch} {l : List (Fin 24)} (hl : l.Nodup)
    (hf : ∀ w i, w.supply = u.supply → w.controls.switches.get i = u.controls.switches.get i →
      State.scanInput levels w i = w.setSwitch i (f i)) :
    l.foldl (State.scanInput levels) u = { u with
      controls.switches := .ofFn fun i => if i ∈ l then f i else u.controls.switches.get i } := by
  suffices h : ∀ w, w.supply = u.supply → (∀ i ∈ l, w.controls.switches.get i = u.controls.switches.get i) →
      l.foldl (State.scanInput levels) w = { w with
        controls.switches := .ofFn fun i => if i ∈ l then f i else w.controls.switches.get i } from h u rfl fun _ _ => rfl
  induction l with
  | nil =>
    intro w _ _
    have hself : (Vector.ofFn fun i => if i ∈ ([] : List (Fin 24)) then f i else w.controls.switches.get i) = w.controls.switches :=
      vector_ext_get fun i => by simp
    rw [hself]
    rfl
  | cons j js ih =>
    intro w hw hsw
    obtain ⟨hj, hjs⟩ := List.nodup_cons.1 hl
    have hrest : ∀ i ∈ js, (w.setSwitch j (f j)).controls.switches.get i = u.controls.switches.get i := fun i hi => by
      have hne : j ≠ i := fun h => hj (h ▸ hi)
      simp only [State.setSwitch, vector_get_set, if_neg hne]
      exact hsw i (List.mem_cons_of_mem _ hi)
    have hvec : (Vector.ofFn fun i => if i ∈ js then f i else (w.setSwitch j (f j)).controls.switches.get i) =
        Vector.ofFn fun i => if i ∈ j :: js then f i else w.controls.switches.get i := by
      apply vector_ext_get
      intro i
      simp only [State.setSwitch, vector_get_ofFn, vector_get_set, List.mem_cons]
      by_cases hi : i = j
      · subst hi
        simp [hj]
      · simp [hi, Ne.symm hi]
    rw [List.foldl_cons, hf w j hw (hsw j (by simp)), ih hjs (w.setSwitch j (f j)) hw hrest]
    exact congrArg (fun V => ({ w with controls.switches := V } : State)) hvec

/-- SCAN after the first (R2, R5). -/
theorem exec_scan {b : State} (hfirst : s.controls.firstScan = false)
    (hb : b = { s with clock := max s.clock s.controls.scanDue, controls.scanDue := s.controls.scanDue + scanInterval s.supply.power }) :
    exec (.scan levels) s = .next (settle ((List.finRange 24).foldl (State.scanInput levels) b)) := by
  subst hb
  exact congrArg finish (if_neg (by simp [State.atTime, hfirst]))

/-- SCAN in which one input alone does something. -/
theorem exec_scan_single {b : State} (hfirst : s.controls.firstScan = false)
    (hb : b = { s with clock := max s.clock s.controls.scanDue, controls.scanDue := s.controls.scanDue + scanInterval s.supply.power })
    (hbefore : ∀ j, j ≠ i → State.scanInput levels b j = b) (hi : State.scanInput levels b i = v)
    (hafter : ∀ j, j ≠ i → State.scanInput levels v j = v) : exec (.scan levels) s = .next (settle v) := by
  rw [exec_scan hfirst hb, foldl_scanInput_single hbefore hi hafter (List.nodup_finRange 24) (List.mem_finRange i)]

/-- SCAN in which every input writes its own switch. -/
theorem exec_scan_switches {b : State} {f : Fin 24 → Switch} (hfirst : s.controls.firstScan = false)
    (hb : b = { s with clock := max s.clock s.controls.scanDue, controls.scanDue := s.controls.scanDue + scanInterval s.supply.power })
    (hf : ∀ w i, w.supply = b.supply → w.controls.switches.get i = b.controls.switches.get i →
      State.scanInput levels w i = w.setSwitch i (f i)) :
    exec (.scan levels) s = .next (settle { b with controls.switches := .ofFn f }) := by
  rw [exec_scan hfirst hb, foldl_scanInput_switches (List.nodup_finRange 24) hf]
  simp

end fold

/-! ### What leaves the switches -/

/-- The power state and the switch inputs stand. -/
def SwitchesStand (s t : State) : Prop := t.supply.power = s.supply.power ∧ t.controls.switches = s.controls.switches

theorem SwitchesStand.refl (s : State) : SwitchesStand s s := ⟨rfl, rfl⟩

theorem SwitchesStand.trans {s t u : State} (h : SwitchesStand s t) (h' : SwitchesStand t u) : SwitchesStand s u :=
  ⟨h'.1.trans h.1, h'.2.trans h.2⟩

section stand

variable (s : State)

/-- A beep request leaves the switches. -/
theorem State.beep_stands (p : Pattern) : SwitchesStand s (s.beep p) := by
  rw [State.beep_eq_beeped]
  exact SwitchesStand.refl s

/-- A token leaves the switches. -/
theorem State.tokenIf_stands (b : Bool) (w : BitVec 16) : SwitchesStand s (s.tokenIf b w) := by
  unfold State.tokenIf State.token
  split_ifs
  · exact SwitchesStand.refl s
  · exact SwitchesStand.refl s
  · exact State.beep_stands (s.warn .tokensFull) .reject
  · exact SwitchesStand.refl s

/-- A recording that stops leaves the switches. -/
theorem State.stopRecording_stands (r : EndReason) : SwitchesStand s (s.stopRecording r) :=
  SwitchesStand.trans (SwitchesStand.refl s) (State.beep_stands _ .double)

/-- A start that fails leaves the switches. -/
theorem State.failStart_stands (r : FailReason) : SwitchesStand s (s.failStart r) :=
  SwitchesStand.trans (SwitchesStand.refl s) (State.beep_stands _ .reject)

/-- REC_TOGGLE leaves the switches. -/
theorem State.recToggle_stands : SwitchesStand s s.recToggle := by
  unfold State.recToggle
  split_ifs
  · exact SwitchesStand.refl s
  · split
    · split
      · exact State.beep_stands s .reject
      · exact SwitchesStand.refl s
    · exact State.beep_stands s .reject
    · exact State.beep_stands s .reject
    · exact State.stopRecording_stands s .operator

/-- MARK leaves the switches. -/
theorem State.panelMark_stands : SwitchesStand s s.panelMark := by
  unfold State.panelMark
  split
  · exact SwitchesStand.refl s
  · exact State.beep_stands s .reject

/-- GOOD_SHOT leaves the switches. -/
theorem State.goodShot_stands : SwitchesStand s s.goodShot := by
  unfold State.goodShot
  split
  · exact SwitchesStand.refl s
  · exact State.beep_stands s .reject

/-- A panel recall leaves the switches. -/
theorem State.panelRecall_stands (n : Fin 8) : SwitchesStand s (s.panelRecall n) := by
  unfold State.panelRecall
  dsimp only
  split_ifs
  · exact State.beep_stands s .reject
  · exact ⟨by simp, by simp⟩

/-- AUDIO_AUTO leaves the switches. -/
theorem State.audioAuto_stands (ch : Channel) : SwitchesStand s (s.audioAuto ch) := by
  unfold State.audioAuto
  split_ifs
  · exact State.beep_stands s .reject
  · exact SwitchesStand.refl s

/-- The action of a press leaves the switches and the power state (R15). -/
theorem State.pressAction_stands (h : Held) : SwitchesStand s (s.pressAction h) := by
  unfold State.pressAction
  cases h.entry.action with
  | none | token | assign | lock | power => exact SwitchesStand.refl s
  | recToggle => exact s.recToggle_stands
  | mark => exact s.panelMark_stands
  | goodShot => exact s.goodShot_stands
  | stabToggle => exact ⟨by simp, by simp⟩
  | focusModeToggle => exact ⟨by simp, by simp⟩
  | preset n =>
    dsimp only
    split_ifs
    · exact s.panelRecall_stands n
    · exact SwitchesStand.refl s
  | audioAuto ch => exact s.audioAuto_stands ch
  | menuToggle => exact ⟨by simp, by simp⟩
  | flush =>
    dsimp only [State.flush]
    split_ifs <;> exact SwitchesStand.refl s

/-- A record supervisor that is handed the power state leaves the switches. -/
theorem State.recPower_stands (p : PowerState) : SwitchesStand s (s.recPower p) := by
  unfold State.recPower
  dsimp only
  split
  · exact State.failStart_stands { s with recorder.power := .shutdown } .shutdown
  · exact State.stopRecording_stands { s with recorder.power := .shutdown } .shutdown
  · exact SwitchesStand.refl s

/-- A call for a calibration leaves the switches. -/
theorem State.callCalibration_stands : SwitchesStand s s.callCalibration := by
  unfold State.callCalibration
  split <;> exact SwitchesStand.refl s

/-- A wake leaves the switches and the power state (R187). -/
theorem State.wake_stands (i : Fin 24) : SwitchesStand s (s.wake i) := by
  unfold State.wake
  split_ifs
  · exact State.callCalibration_stands { s with supply.exit := some (.input i), conv.parties.exit := true }
  · exact SwitchesStand.refl s

end stand

/-- A shutdown that begins makes the held records silent; configurations, levels and counts of the switches stand (R4, R5, R188). -/
theorem State.beginShutdown_switches {s : State} (r : ShutdownReason) (h : s.supply.power = .run ∨ s.supply.power = .standby) :
    (s.beginShutdown r).controls.switches = .ofFn fun i => { s.controls.switches.get i with
      polls := 0, held := (s.controls.switches.get i).held.map silencedHeld } := by
  obtain ⟨a, ha⟩ : ∃ a, a = ({ s with supply.power := .shutdown, supply.exit := none, supply.shutdown := some ⟨r, .waiting⟩ } :
    State).scannerPower s.supply.power .shutdown := ⟨_, rfl⟩
  have hswitches : a.controls.switches = .ofFn fun i => { s.controls.switches.get i with
      polls := 0, held := (s.controls.switches.get i).held.map silencedHeld } := by
    rw [ha, State.scannerPower_rests _ _ _ (.inr rfl)]
  obtain ⟨b, hb⟩ : ∃ b, b = (a.stabPower .shutdown).timecodePower s.supply.power .shutdown := ⟨_, rfl⟩
  have hbegun : (s.beginShutdown r).controls = (b.recPower .shutdown).controls := by
    unfold State.beginShutdown State.setPower
    rw [hb, ha]
    rcases h with h | h <;> simp [h, State.lensPower]
  rw [hbegun, (b.recPower_stands .shutdown).2, ← hswitches, hb]
  simp

/-! ### Accepted changes -/

section accepted

variable {levels : Vector Bool 24} {s b u v : State} {i : Fin 24} {h : Held} {level : Bool}

/-- An input's fourth differing scan is accepted (R2). -/
theorem State.scanInput_accepts (hp : u.supply.power ≠ .standby) (he : (u.controls.switches.get i).config.enabled = true)
    (hcount : (u.controls.switches.get i).count = 3)
    (hlevel : pressed (u.controls.switches.get i).config (levels.get i) = level)
    (hdiff : level ≠ (u.controls.switches.get i).accepted) :
    State.scanInput levels u i = (u.setAccepted i level).acceptedChange i level := by
  unfold State.scanInput
  dsimp only
  rw [if_pos he, if_neg hp, hlevel, State.debounce, if_neg hdiff, if_neg (by omega)]

/-- A switch written twice. -/
theorem State.setSwitch_setSwitch (s : State) (i : Fin 24) (w w' : Switch) : (s.setSwitch i w).setSwitch i w' = s.setSwitch i w' := by
  have hvec : (s.controls.switches.set i w).set i w' = s.controls.switches.set i w' := by
    apply vector_ext_get
    intro j
    simp only [vector_get_set]
    split_ifs <;> rfl
  unfold State.setSwitch
  exact congrArg (fun V => ({ s with controls.switches := V } : State)) hvec

/-- A held record given to an input whose level was just accepted. -/
theorem State.setAccepted_setHeld (s : State) (i : Fin 24) (level : Bool) (h : Option Held) : (s.setAccepted i level).setHeld i h =
    { s with controls.switches := s.controls.switches.set i { s.controls.switches.get i with
      accepted := level, count := 0, polls := 0, held := h } } := by
  unfold State.setHeld State.setAccepted
  rw [State.setSwitch_setSwitch]
  simp only [State.setSwitch, vector_get_set, if_true]

/-- The layer of a press does not depend on the switches (R12). -/
theorem State.resolve_setAccepted (s : State) (i : Fin 24) (level : Bool) : (s.setAccepted i level).resolve i = s.resolve i := rfl

/-- The held record of a press (R14). -/
theorem State.heldOf_setAccepted (s : State) (i : Fin 24) (layer : Layer) : (s.setAccepted i true).heldOf i layer =
    ⟨layer, (s.controls.keymap.layer layer).get i, (s.controls.switches.get i).config.kind, false, false,
      if (s.controls.switches.get i).config.kind = .momentary then .running else .idle,
      if (s.controls.switches.get i).config.kind = .momentary then some (s.clock + 800000) else none⟩ := by
  simp only [State.heldOf, State.setAccepted, State.setSwitch, vector_get_set, if_true]
  rfl

/-- A press that resolves in a layer: the record, the modifiers, the token and the action (R12 to R15). -/
theorem State.press_resolved {layer : Layer} (hl : ResolvesIn s i layer)
    (hh : h = ⟨layer, (s.controls.keymap.layer layer).get i, (s.controls.switches.get i).config.kind, false, false,
      if (s.controls.switches.get i).config.kind = .momentary then .running else .idle,
      if (s.controls.switches.get i).config.kind = .momentary then some (s.clock + 800000) else none⟩)
    (hb : b = { s with controls := { s.controls with
      switches := s.controls.switches.set i { s.controls.switches.get i with
        accepted := true, count := 0, polls := 0, held := some h } : Controls }.withPress i h }) :
    ∃ c, TokenMadeIf (h.entry.action = .token ∨ (h.entry.action ≠ .flush ∧ h.entry.press = true)) (tokenWord i.val .press layer) b c ∧
      PressActed h c ((s.setAccepted i true).press i) ∧ SwitchesStand b ((s.setAccepted i true).press i) := by
  have hpress : (s.setAccepted i true).press i =
      (b.tokenIf (pressToken h.entry) (tokenWord i.val .press layer)).pressAction h := by
    unfold State.press
    rw [State.resolve_setAccepted, (State.resolvesIn_iff s i layer).1 hl]
    dsimp only
    rw [State.heldOf_setAccepted, ← hh, State.setAccepted_setHeld, State.pressModifiers_eq, hb]
  have htoken : pressToken h.entry = true ↔ (h.entry.action = .token ∨ (h.entry.action ≠ .flush ∧ h.entry.press = true)) := by
    unfold pressToken
    cases ha : h.entry.action <;> simp
  rw [hpress]
  refine ⟨_, ?_, State.pressAction_acted h _, (State.tokenIf_stands _ _ _).trans (State.pressAction_stands _ h)⟩
  rw [← htoken]
  exact State.tokenIf_made _ _ b

/-- A press that the lock holds off (R12, R14). -/
theorem State.press_locked (hl : s.controls.lock = true) (h1 : (s.controls.keymap.plain.get i).action ≠ .recToggle)
    (h2 : (s.controls.keymap.plain.get i).action ≠ .lock) (h3 : (s.controls.keymap.plain.get i).action ≠ .power) :
    (s.setAccepted i true).press i = { s with
      controls.switches := s.controls.switches.set i { s.controls.switches.get i with
        accepted := true, count := 0, polls := 0
        held := some ⟨.plain, s.controls.keymap.plain.get i, (s.controls.switches.get i).config.kind, true, false, .idle, none⟩ }
      controls.beeper := s.controls.beeped .reject s.clock
      ovl.warnings.keysLocked := .timed (s.clock + 2000000) } := by
  have hnone : s.resolve i = none := by
    have hlock : passesLock (s.controls.keymap.plain.get i).action = false := by
      unfold passesLock
      split
      · exact absurd ‹_› h1
      · exact absurd ‹_› h2
      · exact absurd ‹_› h3
      · rfl
    simp [State.resolve, hl, hlock]
  have hheld : (s.setAccepted i true).lockedHeld i =
      ⟨.plain, s.controls.keymap.plain.get i, (s.controls.switches.get i).config.kind, true, false, .idle, none⟩ := by
    simp only [State.lockedHeld, Controls.silentHeld, State.setAccepted, State.setSwitch, vector_get_set, if_true]
  unfold State.press
  rw [State.resolve_setAccepted, hnone]
  dsimp only
  rw [hheld, State.setAccepted_setHeld, State.beep_eq_beeped]
  rfl

/-- A record dropped with the level of its input (R3, R5, R13). -/
theorem State.dropHeld_setAccepted (s : State) (i : Fin 24) (level : Bool) : (s.setAccepted i level).dropHeld i = { s with
    controls := { s.controls with
        switches := s.controls.switches.set i { s.controls.switches.get i with
          accepted := level, count := 0, polls := 0, held := none } : Controls }.withoutHeld i (s.controls.switches.get i).held } := by
  have hheld : ((s.setAccepted i level).controls.switches.get i).held = (s.controls.switches.get i).held := by
    simp only [State.setAccepted, State.setSwitch, vector_get_set, if_true]
  unfold State.dropHeld
  rw [hheld]
  cases hh : (s.controls.switches.get i).held with
  | some h =>
    dsimp only
    rw [State.setAccepted_setHeld, State.releaseModifiers_eq]
    rfl
  | none =>
    dsimp only [Controls.withoutHeld]
    rw [← hh]
    rfl

/-- The rest of a scan outside STANDBY goes on over the switches that it found: their configurations, levels and counts. -/
def ScansOn (s t : State) : Prop :=
  t.supply.power ≠ .standby ∧ ∀ j, (t.controls.switches.get j).config = (s.controls.switches.get j).config ∧
    (t.controls.switches.get j).accepted = (s.controls.switches.get j).accepted ∧
    (t.controls.switches.get j).count = (s.controls.switches.get j).count

/-- An operation that leaves the switches lets the scan go on. -/
theorem SwitchesStand.scansOn {s t : State} (h : SwitchesStand s t) (hp : s.supply.power ≠ .standby) : ScansOn s t := by
  obtain ⟨hpower, hswitches⟩ := h
  refine ⟨hpower ▸ hp, fun j => ?_⟩
  rw [hswitches]
  exact ⟨rfl, rfl, rfl⟩

/-- A shutdown lets the scan go on. -/
theorem SwitchesStand.shutdown {s t : State} {r : ShutdownReason} (h : SwitchesStand s t)
    (hp : s.supply.power = .run ∨ s.supply.power = .standby) : ScansOn s (t.beginShutdown r) := by
  obtain ⟨hpower, hswitches⟩ := h
  rw [← hpower] at hp
  refine ⟨by rw [(State.beginShutdown_supply hp).1]; decide, fun j => ?_⟩
  rw [State.beginShutdown_switches r hp, vector_get_ofFn, hswitches]
  exact ⟨rfl, rfl, rfl⟩

/-- The action of a release lets the scan go on (R16). -/
theorem State.releaseAction_scansOn {s t : State} (h : SwitchesStand s t) (hp : s.supply.power = .run) (held : Held) :
    ScansOn s (t.releaseAction held) := by
  have hrun : s.supply.power ≠ .standby := by rw [hp]; decide
  unfold State.releaseAction
  split
  · split_ifs
    · exact (h.trans (State.panelRecall_stands t _)).scansOn hrun
    · exact h.scansOn hrun
  · exact h.shutdown (.inl hp)
  · exact h.scansOn hrun

/-- An accepted release of a held record in RUN: the modifiers, the token and the action, as far as the record lets it (R14, R16). -/
theorem State.release_taken (hp : s.supply.power = .run) (hh : (s.controls.switches.get i).held = some h)
    (hb : b = { s with controls := { s.controls with
      switches := s.controls.switches.set i { s.controls.switches.get i with
        accepted := false, count := 0, polls := 0, held := none } : Controls }.withRelease i h }) :
    ∃ c, TokenMadeIf (h.lockedOut = false ∧ h.silent = false ∧ h.entry.release = true) (tokenWord i.val .release h.layer) b c ∧
      ReleaseActed h c ((s.setAccepted i false).release i) ∧ ScansOn b ((s.setAccepted i false).release i) := by
  have hheld : ((s.setAccepted i false).controls.switches.get i).held = some h := by
    simp only [State.setAccepted, State.setSwitch, vector_get_set, if_true, hh]
  have hmods : ((s.setAccepted i false).setHeld i none).releaseModifiers i h = b := by
    rw [State.setAccepted_setHeld, State.releaseModifiers_eq, hb]
  have hpb : b.supply.power = .run := by rw [hb]; exact hp
  have hrun : b.supply.power ≠ .standby := by rw [hpb]; decide
  unfold State.release State.releaseHeld
  rw [hheld]
  dsimp only
  rw [hmods]
  by_cases hlocked : h.lockedOut = true
  · rw [if_pos hlocked]
    refine ⟨b, ⟨fun hm => ?_, fun _ => rfl⟩, ⟨fun _ => rfl, fun hl => ?_⟩, (SwitchesStand.refl b).scansOn hrun⟩
    · obtain ⟨hl, -, -⟩ := hm
      simp [hl] at hlocked
    · simp [hl] at hlocked
  · have hfree : h.lockedOut = false := by simpa using hlocked
    rw [if_neg hlocked]
    by_cases hsilent : h.silent = true
    · rw [if_pos hsilent]
      have hno : ¬(h.lockedOut = false ∧ h.silent = false ∧ h.entry.release = true) := by simp [hsilent]
      refine ⟨b, ⟨fun hm => absurd hm hno, fun _ => rfl⟩, ⟨fun hl => absurd hl hlocked, fun _ => ⟨fun ha hk => ?_, fun n hs => ?_,
        fun ha _ => ?_⟩⟩, ?_⟩
      · rw [if_pos ⟨ha, hk⟩]
        exact State.beginShutdown_begun .operator b (.inl hpb)
      · simp [hsilent] at hs
      · rw [if_neg]
        rintro ⟨hpow, hlatch⟩
        rcases ha with ha | ha
        · exact ha hpow
        · simp [ha] at hlatch
      · split_ifs
        · exact (SwitchesStand.refl b).shutdown (.inl hpb)
        · exact (SwitchesStand.refl b).scansOn hrun
    · have hloud : h.silent = false := by simpa using hsilent
      have hmade : (h.lockedOut = false ∧ h.silent = false ∧ h.entry.release = true) ↔ h.entry.release = true := by simp [hfree, hloud]
      have hstands := State.tokenIf_stands b h.entry.release (tokenWord i.val .release h.layer)
      rw [if_neg hsilent, hmade]
      exact ⟨_, State.tokenIf_made _ _ b, State.releaseAction_acted h _ (hstands.1.trans hpb) hfree hloud,
        State.releaseAction_scansOn hstands hpb h⟩

/-- A release without a held record in RUN (R14). -/
theorem State.release_none (hh : (s.controls.switches.get i).held = none) :
    (s.setAccepted i false).release i = { s with controls.switches := s.controls.switches.set i { s.controls.switches.get i with
      accepted := false, count := 0, polls := 0, held := none } } := by
  have hheld : ((s.setAccepted i false).controls.switches.get i).held = none := by
    simp only [State.setAccepted, State.setSwitch, vector_get_set, if_true, hh]
  unfold State.release
  rw [hheld]
  dsimp only
  rw [← hh]
  rfl

end accepted

/-! ### Scans outside STANDBY -/

section outside

variable {levels : Vector Bool 24} {s b x v : State} {i : Fin 24} {level : Bool}

/-- The scan interval outside STANDBY (R2). -/
theorem scanInterval_awake {p : PowerState} (hp : p ≠ .standby) : scanInterval p = 1000 := by
  cases p with
  | standby => exact absurd rfl hp
  | init | run | shutdown => rfl

/-- In RUN an accepted press is worked (R12). -/
theorem State.acceptedChange_press (h : s.supply.power = .run) : s.acceptedChange i true = s.press i := by
  unfold State.acceptedChange
  rw [h]

/-- In RUN an accepted release is worked (R14). -/
theorem State.acceptedChange_release (h : s.supply.power = .run) : s.acceptedChange i false = s.release i := by
  unfold State.acceptedChange
  rw [h]

/-- In INIT and SHUTDOWN a press is taken silently (R4). -/
theorem State.acceptedChange_silent (h : s.supply.power = .init ∨ s.supply.power = .shutdown) : s.acceptedChange i true = s := by
  unfold State.acceptedChange
  rcases h with h | h <;> rw [h]

/-- In INIT and SHUTDOWN a release drops the record (R4). -/
theorem State.acceptedChange_drops (h : s.supply.power = .init ∨ s.supply.power = .shutdown) :
    s.acceptedChange i false = s.dropHeld i := by
  unfold State.acceptedChange
  rcases h with h | h <;> rw [h]

/-- An accepted release of an input without a held record (R2, R14). -/
theorem State.acceptedChange_unheld (hp : s.supply.power ≠ .standby) (hh : (s.controls.switches.get i).held = none) :
    (s.setAccepted i false).acceptedChange i false = { s with
      controls.switches := s.controls.switches.set i { s.controls.switches.get i with
        accepted := false, count := 0, polls := 0, held := none } } := by
  by_cases hrun : s.supply.power = .run
  · exact (State.acceptedChange_release (s := s.setAccepted i false) hrun).trans (State.release_none hh)
  · have hsilent : s.supply.power = .init ∨ s.supply.power = .shutdown := by
      cases h : s.supply.power with
      | run => exact absurd h hrun
      | standby => exact absurd h hp
      | init => exact .inl rfl
      | shutdown => exact .inr rfl
    refine (State.acceptedChange_drops (s := s.setAccepted i false) hsilent).trans ?_
    rw [State.dropHeld_setAccepted, hh]
    rfl

/-- Every input but `i` reads as accepted and counts nothing. -/
def OthersStand (levels : Vector Bool 24) (i : Fin 24) (s : State) : Prop :=
  ∀ j, j ≠ i → (s.controls.switches.get j).config.enabled = true → (s.controls.switches.get j).count = 0 ∧
    pressed (s.controls.switches.get j).config (levels.get j) = (s.controls.switches.get j).accepted

/-- A change of one input after which the scan goes on leaves the other inputs. -/
theorem ScansOn.after (h : ScansOn x v) (hx : ∀ j, j ≠ i → x.controls.switches.get j = s.controls.switches.get j)
    (hs : OthersStand levels i s) : ∀ j, j ≠ i → State.scanInput levels v j = v := by
  obtain ⟨hp, hsame⟩ := h
  intro j hj
  obtain ⟨hconfig, haccepted, hcount⟩ := hsame j
  rw [hx j hj] at hconfig haccepted hcount
  refine State.scanInput_stands hp fun he => ?_
  rw [hconfig] at he ⊢
  rw [hcount, haccepted]
  exact hs j hj he

/-- A switch written leaves the others. -/
theorem switches_set_ne {α : Type} {w : Vector α 24} {y : α} {i : Fin 24} : ∀ j, j ≠ i → (w.set i y).get j = w.get j := fun j hj => by
  rw [vector_get_set, if_neg hj.symm]

/-- SCAN outside STANDBY in which one input's fourth differing scan is accepted. -/
theorem exec_scan_accepted (hfirst : s.controls.firstScan = false) (hp : s.supply.power ≠ .standby)
    (he : (s.controls.switches.get i).config.enabled = true) (hcount : (s.controls.switches.get i).count = 3)
    (hlevel : pressed (s.controls.switches.get i).config (levels.get i) = level) (hdiff : level ≠ (s.controls.switches.get i).accepted)
    (hothers : OthersStand levels i s)
    (hb : b = { s with clock := max s.clock s.controls.scanDue, controls.scanDue := s.controls.scanDue + 1000 })
    (hx : ∀ j, j ≠ i → x.controls.switches.get j = s.controls.switches.get j)
    (hv : (b.setAccepted i level).acceptedChange i level = v) (hscan : ScansOn x v) :
    exec (.scan levels) s = .next (settle v) := by
  have hbs : b.supply = s.supply ∧ b.controls.switches = s.controls.switches := by rw [hb]; exact ⟨rfl, rfl⟩
  obtain ⟨hsupply, hswitches⟩ := hbs
  rw [← scanInterval_awake hp] at hb
  rw [← hsupply] at hp
  refine exec_scan_single (i := i) hfirst hb (fun j hj => State.scanInput_stands hp ?_) ?_ (hscan.after hx hothers)
  · rw [hswitches]
    exact hothers j hj
  · rw [← hswitches] at he hcount hlevel hdiff
    exact (State.scanInput_accepts hp he hcount hlevel hdiff).trans hv

/-- SCAN in RUN in which a press is accepted that resolves in a layer (R12 to R15). -/
theorem exec_scan_pressed {layer : Layer} {h : Held} (hfirst : s.controls.firstScan = false)
    (he : (s.controls.switches.get i).config.enabled = true) (hcount : (s.controls.switches.get i).count = 3)
    (hoff : (s.controls.switches.get i).accepted = false)
    (hlevel : pressed (s.controls.switches.get i).config (levels.get i) = true) (hothers : OthersStand levels i s)
    (hrun : s.supply.power = .run) (hl : ResolvesIn s i layer)
    (hh : h = ⟨layer, (s.controls.keymap.layer layer).get i, (s.controls.switches.get i).config.kind, false, false,
      if (s.controls.switches.get i).config.kind = .momentary then .running else .idle,
      if (s.controls.switches.get i).config.kind = .momentary then some (max s.clock s.controls.scanDue + 800000) else none⟩) :
    ∃ b c u : State,
      b = { s with
        clock := max s.clock s.controls.scanDue
        controls := { s.controls with
            scanDue := s.controls.scanDue + 1000
            switches := s.controls.switches.set i { s.controls.switches.get i with
              accepted := true, count := 0, polls := 0, held := some h } : Controls }.withPress i h } ∧
      TokenMadeIf (h.entry.action = .token ∨ (h.entry.action ≠ .flush ∧ h.entry.press = true)) (tokenWord i.val .press layer) b c ∧
      PressActed h c u ∧ exec (.scan levels) s = .next (settle u) := by
  have hp : s.supply.power ≠ .standby := by rw [hrun]; decide
  obtain ⟨c, htoken, hacted, hstands⟩ := State.press_resolved (s := { s with
    clock := max s.clock s.controls.scanDue, controls.scanDue := s.controls.scanDue + 1000 }) hl hh rfl
  refine ⟨_, c, _, rfl, htoken, hacted, ?_⟩
  exact exec_scan_accepted hfirst hp he hcount hlevel (by rw [hoff]; decide) hothers rfl switches_set_ne
    (State.acceptedChange_press hrun) (hstands.scansOn hp)

end outside

/-! ### Polls in STANDBY -/

section standby

variable {levels : Vector Bool 24} {s b x v : State} {i : Fin 24} {level : Bool}

/-- An input that reads otherwise in STANDBY is polled (R5): nothing where STANDBY does not poll for its change, a count at the first
poll, and the change at the second. -/
theorem State.scanInput_polls (hp : s.supply.power = .standby) (he : (s.controls.switches.get i).config.enabled = true)
    (hlevel : level = pressed (s.controls.switches.get i).config (levels.get i)) (hdiff : level ≠ (s.controls.switches.get i).accepted) :
    (s.pollChange i level = none → State.scanInput levels s i = s) ∧
    (∀ u, s.pollChange i level = some u →
      ((s.controls.switches.get i).polls = 0 →
        State.scanInput levels s i = s.setSwitch i { s.controls.switches.get i with polls := 1 }) ∧
      ((s.controls.switches.get i).polls = 1 → State.scanInput levels s i = u)) := by
  unfold State.scanInput
  dsimp only
  rw [if_pos he, if_pos hp, ← hlevel, State.poll, if_neg hdiff]
  refine ⟨fun h => by rw [h], fun u h => ⟨fun h0 => ?_, fun h1 => ?_⟩⟩
  · rw [h, h0]
    rfl
  · rw [h, h1]
    rfl

/-- Every input but `i` reads as accepted in STANDBY and was not polled otherwise. -/
def OthersRest (levels : Vector Bool 24) (i : Fin 24) (s : State) : Prop :=
  ∀ j, j ≠ i → (s.controls.switches.get j).config.enabled = true → (s.controls.switches.get j).polls = 0 ∧
    pressed (s.controls.switches.get j).config (levels.get j) = (s.controls.switches.get j).accepted

/-- The rest of a scan in STANDBY leaves the inputs that rest. -/
theorem OthersRest.after (h : OthersRest levels i s) (hp : v.supply.power = .standby)
    (hv : ∀ j, j ≠ i → v.controls.switches.get j = s.controls.switches.get j) : ∀ j, j ≠ i → State.scanInput levels v j = v :=
  fun j hj => State.scanInput_rests hp (by rw [hv j hj]; exact h j hj)

/-- SCAN in STANDBY in which one input reads otherwise (R5). -/
theorem exec_scan_polled (hfirst : s.controls.firstScan = false) (hp : s.supply.power = .standby)
    (he : (s.controls.switches.get i).config.enabled = true)
    (hlevel : level = pressed (s.controls.switches.get i).config (levels.get i)) (hdiff : level ≠ (s.controls.switches.get i).accepted)
    (hothers : OthersRest levels i s)
    (hb : b = { s with clock := max s.clock s.controls.scanDue, controls.scanDue := s.controls.scanDue + 32000 })
    (hv : (b.pollChange i level = none ∧ v = b) ∨ ∃ u, b.pollChange i level = some u ∧
      (((s.controls.switches.get i).polls = 0 ∧ v = b.setSwitch i { s.controls.switches.get i with polls := 1 }) ∨
        ((s.controls.switches.get i).polls = 1 ∧ v = u)))
    (hafter : ∀ j, j ≠ i → State.scanInput levels v j = v) : exec (.scan levels) s = .next (settle v) := by
  have hbs : b.supply = s.supply ∧ b.controls.switches = s.controls.switches := by rw [hb]; exact ⟨rfl, rfl⟩
  obtain ⟨hsupply, hswitches⟩ := hbs
  have hpb : b.supply.power = .standby := by rw [hsupply]; exact hp
  have hinterval : scanInterval s.supply.power = 32000 := by rw [hp]; rfl
  rw [← hinterval] at hb
  refine exec_scan_single (i := i) hfirst hb (hothers.after hpb fun j _ => by rw [hswitches]) ?_ hafter
  rw [← hswitches] at he hlevel hdiff hv
  obtain ⟨hnone, hsome⟩ := State.scanInput_polls hpb he hlevel hdiff
  rcases hv with ⟨hc, rfl⟩ | ⟨u, hc, ⟨hpolls, rfl⟩ | ⟨hpolls, rfl⟩⟩
  · exact hnone hc
  · exact (hsome u hc).1 hpolls
  · exact (hsome v hc).2 hpolls

/-- The POWER switch turned off is polled for (R5). -/
theorem State.pollChange_off (h : level = false ∧ (s.controls.switches.get i).config.kind = .latching ∧
    (s.controls.keymap.plain.get i).action = .power) : s.pollChange i level = some (s.powerOff i) := by
  obtain ⟨hlevel, hkind, haction⟩ := h
  exact if_pos ⟨hlevel, by simp [Controls.isPowerSwitch, hkind, haction]⟩

/-- A wake input is polled for (R5). -/
theorem State.pollChange_wake (h : ¬(level = false ∧ (s.controls.switches.get i).config.kind = .latching ∧
    (s.controls.keymap.plain.get i).action = .power)) (hw : (s.controls.switches.get i).config.wake = true) :
    s.pollChange i level = some (s.wakeChange i level) := by
  rw [State.pollChange, if_neg (by simpa [Controls.isPowerSwitch] using h), if_pos hw]

/-- Any other input is not polled for (R5). -/
theorem State.pollChange_none (h : ¬(level = false ∧ (s.controls.switches.get i).config.kind = .latching ∧
    (s.controls.keymap.plain.get i).action = .power)) (hw : (s.controls.switches.get i).config.wake = false) :
    s.pollChange i level = none := by
  rw [State.pollChange, if_neg (by simpa [Controls.isPowerSwitch] using h), if_neg (by simp [hw])]

/-- Records that are discarded leave the switches. -/
theorem Controls.withoutHeld_switches (c : Controls) (i : Fin 24) (h : Option Held) : (c.withoutHeld i h).switches = c.switches := by
  cases h <;> rfl

/-- A wake input's change to ACTIVE (R5, R187). -/
theorem State.wakeChange_on {h : Held} (hp : s.supply.power = .standby)
    (hh : h = ⟨.plain, s.controls.keymap.plain.get i, (s.controls.switches.get i).config.kind, false, true, .idle, none⟩)
    (hx : x = { s with controls := { s.controls with
      switches := s.controls.switches.set i { s.controls.switches.get i with
        accepted := true, count := 0, polls := 0, held := some h } : Controls }.withPress i h }) :
    WakeTaken i x (s.wakeChange i true) ∧ SwitchesStand x (s.wakeChange i true) := by
  have hheld : (s.setAccepted i true).controls.silentHeld i = h := by
    rw [hh]
    simp only [Controls.silentHeld, State.setAccepted, State.setSwitch, vector_get_set, if_true]
  have hchange : s.wakeChange i true = x.wake i := by
    unfold State.wakeChange
    dsimp only
    rw [if_pos rfl, hheld, State.setAccepted_setHeld, State.pressModifiers_eq, hx]
  rw [hchange]
  exact ⟨State.wake_taken i x (by rw [hx]; exact hp), State.wake_stands x i⟩

/-- A wake input's change to INACTIVE (R5, R187). -/
theorem State.wakeChange_off (hp : s.supply.power = .standby)
    (hx : x = { s with controls := { s.controls with
      switches := s.controls.switches.set i { s.controls.switches.get i with
        accepted := false, count := 0, polls := 0, held := none } : Controls }.withoutHeld i (s.controls.switches.get i).held }) :
    WakeTaken i x (s.wakeChange i false) ∧ SwitchesStand x (s.wakeChange i false) := by
  have hchange : s.wakeChange i false = x.wake i := by
    unfold State.wakeChange
    dsimp only
    rw [if_neg (by decide), State.dropHeld_setAccepted, hx]
  rw [hchange]
  exact ⟨State.wake_taken i x (by rw [hx]; exact hp), State.wake_stands x i⟩

end standby

/-! ### The obligation -/

/-- The first scan after a reset takes every enabled input at the level read (R4). -/
theorem exec_scan_first {levels : Vector Bool 24} {s : State} (h : s.controls.firstScan = true) :
    exec (.scan levels) s = .next (settle { s with
      clock := max s.clock s.controls.scanDue
      controls.firstScan := false
      controls.scanDue := s.controls.scanDue + if s.supply.power = .standby then 32000 else 1000
      controls.switches := .ofFn fun i => { s.controls.switches.get i with
        count := 0
        accepted := (s.controls.switches.get i).config.enabled &&
          pressed (s.controls.switches.get i).config (levels.get i) } }) := by
  have hinterval : scanInterval s.supply.power = if s.supply.power = .standby then 32000 else 1000 := by
    cases s.supply.power <;> rfl
  rw [← hinterval]
  exact congrArg finish (if_pos h)

/-- A scan outside STANDBY that accepts no change moves the counts (R2). -/
theorem exec_scan_counts {levels : Vector Bool 24} {s : State} (hfirst : s.controls.firstScan = false)
    (hp : s.supply.power ≠ .standby) (h : ∀ i, (s.controls.switches.get i).config.enabled = true →
      pressed (s.controls.switches.get i).config (levels.get i) = (s.controls.switches.get i).accepted ∨
        (s.controls.switches.get i).count < 3) :
    exec (.scan levels) s = .next (settle { s with
      clock := max s.clock s.controls.scanDue
      controls.scanDue := s.controls.scanDue + 1000
      controls.switches := .ofFn fun i => if (s.controls.switches.get i).config.enabled then
          { s.controls.switches.get i with
            count := if pressed (s.controls.switches.get i).config (levels.get i) = (s.controls.switches.get i).accepted then 0
              else (s.controls.switches.get i).count + 1 }
        else s.controls.switches.get i }) := by
  rw [← scanInterval_awake hp]
  refine exec_scan_switches hfirst rfl fun w i hw hsw => ?_
  have hsw : w.controls.switches.get i = s.controls.switches.get i := hsw
  have hpw : w.supply.power ≠ .standby := by rw [hw]; exact hp
  unfold State.scanInput State.debounce
  dsimp only
  rw [hsw, if_neg hpw]
  by_cases he : (s.controls.switches.get i).config.enabled = true
  · rw [if_pos he, if_pos he]
    by_cases hl : pressed (s.controls.switches.get i).config (levels.get i) = (s.controls.switches.get i).accepted
    · rw [if_pos hl, if_pos hl]
    · rw [if_neg hl, if_neg hl, if_pos ((h i he).resolve_left hl)]
  · rw [if_neg he, if_neg he, ← hsw]
    exact (State.setSwitch_self w i).symm

/-- A scan in STANDBY without a difference clears the counts (R5). -/
theorem exec_scan_clears {levels : Vector Bool 24} {s : State} (hfirst : s.controls.firstScan = false)
    (hp : s.supply.power = .standby) (h : ∀ i, (s.controls.switches.get i).config.enabled = true →
      pressed (s.controls.switches.get i).config (levels.get i) = (s.controls.switches.get i).accepted) :
    exec (.scan levels) s = .next (settle { s with
      clock := max s.clock s.controls.scanDue
      controls.scanDue := s.controls.scanDue + 32000
      controls.switches := .ofFn fun i => if (s.controls.switches.get i).config.enabled then
          { s.controls.switches.get i with polls := 0 } else s.controls.switches.get i }) := by
  have hinterval : scanInterval s.supply.power = 32000 := by rw [hp]; rfl
  rw [← hinterval]
  refine exec_scan_switches hfirst rfl fun w i hw hsw => ?_
  have hsw : w.controls.switches.get i = s.controls.switches.get i := hsw
  have hpw : w.supply.power = .standby := by rw [hw]; exact hp
  unfold State.scanInput State.poll
  dsimp only
  rw [hsw, if_pos hpw]
  by_cases he : (s.controls.switches.get i).config.enabled = true
  · rw [if_pos he, if_pos he, if_pos (h i he)]
  · rw [if_neg he, if_neg he, ← hsw]
    exact (State.setSwitch_self w i).symm

/-- Settles O52: a scan at which one input differs is the work on that input; the rest of the scan leaves the part. -/
theorem scansDebounceAndAccept : Obligations.ScansDebounceAndAccept := by
  intro levels s
  obtain ⟨b₁, hb₁⟩ : ∃ b₁ : State, b₁ = { s with
    clock := max s.clock s.controls.scanDue, controls.scanDue := s.controls.scanDue + 1000 } := ⟨_, rfl⟩
  have hsame : b₁.supply = s.supply ∧ b₁.controls.switches = s.controls.switches := by rw [hb₁]; exact ⟨rfl, rfl⟩
  obtain ⟨hsupply, hswitches⟩ := hsame
  have hset : ∀ (i : Fin 24) (w : Switch) (j : Fin 24), j ≠ i →
      (b₁.controls.switches.set i w).get j = s.controls.switches.get j := fun i w j hj => by
    rw [switches_set_ne j hj, hswitches]
  refine ⟨exec_scan_first, exec_scan_counts, fun i hfirst he hcount hoff hlevel hothers => ⟨fun hp => ?_,
    fun hrun hlock hmenu hassign haction hkind hlen => ?_, fun hrun hlock h1 h2 h3 => ?_, fun layer h hrun hl hh => ?_⟩,
    fun i hfirst hp he hcount hon hlevel hothers => ⟨fun hnone => ?_, fun h hsome => ⟨_, rfl, fun hsilent => ?_, fun hrun => ?_⟩⟩,
    fun i level powerOff b hfirst hp he hlevel hdiff hothers hoff hb => ⟨fun hw hpow => ?_, fun hpolled hpolls => ?_,
    fun hpow hpolls hcounts => ?_, fun hw hpow hpolls => ?_⟩, exec_scan_clears⟩
  · have hawake : s.supply.power ≠ .standby := by rcases hp with h | h <;> rw [h] <;> decide
    have hexec := exec_scan_accepted hfirst hawake he hcount hlevel (by rw [hoff]; decide) hothers hb₁ (hset i _)
      (State.acceptedChange_silent (s := b₁.setAccepted i true) (hsupply ▸ hp))
      ((SwitchesStand.refl (b₁.setAccepted i true)).scansOn (hsupply ▸ hawake))
    subst hb₁
    exact hexec
  · obtain ⟨b, c, u, hb, htoken, hacted, hexec⟩ := exec_scan_pressed (layer := .plain) hfirst he hcount hoff hlevel hothers hrun
      (.inr (.inr (.inr ⟨hlock, hmenu, hassign, rfl⟩))) rfl
    have hkeep : b.controls.tokens = s.controls.tokens ∧ b.port = s.port := by rw [hb]; exact ⟨rfl, rfl⟩
    obtain ⟨htokens, hport⟩ := hkeep
    have hmade := htoken.made_room (.inl haction) (by rw [htokens]; exact hlen)
    have hu : u = c := by
      unfold PressActed at hacted
      simp only [Keymap.layer, haction] at hacted
      exact hacted
    rw [hexec, hu, hmade, htokens, hport, hb]
    have hword : tokenWord i.val .press .plain = BitVec.ofNat 16 (i.val * 256 + 1) := by
      simp [tokenWord, layerCode, tokenKindCode]
    simp only [hword, Keymap.layer, haction, hkind, Controls.withPress, if_true, reduceCtorEq, if_false]
  · have hp : s.supply.power ≠ .standby := by rw [hrun]; decide
    have hlocked := State.press_locked (s := b₁) (i := i) (by rw [hb₁]; exact hlock) (by rw [hb₁]; exact h1) (by rw [hb₁]; exact h2)
      (by rw [hb₁]; exact h3)
    have hexec := exec_scan_accepted hfirst hp he hcount hlevel (by rw [hoff]; decide) hothers hb₁ (hset i _)
      ((State.acceptedChange_press (s := b₁.setAccepted i true) (hsupply ▸ hrun)).trans hlocked)
      (SwitchesStand.scansOn (SwitchesStand.refl _) (hsupply ▸ hp))
    subst hb₁
    exact hexec
  · exact exec_scan_pressed hfirst he hcount hoff hlevel hothers hrun hl hh
  · have hnone₁ : (b₁.controls.switches.get i).held = none := by rw [hswitches]; exact hnone
    have hexec := exec_scan_accepted hfirst hp he hcount hlevel (by rw [hon]; decide) hothers hb₁ (hset i _)
      (State.acceptedChange_unheld (hsupply ▸ hp) hnone₁)
      (SwitchesStand.scansOn (SwitchesStand.refl _) (hsupply ▸ hp))
    subst hb₁
    exact hexec
  · have hsome₁ : (b₁.controls.switches.get i).held = some h := by rw [hswitches]; exact hsome
    have hdrop := State.dropHeld_setAccepted b₁ i false
    rw [hsome₁] at hdrop
    have hexec := exec_scan_accepted hfirst hp he hcount hlevel (by rw [hon]; decide) hothers hb₁ (hset i _)
      ((State.acceptedChange_drops (s := b₁.setAccepted i false) (hsupply ▸ hsilent)).trans hdrop)
      (SwitchesStand.scansOn (SwitchesStand.refl _) (hsupply ▸ hp))
    subst hb₁
    exact hexec
  · have hsome₁ : (b₁.controls.switches.get i).held = some h := by rw [hswitches]; exact hsome
    obtain ⟨c, htoken, hacted, hscan⟩ := State.release_taken (s := b₁) (hsupply ▸ hrun) hsome₁ rfl
    have hexec := exec_scan_accepted hfirst hp he hcount hlevel (by rw [hon]; decide) hothers hb₁ (hset i _)
      (State.acceptedChange_release (s := b₁.setAccepted i false) (hsupply ▸ hrun)) hscan
    subst hb₁
    exact ⟨c, _, htoken, hacted, hexec⟩
  · have hnot : ¬(level = false ∧ (b.controls.switches.get i).config.kind = .latching ∧ (b.controls.keymap.plain.get i).action = .power) := by
      rw [hb, ← hoff, hpow]
      decide
    have hchange := State.pollChange_none hnot (by rw [hb]; exact hw)
    refine exec_scan_polled hfirst hp he hlevel hdiff hothers hb (.inl ⟨hchange, rfl⟩) ?_
    exact OthersRest.after hothers (by rw [hb]; exact hp) fun j _ => by rw [hb]
  · have hchange : ∃ u, b.pollChange i level = some u := by
      cases hpow : powerOff with
      | true => exact ⟨_, State.pollChange_off (by rw [hb]; exact hoff.1 hpow)⟩
      | false =>
        have hnot : ¬(level = false ∧ (b.controls.switches.get i).config.kind = .latching ∧
            (b.controls.keymap.plain.get i).action = .power) := by
          rw [hb, ← hoff, hpow]
          decide
        exact ⟨_, State.pollChange_wake hnot (by rw [hb]; exact hpolled.resolve_right (by simp [hpow]))⟩
    obtain ⟨u, hu⟩ := hchange
    have hexec := exec_scan_polled (v := b.setSwitch i { s.controls.switches.get i with polls := 1 }) hfirst hp he hlevel hdiff hothers hb
      (.inr ⟨u, hu, .inl ⟨hpolls, rfl⟩⟩)
      (OthersRest.after hothers (by rw [hb]; exact hp) fun j hj => (switches_set_ne j hj).trans (by rw [hb]))
    subst hb
    exact hexec
  · obtain ⟨rfl, hkind, haction⟩ := hoff.1 hpow
    have hpb : b.supply.power = .standby := by rw [hb]; exact hp
    obtain ⟨x, hx⟩ : ∃ x, x = (b.setAccepted i false).dropHeld i := ⟨_, rfl⟩
    have hxform := hx.trans (State.dropHeld_setAccepted b i false)
    have hchange : b.pollChange i false = some (x.beginShutdown .operator) := by
      rw [hx]
      exact State.pollChange_off (by rw [hb]; exact ⟨rfl, hkind, haction⟩)
    have hpx : x.supply.power = .standby := by rw [hxform]; exact hpb
    have hexec := exec_scan_polled (v := x.beginShutdown .operator) hfirst hp he hlevel hdiff hothers hb (.inr ⟨_, hchange, .inr ⟨hpolls, rfl⟩⟩)
      (ScansOn.after (s := s) ((SwitchesStand.refl x).shutdown (.inr hpx))
        (fun j hj => by rw [hxform, hb]; exact (congrArg (Vector.get · j) (Controls.withoutHeld_switches _ _ _)).trans (switches_set_ne j hj))
        fun j hj hej => ⟨hcounts j hj hej, (hothers j hj hej).2⟩)
    refine ⟨_, ?_, hexec⟩
    have hbegun := State.beginShutdown_begun .operator x (.inr hpx)
    subst hb
    exact hxform ▸ hbegun
  · have hpb : b.supply.power = .standby := by rw [hb]; exact hp
    have hsw : b.controls.switches = s.controls.switches := by rw [hb]
    have hnot : ¬(level = false ∧ (b.controls.switches.get i).config.kind = .latching ∧
        (b.controls.keymap.plain.get i).action = .power) := by
      rw [hb, ← hoff, hpow]
      decide
    have hchange := State.pollChange_wake hnot (by rw [hsw]; exact hw)
    have hafter : ∀ (x : State) (w : Switch), SwitchesStand x (b.wakeChange i level) → x.supply = b.supply →
        x.controls.switches = b.controls.switches.set i w →
        ∀ j, j ≠ i → State.scanInput levels (b.wakeChange i level) j = b.wakeChange i level := fun x w hstands hxs hxw =>
      OthersRest.after hothers (by rw [hstands.1, hxs]; exact hpb) fun j hj => by
        rw [hstands.2, hxw, switches_set_ne j hj, hsw]
    refine ⟨b.wakeChange i level, ?_⟩
    cases level with
    | true =>
      obtain ⟨htaken, hstands⟩ := State.wakeChange_on (i := i) hpb rfl rfl
      have hexec := exec_scan_polled hfirst hp he hlevel hdiff hothers hb (.inr ⟨_, hchange, .inr ⟨hpolls, rfl⟩⟩) (hafter _ _ hstands rfl rfl)
      refine ⟨fun h _ hh => ?_, fun h => by simp at h, hexec⟩
      subst hb hh
      exact htaken
    | false =>
      obtain ⟨htaken, hstands⟩ := State.wakeChange_off (i := i) hpb rfl
      have hexec := exec_scan_polled hfirst hp he hlevel hdiff hothers hb (.inr ⟨_, hchange, .inr ⟨hpolls, rfl⟩⟩)
        (hafter _ _ hstands rfl (Controls.withoutHeld_switches _ _ _))
      refine ⟨fun h hl => by simp at hl, fun _ => ?_, hexec⟩
      subst hb
      exact htaken

end Sys2Proof.Machine
